-- ==== Sys2Proof/Word.lean ====
section
/-!
DEFINITION. The plain word types of the QH8 model and the sparse table every numbered thing is kept in.

A table lists (number, value) pairs in rising order of number; a number it does not list has the type's
default value.
-/
namespace Sys2Proof

/-- Eight bits (R2). -/
abbrev Byte := BitVec 8
/-- The 256-bit payload of a data token, and one 32-byte word of memory (R36, R237). -/
abbrev Payload := BitVec 256
/-- The 32-bit control token (R42). -/
abbrev CTok := BitVec 32
/-- Values by number, the numbers rising; an unlisted number has the default value. -/
abbrev Tbl (α : Type) := List (Nat × α)

end Sys2Proof
end

