-- ==== Sys2Proof/Syntax.lean ====
section
/-!
DEFINITION. The commands of the block: one constructor of `Instr` for each row of spec/opcode_table.json, with the
row's operands, and the plain data the operands are made of.
-/
namespace Sys2Proof

/-- A data token: payload and sideband CTX[15:14] LAST[13] PV[12] SEQ[11:0] (R36). -/
structure DTok where
  pay : Payload
  sb : BitVec 16
deriving DecidableEq, Repr, Inhabited

/-- What a route leads to: one of the four channel outputs (0 north, 1 east, 2 south, 3 west), the site's own
unit, or the staging area (R49). -/
inductive Dest where
  | out (dir : Nat)
  | unit
  | staging
deriving DecidableEq, Repr, Inhabited

/-- The route of one input lane: destinations (R49), priority (R51), and for the staging area which data operand
of the operation the lane carries (0 first or taken, 1 second or bypass: R66). -/
structure Route where
  dests : List Dest
  prio : Nat
  role : Nat
deriving DecidableEq, Repr, Inhabited

/-- A cross-bay route: destination bay offset, the site of the destination port cell and its input lane (R81). -/
structure XRoute where
  off : Nat
  port : Nat
  lane : Nat
deriving DecidableEq, Repr, Inhabited

/-- Who sent a command over a ring: the function, the global ring and TAG of its submission entry (R371). -/
structure Req where
  func : Nat
  ring : Nat
  tag : Nat
deriving DecidableEq, Repr, Inhabited

/-- A symbol in error in a stored word as a read meets it: the word's place in the access, the symbol position (0 to
35) and the bits that differ (R238, R239). -/
structure SymErr where
  word : Nat
  pos : Nat
  xor : Nat
deriving DecidableEq, Repr, Inhabited

/-- Registers of a function's configuration space that the model holds: Command (Memory Space Enable, bus-master
enable), MSI-X Message Control, and the others by offset (R354, R377, R382). -/
inductive CfgReg where
  | command | msix
  | other (offset : Nat)
deriving DecidableEq, Repr, Inhabited

/-- SPDM messages on a DOE mailbox (R390). -/
inductive SpdmMsg where
  /-- GET_VERSION. -/
  | version
  /-- GET_CAPABILITIES; the requester insists on an option that R390 does not list. -/
  | capabilities (needsOther : Bool)
  /-- NEGOTIATE_ALGORITHMS; the requester offers every algorithm of R390. -/
  | algorithms (offersOurs : Bool)
  /-- GET_DIGESTS. -/
  | digests
  /-- GET_CERTIFICATE of a slot. -/
  | certificate (slot : Nat)
  /-- CHALLENGE with its nonce. -/
  | challenge (nonce : Nat)
  /-- KEY_EXCHANGE: asks for a session. -/
  | keyExchange
  /-- HEARTBEAT, KEY_UPDATE and END_SESSION of a session. -/
  | heartbeat (session : Nat)
  | keyUpdate (session : Nat)
  | endSession (session : Nat)
  /-- CHUNK_GET or CHUNK_SEND. -/
  | chunk
  /-- IDE_KM over a secured session. -/
  | ideKm (session : Nat)
  /-- A request the device does not support: PSK, mutual authentication, SET_CERTIFICATE, GET_CSR and the like. -/
  | other
deriving DecidableEq, Repr, Inhabited

/-- A frame as a link's receiver finds it (R414 to R417): whether its header decodes and its RSV fields are 0, the header
fields, whether its PTAG verifies the frame before it, whether every segment decodes, the payload segments of 32 bytes
decrypted, and the lane position of every corrected symbol. -/
structure RxFrame where
  hdrOk : Bool
  rsvOk : Bool
  nak : Bool
  replay : Bool
  phase : Bool
  fseq : Nat
  ack : Nat
  credit : List Nat
  ptagOk : Bool
  segsOk : Bool
  segs : List (List Nat)
  corr : List Nat
deriving DecidableEq, Repr, Inhabited
/-- What the verification of a signed image finds: the SIGNER or firmware certificate verifies, and the signature
verifies under its key (R405, R461). -/
structure Verdict where
  cert : Bool
  sig : Bool
deriving DecidableEq, Repr, Inhabited

/-- What a sync manager is set to: start, length and control (R444). -/
structure Sm where
  start : Nat
  len : Nat
  ctrl : Nat
deriving DecidableEq, Repr, Inhabited

/-- The header of a firmware image (R405). -/
structure FwHdr where
  magic : Nat
  kind : Nat
  version : Nat
  svn : Nat
  flags : Nat
  len : Nat
  digest : Nat
deriving DecidableEq, Repr, Inhabited

/-- What a firmware bank or a configuration copy of the flash holds (R458 to R461): whether its image passes R405 or
R461, VERSION, SVN and ADVANCE of a firmware image, SEQ of a configuration copy, the digest that a measurement block
takes, and the DEFAULTS records (index, sub-index, value). -/
structure Bank where
  ok : Bool := false
  version : Nat := 0
  svn : Nat := 0
  advance : Bool := false
  seq : Nat := 0
  digest : Nat := 0
  dflts : List (Nat × Nat × Nat) := []
deriving DecidableEq, Repr, Inhabited

/-- A DIMM as start-up finds it (R246, R247): channel, MRDIMM or RDIMM, data capacity in GiB, ECC devices fitted,
training passed. -/
structure Dimm where
  channel : Nat
  mr : Bool
  gib : Nat
  ecc : Bool
  trained : Bool
deriving DecidableEq, Repr, Inhabited

/-- An expander as start-up finds it (R250 to R252): position, supported kind whose decoder commits, raw bytes, trained
rate in GT/s and width. -/
structure Expander where
  pos : Nat
  good : Bool
  raw : Nat
  rate : Nat
  width : Nat
deriving DecidableEq, Repr, Inhabited

/-- What a start-up finds in the part and on the tray (R490, R491): the PUF key matches the DevID certificate, the
device serial, the boot ROM's digest, what the flash holds in the banks (0, 1 Rhotur; 2, 3 escutcheon; 4, 5
configuration) that the device has not written, GDDR7 training, the DDR5 groups of the part (3 bits), DIMMs,
expanders, logical sites (bay × 120 + site) that fail self-test, spares (bay × 4 + j) that fail it in their place, and
the time from VIN12 to the end of step 9 in µs. -/
structure StartFacts where
  devIdOk : Bool := true
  serial : Nat := 0
  rom : Nat := 0
  flash : List (Nat × Bank) := []
  gddrOk : Bool := true
  groups : Nat := 7
  dimms : List Dimm := []
  expanders : List Expander := []
  badSites : List Nat := []
  badSpares : List Nat := []
  micros : Nat := 0
deriving DecidableEq, Repr, Inhabited

/-- A wake source (R474): activity on a link, a low-power exit of a CXL port (48 to 52), a doorbell and whether the
entries read are REQUESTs, timed work and the domains it needs, a request to a domain. -/
inductive WakeSrc where
  | link (l : Nat)
  | cxl (port : Nat)
  | doorbell (requests : Bool)
  | timer (domains : List Nat)
  | demand (domain : Nat)
deriving DecidableEq, Repr, Inhabited

/-- JTAG instructions (R517); `other` is any opcode that is not one of the open ones. -/
inductive JtagOp where
  | bypass | idcode | sample | extest | extestPulse | extestTrain | clamp | highz
  /-- MAILBOX, with a token: serial, nonce, scope and whether its signature verifies; none: asks for a nonce (R406). -/
  | mailbox (token : Option (Nat × Nat × Nat × Bool))
  | other
deriving DecidableEq, Repr, Inhabited


/-- The commands: first those with operands, then those without. -/
inductive Instr where
  /-- WINDOW_INTERVAL_START. The next interval of windowed count `win` (0 symbol, 1 tag alarm, 2 lane, 3 fabric, 4 renewal) begins (R520). -/
  | windowIntervalStart (win : Nat)
  /-- DATA_TOKEN_ARRIVE. A data token enters input `input` (0 north, 1 east, 2 south, 3 west, 4 local): the next one on the wire, or `tok` from a sender outside the bay; `symErr` payload symbols and `bitErr` sideband bits arrive in error (R45, R62). -/
  | dataTokenArrive (bay row col input : Nat) (tok : Option DTok) (symErr bitErr : Nat)
  /-- CONTROL_TOKEN_ARRIVE. A control token enters a control queue: the next one on the wire, or `tok` from outside the bay; `bitErr` bits arrive in error (R45, R62). -/
  | controlTokenArrive (bay row col input : Nat) (tok : Option CTok) (bitErr : Nat)
  /-- CREDIT_RETURN. The credit on the return wire of input lane `lane` (0 to 4 data, 5 to 9 control) reaches its sender (R46);
  10 and 11 are the data and the control lane of the output to the site's own unit (R35). -/
  | creditReturn (bay row col lane : Nat)
  /-- TOKEN_SEND. The token at the head of lane `lane` leaves on its route: 0 to 4 data queues, 5 to 9 control queues, 10 the unit's own data output, 11 its control output (R49). -/
  | tokenSend (bay row col lane : Nat)
  /-- STAGING_ACCEPT. The staging area accepts halves at the heads of its queues in one fclk (R55, R57). -/
  | stagingAccept (bay row col : Nat)
  /-- PRED. The pair chosen by R59, governed by PRED, fires (R65). -/
  | pred (bay row col : Nat)
  /-- SEL. The pair chosen by R59, governed by SEL, fires in the steering unit (R66). -/
  | sel (bay row col : Nat)
  /-- SHAPE. The SHAPE token at the head of a control queue takes effect (R184). -/
  | shape (bay row col input : Nat)
  /-- CLAIM. The CLAIM token at the head of a control queue takes effect (R188). -/
  | claim (bay row col input : Nat)
  /-- FENCE. The FENCE token at the head of a control queue holds its context, or ends the hold (R43). -/
  | fence (bay row col input : Nat)
  /-- SWITCH. The SWITCH token at the head of a control queue is taken (R89). -/
  | switch (bay row col input : Nat)
  /-- LUTFLIP. The LUTFLIP token at the head of a control queue takes effect, or waits (R166). -/
  | lutflip (bay row col input : Nat)
  /-- FAULT. The FAULT token at the head of a control queue takes effect (R63). -/
  | fault (bay row col input : Nat)
  /-- PAIR_WATCHDOG_EXPIRY. The slot of (ctx, seq) has waited beyond PAIR_WATCHDOG (R61). -/
  | pairWatchdogExpiry (bay row col ctx seq : Nat)
  /-- LOAD. LOAD bay operation for a task and section of the jig (R78). -/
  | load (bay d image digestAt b0 task sect : Nat)
  /-- ARM. ARM bay operation (R78). -/
  | arm (bay d task : Nat)
  /-- ACTIVATE. ACTIVATE bay operation (R79). -/
  | activate (bay d b0 task : Nat)
  /-- CLEAR. CLEAR bay operation (R78). -/
  | clear (bay d task : Nat)
  /-- LOAD_START. The loader of a pending LOAD finds the drawer quiescent and starts (R91). -/
  | loadStart (bay d : Nat)
  /-- LOAD_FINISH. The image has streamed in: symbols found in error in its words, counted from its first; `flip1` and `flip2` give (offset, xor) of bytes that the first and the second read return otherwise than stored (R84, R86). -/
  | loadFinish (bay d : Nat) (errs : List SymErr) (flip1 flip2 : List (Nat × Nat))
  /-- LOAD_WAIT_TIMEOUT. The wait of a pending LOAD at step 2 exceeds LOAD_WAIT_LIMIT (R86). -/
  | loadWaitTimeout (bay d : Nat)
  /-- SOURCE_SWITCH. A source that has finished emits SWITCH (R88), or for T = 0 its annulled tokens and SWITCH (R185). -/
  | sourceSwitch (bay row col d : Nat)
  /-- BAY_QUIESCENT. A bay becomes quiescent for a drawer (R90). -/
  | bayQuiescent (bay d : Nat)
  /-- CHAINED_ADVANCE. A quiescent bay whose section chains advances (R94). -/
  | chainedAdvance (bay : Nat)
  /-- ACCOUNTING_TICK. One fclk of the instance of drawer `d` whose base bay is `bay` (R106, R108). -/
  | accountingTick (bay d : Nat)
  /-- MXC_MAC. The pair chosen by R59, a GO compute pair of a matrix cell, fires (R116). -/
  | mxcMac (bay row col : Nat)
  /-- MXC_SCALE. The pair chosen by R59, a GO pair with SCALE set, fires (R127). -/
  | mxcScale (bay row col : Nat)
  /-- MXC_IMPORT. The pair chosen by R59, a GO pair with IMPORT set, fires (R122). -/
  | mxcImport (bay row col : Nat)
  /-- DRAIN_ROUND_CLEAR. The DRAIN token of mode 0 at the head of a control queue takes effect (R120). -/
  | drainRoundClear (bay row col input : Nat)
  /-- DRAIN_ROUND_KEEP. The DRAIN token of mode 1 takes effect (R120). -/
  | drainRoundKeep (bay row col input : Nat)
  /-- DRAIN_EXPORT_CLEAR. The DRAIN token of mode 2 takes effect (R122). -/
  | drainExportClear (bay row col input : Nat)
  /-- DRAIN_CLEAR. The DRAIN token of mode 3 takes effect (R120). -/
  | drainClear (bay row col input : Nat)
  /-- NONE. The pair chosen by R59 at a function cell with OP NONE (R147, R173). -/
  | fncNone (bay row col : Nat)
  /-- CONVERT. The pair chosen by R59, a compute pair of a cell with OP CONVERT, fires (R147). -/
  | convert (bay row col : Nat)
  /-- FUNC. The same with OP FUNC (R153). -/
  | func (bay row col : Nat)
  /-- FUSE. The same with OP FUSE (R155). -/
  | fuse (bay row col : Nat)
  /-- SELECT. The same with OP SELECT (R168). -/
  | select (bay row col : Nat)
  /-- TEST. The pair chosen by R59, governed by PRED or GO, of a cell with OP TEST fires (R169). -/
  | test (bay row col : Nat)
  /-- LOOKUP. The same with OP LOOKUP (R167). -/
  | lookup (bay row col : Nat)
  /-- SMAX_MAX. The same with OP SMAX_MAX (R156). -/
  | smaxMax (bay row col : Nat)
  /-- SMAX_EXP. The same with OP SMAX_EXP (R157). -/
  | smaxExp (bay row col : Nat)
  /-- SMAX_DIV. The same with OP SMAX_DIV (R158). -/
  | smaxDiv (bay row col : Nat)
  /-- ROWSTAT. The same with OP ROWSTAT (R161). -/
  | rowstat (bay row col : Nat)
  /-- SLICE. The same with OP SLICE (R138, R170). -/
  | slice (bay row col : Nat)
  /-- RECOMBINE. The same with OP RECOMBINE (R139, R170). -/
  | recombine (bay row col : Nat)
  /-- LUT_OPEN. The pair chosen by R59, a GO pair of kind 3, fires or waits (R165). -/
  | lutOpen (bay row col : Nat)
  /-- LUT_WRITE. The pair chosen by R59, a GO pair of kind 2, fires (R165). -/
  | lutWrite (bay row col : Nat)
  /-- LUT_BANK_DRAINED. The last lookup on bank `bank` leaves the pipeline (R166). -/
  | lutBankDrained (bay row col d bank : Nat)
  /-- LUTFLIP_WAIT_TIMEOUT. A waiting LUTFLIP has waited beyond PAIR_WATCHDOG (R166). -/
  | lutflipWaitTimeout (bay row col ctx : Nat)
  /-- EDGE_MODE_WRITE. A write of EDGE_MODE (R175). -/
  | edgeModeWrite (value : Nat)
  /-- EDGE_MODE_CLEAR_EFFECT. The clearing of a bay's EDGE_MODE bit takes effect (R175). -/
  | edgeModeClearEffect (bay : Nat)
  /-- CLAIM_ASK. The CLAIMER of a bay asks the pacer of its section (R187, R188). -/
  | claimAsk (bay d : Nat)
  /-- PACER_RELEASE. The pacer of the base bay releases the claim that is due (R187). -/
  | pacerRelease (b0 d : Nat)
  /-- TALLY_REQUEST. A pacer's request is served by its tally; `remote` names the fabric address, tally number and join key of a tally on another device (R186, R190, R191). -/
  | tallyRequest (b0 d : Nat) (remote : Option (Nat × Nat × Nat))
  /-- TALLY_ANSWER. (R190, R193). -/
  | tallyAnswer (b0 d : Nat)
  /-- FTU_TRANSFER_ISSUE. A fetch unit issues the next transfer of stream `k` (R196). -/
  | ftuTransferIssue (bay row col d k : Nat)
  /-- FTU_TRANSFER_REPLY. The tier's reply to access `acc` returns to its fetch unit (R196). -/
  | ftuTransferReply (acc : Nat)
  /-- SCRATCH_BUFFER_READOUT. A scratch buffer is read out (R200). -/
  | scratchBufferReadout (bay row col d : Nat)
  /-- PLEACH_WAIT_TIMEOUT. The chosen pair waits for an unfilled block beyond PAIR_WATCHDOG (R204). -/
  | pleachWaitTimeout (bay row col : Nat)
  /-- CREATE. `lost`: a tier fails while the frames are being filled (R217). -/
  | create (q : Req) (base tiles place prio : Nat) (lost : Bool)
  /-- PLACE. (R217). -/
  | place (q : Req) (object place prio : Nat)
  /-- MOVE. (R217). -/
  | move (q : Req) (object first count tier : Nat)
  /-- FREE. (R217). -/
  | free (q : Req) (object : Nat)
  /-- FREE_RELEASE. What the FREE of an object waits for has happened (R217). -/
  | freeRelease (object : Nat)
  /-- QUERY. (R217). -/
  | query (q : Req) (object addr : Nat)
  /-- TRANSLATION. Tier access `acc` is taken at its directory port (R224, R225). -/
  | translation (acc : Nat)
  /-- SETTLE_RETURN. (R220). -/
  | settleReturn (tier : Nat)
  /-- MOVE_START. Steps 1 and 2 of the next move of an I/O die's mover (R226). -/
  | moveStart (die : Nat)
  /-- MOVE_COPY. Steps 3 and 4 of the move of a tile; symbols found in error while it is read, and the words that an expander returns with poison, counted in the tile (R226, R252). -/
  | moveCopy (tile : Nat) (errs : List SymErr) (poisoned : List Nat)
  /-- MOVE_COMMIT. Steps 5 and 6 (R226). -/
  | moveCommit (tile : Nat)
  /-- OLD_FRAME_FREE. Step 7 (R226). -/
  | oldFrameFree (tile : Nat)
  /-- TIER_REPLY. The tier controller answers access `acc`: symbols in error, words whose tag fails, words an expander returned with poison, and failed bursts, by word of the access (R224, R239, R243, R252). -/
  | tierReply (acc : Nat) (errs : List SymErr) (tagBad : List Nat) (poisoned : List Nat) (bursts : List (Nat × Nat))
  /-- TAG_REREAD. The second read of the words of access `acc` whose tag failed, as TIER_REPLY has it (R239, R252). -/
  | tagReread (acc : Nat) (errs : List SymErr) (tagBad poisoned : List Nat)
  /-- ACCESS_LIMIT_EXPIRY. (R233). -/
  | accessLimitExpiry (acc : Nat)
  /-- TIER_FAILURE. A cause of R233 has been met. -/
  | tierFailure (tier : Nat)
  /-- DIR_PROBE. (R236). -/
  | dirProbe (addr : Nat)
  /-- NEAR_RETRAIN. (R245). -/
  | nearRetrain (set : Nat)
  /-- DDR5_RETRAIN. (R249). -/
  | ddr5Retrain (channel : Nat)
  /-- SCRUB_READ. The scrub reads the word at device word address `word`, from 2^47 on a word of the directory frames; `overtaken`: a write to it is accepted before the write-back; `lost`: an expander returns it with poison (R252 to R254). -/
  | scrubRead (word : Nat) (errs : List SymErr) (overtaken lost : Bool)
  /-- RESERVE_SPEND. A write of 0x2423:06 (R257, R258). -/
  | reserveSpend (value : Nat)
  /-- EXPANDER_FATAL. (R252). -/
  | expanderFatal (x : Nat)
  /-- EXPANDER_CORRECTABLE. (R252). -/
  | expanderCorrectable (x : Nat)
  /-- EXPANDER_MALFORMED. (R252). -/
  | expanderMalformed (x : Nat)
  /-- EXPANDER_MEDIA_ERROR. The expander names the words at device word address `word` (R252). -/
  | expanderMediaError (x word : Nat)
  /-- EXPANDER_EVENT_RECORD. (R252). -/
  | expanderEventRecord (x detail : Nat)
  /-- REGISTER. Layout header and cut-list header addresses (R259, R372). -/
  | register (q : Req) (header cut : Nat)
  /-- UNREGISTER. (R259). -/
  | unregister (q : Req) (handle : Nat)
  /-- SUBMIT. Graph header address (R260). -/
  | submit (q : Req) (header : Nat)
  /-- GRAPH_COUNT_DONE. The edges of graph entry `g` are counted (R266). -/
  | graphCountDone (g : Nat)
  /-- SAVEPOOL. (R280). -/
  | savepool (q : Req) (object : Nat)
  /-- TASK_ISSUE. Task `t` of graph `g` is issued (R267). -/
  | taskIssue (g t : Nat)
  /-- ISSUE_READS_DONE. The issue reads of the task have returned (R267). -/
  | issueReadsDone (g t : Nat)
  /-- PREEMPT. A PREEMPT of the jig is accepted at a bay (R282). -/
  | preempt (bay : Nat)
  /-- SAVE_FREEZE. Step 3 of the save of a bay (R282). -/
  | saveFreeze (bay : Nat)
  /-- SAVE_STREAM_END. The last region of a bay's save is written (R282). -/
  | saveStreamEnd (bay : Nat)
  /-- SAVE_COMPLETE. Step 6 of the save of a bay ends (R282). -/
  | saveComplete (bay : Nat)
  /-- RESTORE. The restore of a bay starts with the header checks (R286). -/
  | restore (bay : Nat)
  /-- RESTORE_RESUME. The last region of a restore is written back (R282). -/
  | restoreResume (bay : Nat)
  /-- QUANTUM_EXPIRY. The quantum of a task has run out (R277). -/
  | quantumExpiry (g t : Nat)
  /-- TASK_COMPLETE. (R276). -/
  | taskComplete (g t : Nat)
  /-- TASK_TEARDOWN. Steps 1 and 2 of a teardown (R287). -/
  | taskTeardown (g t : Nat)
  /-- TEARDOWN_FINISH. Steps 3 and 4 of a teardown (R287). -/
  | teardownFinish (g t : Nat)
  /-- INTAKE. `sigOk`: the manifest's Ed448 signature verifies under its OWNER_KEY (R292 to R294). -/
  | intake (q : Req) (slot adapter manifest len base tier prio flags : Nat) (sigOk : Bool)
  /-- SHARD_READY. `kind`: 0 device, 1 host (R294, R372). -/
  | shardReady (q : Req) (slot adapter shard kind addr : Nat)
  /-- PLANER_SHARD_START. `data`: what reads of host memory return for a shard in host memory, none where one fails (R295). -/
  | planerShardStart (planer : Nat) (data : Option (List Nat))
  /-- SHARD_CHECK. (R296). -/
  | shardCheck (planer : Nat)
  /-- SHARD_TIMEOUT. (R296). -/
  | shardTimeout (slot adapter : Nat)
  /-- GENERATION_STAGED. (R297). -/
  | generationStaged (slot adapter : Nat)
  /-- COMMIT. (R294). -/
  | commit (q : Req) (slot adapter flags : Nat)
  /-- GENERATION_SWITCH. (R302). -/
  | generationSwitch (slot adapter : Nat)
  /-- DISCARD. (R294). -/
  | discard (q : Req) (slot adapter : Nat)
  /-- RETIRE. (R294). -/
  | retire (q : Req) (slot adapter : Nat)
  /-- HOLD. (R301). -/
  | hold (q : Req) (slot gen : Nat)
  /-- RELEASE. (R301). -/
  | release (q : Req) (slot gen : Nat)
  /-- SLOT_QUERY. (R309). -/
  | slotQuery (q : Req) (slot addr : Nat)
  /-- RELEASE_SLOT. (R294). -/
  | releaseSlot (q : Req) (slot : Nat)
  /-- WEIGHT_SCRUB. A planer reads an output tile of a generation again (R304). -/
  | weightScrub (planer slot adapter gen tile : Nat)
  /-- KVPOOL. (R310). -/
  | kvpool (q : Req) (object runPages cellTiles : Nat)
  /-- SERVE. (R313). -/
  | serve (q : Req) (slot prefill decode verify groups vocab context template area areaLen : Nat)
  /-- UNSERVE. (R313). -/
  | unserve (q : Req) (slot : Nat)
  /-- ENTRY_QUERY. (R316). -/
  | entryQuery (q : Req) (entry addr : Nat)
  /-- CANCEL. (R319). -/
  | cancel (q : Req) (entry : Nat)
  /-- REQUEST. A REQUEST entry with its flags and descriptor address; outcome and bytes of the reads of host memory, where HOST is set (R315, R361). -/
  | request (q : Req) (flags desc hostStatus : Nat) (hostDesc hostPrompt : List Nat)
  /-- THICKET_LOOKUP. (R321). -/
  | thicketLookup (entry : Nat)
  /-- WALK_DONE. (R323). -/
  | walkDone (entry : Nat)
  /-- PUBLISH. (R325). -/
  | publish (entry : Nat)
  /-- EVICT_LEAF. (R326). -/
  | evictLeaf (func : Nat)
  /-- PURGE. (R327). -/
  | purge (func : Nat)
  /-- DEADLINE. (R319). -/
  | deadline (entry : Nat)
  /-- BATCH_CLOSE. The batch of the key that an entry waits under closes (R330). -/
  | batchClose (entry : Nat)
  /-- BATCH_WAIT_EXPIRY. (R330). -/
  | batchWaitExpiry (entry : Nat)
  /-- BATCH_TASK_DONE. (R332). -/
  | batchTaskDone (batch : Nat)
  /-- ENTRY_FINISH. (R318). -/
  | entryFinish (entry : Nat)
  /-- PRUNE_ROW. The next row of a member of a batch (R338). -/
  | pruneRow (batch member : Nat)
  /-- GRAFT_DECISION. (R346). -/
  | graftDecision (batch member : Nat)
  /-- SQ_TAIL. Local ring of a function (R370). -/
  | sqTail (func ring value : Nat)
  /-- CQ_HEAD. (R376). -/
  | cqHead (func ring value : Nat)
  /-- RING_ENABLE. RING_CTRL written with ENABLE = 1 (R367, R369). -/
  | ringEnable (func ring value : Nat)
  /-- RING_DISABLE. RING_CTRL written with ENABLE = 0 (R367, R369). -/
  | ringDisable (func ring value : Nat)
  /-- RING_STOPPED. Global ring (R369). -/
  | ringStopped (ring : Nat)
  /-- RING_ENTRY_READ. (R370). -/
  | ringEntryRead (ring : Nat)
  /-- SUBMISSION_ENTRY. The ring's oldest outstanding read returns with these 64 bytes (R371). -/
  | submissionEntry (ring : Nat) (entry : List Nat)
  /-- COMPLETION_WRITE. (R373). -/
  | completionWrite (ring : Nat)
  /-- CQ_STALL_EXPIRY. (R376). -/
  | cqStallExpiry (ring : Nat)
  /-- COAL_TIME_EXPIRY. (R377). -/
  | coalTimeExpiry (ring : Nat)
  /-- MSIX_PENDING_SEND. (R377). -/
  | msixPendingSend (func vector : Nat)
  /-- RING_RANGE_WRITE. RING_FIRST and RING_COUNT of a function's entry (R358). -/
  | ringRangeWrite (func first count : Nat)
  /-- VECTORS_WRITE. (R358). -/
  | vectorsWrite (func vectors : Nat)
  /-- HDM_WINDOW_WRITE. (R363). -/
  | hdmWindowWrite (window length : Nat)
  /-- HDM_INVALIDATE_DONE. (R363). -/
  | hdmInvalidateDone (window : Nat)
  /-- VF_ENABLE_CHANGE. (R356). -/
  | vfEnableChange (enable : Bool) (numVfs : Nat)
  /-- FLR. (R356). -/
  | flr (func : Nat)
  /-- HOST_MEM_READ. A 64-byte line; `cache`: the host asks to cache it (R364, R365). -/
  | hostMemRead (dpa : Nat) (tee cache : Bool) (tag : Nat)
  /-- HOST_MEM_WRITE. 64 bytes, 256 for a byte that is not written (R364). -/
  | hostMemWrite (dpa : Nat) (data : List Nat) (tee : Bool) (tag : Nat)
  /-- BIRSP. Line number: device address div 64 (R365). -/
  | birsp (line : Nat)
  /-- HOST_SNOOP. (R359). -/
  | hostSnoop (addr : Nat)
  /-- HOST_READ_RESPONSE. (R360). -/
  | hostReadResponse (tag : Nat) (ok : Bool) (data : List Nat)
  /-- HOST_READ_LIMIT_EXPIRY. (R360). -/
  | hostReadLimitExpiry (tag : Nat)
  /-- HOST_LINK_TRAINED. Rate in GT/s (R355). -/
  | hostLinkTrained (rate width : Nat)
  /-- BUS_MASTER_CLEAR. (R382). -/
  | busMasterClear (func : Nat)
  /-- UNSUPPORTED_REQUEST. A memory request to a BAR (R521). -/
  | unsupportedRequest (func bar : Nat)
  /-- CONFIGURATION_REQUEST. (R490, R521). -/
  | configurationRequest (func : Nat) (reg : CfgReg) (write : Option Nat)
  /-- CAUSE_WRITE. (R378). -/
  | causeWrite (func group value : Nat)
  /-- REGISTER_WRITE. An access of `len` bytes to a BAR of a function, a write of `value` or, without one, a read; the verdict as for SDO_DOWNLOAD (R7, R357). -/
  | registerWrite (func bar offset len : Nat) (value : Option Nat) (v : Verdict)
  /-- KEY_LOAD. Outcome and bytes of the read of the bundle; whether its GCM tag verifies, and the key payload it decrypts to (R395, R396). -/
  | keyLoad (q : Req) (addr len hostStatus : Nat) (bundle : List Nat) (tagOk : Bool) (payload : List Nat)
  /-- KEY_ROLL_DONE. Words whose tag failed during the roll (R403). -/
  | keyRollDone (func : Nat) (tagBad : List Nat)
  /-- TENANT_END. (R401). -/
  | tenantEnd (q : Req) (func : Nat)
  /-- DEBUG_NONCE. (R406). -/
  | debugNonce (q : Req) (addr : Nat)
  /-- DEBUG_UNLOCK. What the token at the address holds, and whether its signature verifies (R406, R407). -/
  | debugUnlock (q : Req) (addr serial nonce scope : Nat) (sigOk : Bool)
  /-- SPDM_REQUEST. Version 0x12 or 0x13 (R390). -/
  | spdmRequest (func version : Nat) (msg : SpdmMsg)
  /-- MEASUREMENTS. (R391). -/
  | measurements (func : Nat) (session : Option Nat) (nonce : Nat)
  /-- TSP_LOCK. (R394). -/
  | tspLock (func : Nat)
  /-- TSP_UNLOCK. (R394). -/
  | tspUnlock (func : Nat)
  /-- FRAME_TRANSMIT. (R414, R418). -/
  | frameTransmit (link : Nat)
  /-- FRAME_RECEIVE. (R417). -/
  | frameReceive (link : Nat) (f : RxFrame)
  /-- ACK_TIMEOUT. (R418). -/
  | ackTimeout (link : Nat)
  /-- LANE_LOCK_LOSS. A receive lane, or the spare as lane 4 (R434). -/
  | laneLockLoss (link lane : Nat)
  /-- LINK_READ. The oldest READ received (R424). -/
  | linkRead (link : Nat)
  /-- LINK_WRITE. The oldest WRITE received (R424). -/
  | linkWrite (link : Nat)
  /-- LINK_ATOMIC. The oldest ATOMIC received (R424). -/
  | linkAtomic (link : Nat)
  /-- LINK_CLAIM. The oldest CLAIM received (R424). -/
  | linkClaim (link : Nat)
  /-- LINK_TOKENS. The oldest TOKENS received (R426). -/
  | linkTokens (link : Nat)
  /-- LINK_DOORBELL. The oldest DOORBELL received (R425). -/
  | linkDoorbell (link : Nat)
  /-- LINK_RESP. The oldest RESP received (R428). -/
  | linkResp (link : Nat)
  /-- MESSAGE_FORWARD. The oldest message received for another device (R431). -/
  | messageForward (link : Nat)
  /-- HELLO. What the peer's HELLO carries (R413). -/
  | hello (link addr mode : Nat) (credits : List Nat)
  /-- CREDIT_INIT. Credits of pools 0 to 4 (R420). -/
  | creditInit (link : Nat) (credits : List Nat)
  /-- REKEY. (R419). -/
  | rekey (link : Nat)
  /-- SWAP. `sleep`: a SLEEP reaches the direction in the same frame (R434). -/
  | swap (link lane : Nat) (sleep : Bool)
  /-- SLEEP. (R438). -/
  | sleep (link : Nat)
  /-- SLEEP_ACK. (R438). -/
  | sleepAck (link : Nat)
  /-- LINK_REQ_EXPIRY. (R428). -/
  | linkReqExpiry (xid : Nat)
  /-- REKEY_INTERVAL_EXPIRY. (R419). -/
  | rekeyIntervalExpiry (link : Nat)
  /-- LINK_IDLE_EXPIRY. (R438). -/
  | linkIdleExpiry (link : Nat)
  /-- WAKE_PATTERN. (R439). -/
  | wakePattern (link : Nat)
  /-- LINK_TRAINING_DONE. Also the end of a relock after a wake (R413, R439). -/
  | linkTrainingDone (link : Nat) (ok : Bool)
  /-- KEY_AGREEMENT_DONE. Whether the peer's chain and signature verify, and its serial (R404). -/
  | keyAgreementDone (link : Nat) (ok : Bool) (serial : Nat)
  /-- LINK_READMIT. (R437). -/
  | linkReadmit (link code : Nat)
  /-- LINK_MAP_OUT. (R436). -/
  | linkMapOut (link : Nat)
  /-- LINK_MAINT_SWAP. (R434). -/
  | linkMaintSwap (link lane : Nat)
  /-- MAINT_WINDOW. The value written (R437, R441). -/
  | maintWindow (value : Nat)
  /-- FABRIC_WINDOW_WRITE. The 32 bytes written (R423). -/
  | fabricWindowWrite (window : Nat) (entry : List Nat)
  /-- ESM_PREOP. Sync managers 0 and 1 as the MainDevice has set them (R443, R444). -/
  | esmPreop (sm0 sm1 : Sm)
  /-- ESM_SAFEOP. Sync managers 2 and 3 as set (R443, R444). -/
  | esmSafeop (sm2 sm3 : Sm)
  /-- ECAT_FRAME. The CAP_W and CAP_ID that the frame writes, if it writes SM2 (R456). -/
  | ecatFrame (write : Option (Nat × Nat)) (fcsOk : Bool)
  /-- SDO_DOWNLOAD. The bytes of the value; `complete`: complete access; the verdict on an image that an IMAGE_COMMIT so written ends (R445, R449). -/
  | sdoDownload (index sub : Nat) (complete : Bool) (value : List Nat) (v : Verdict)
  /-- SDO_UPLOAD. (R445). -/
  | sdoUpload (index sub : Nat) (complete : Bool)
  /-- SDO_INFO. The description of an object; none: the list of objects (R446). -/
  | sdoInfo (index : Option Nat)
  /-- FOE_WRITE. A packet of file 1 "rhotur", 2 "escut", 3 "config" or another; with the last one the write is committed, with the verdict given (R462, R463). -/
  | foeWrite (file password : Nat) (first last : Bool) (data : List Nat) (v : Verdict)
  /-- FOE_READ. File 4 is "errlog" (R462). -/
  | foeRead (file : Nat)
  /-- DICT_WRITE. A write of 8 bytes to a BAR2 slot; the verdict as for SDO_DOWNLOAD (R449, R452). -/
  | dictWrite (index sub value : Nat) (v : Verdict)
  /-- LONG_SEL. (R453, R454). -/
  | longSel (value : Nat)
  /-- LONG_DATA. A read, or a write of 8 bytes (R453, R454). -/
  | longData (write : Option Nat)
  /-- LONG_COMMIT. The verdict on an image that an IMAGE_COMMIT so written ends (R454, R463). -/
  | longCommit (v : Verdict)
  /-- IMAGE_TARGET. Over CoE or BAR2 (R462). -/
  | imageTarget (coe : Bool) (value : Nat)
  /-- IMAGE_DATA. (R462). -/
  | imageData (coe : Bool) (data : List Nat)
  /-- IMAGE_COMMIT. Value 1 written (R463). -/
  | imageCommit (coe : Bool) (v : Verdict)
  /-- IMAGE_ABORT. Value 2 written (R462). -/
  | imageAbort (coe : Bool)
  /-- TRIP_CLEAR. The value written over CoE (R487). -/
  | tripClear (value : Nat)
  /-- DOMAIN_IDLE_EXPIRY. (R468). -/
  | domainIdleExpiry (domain : Nat)
  /-- RETENTION_OFF_EXPIRY. (R468). -/
  | retentionOffExpiry (domain : Nat)
  /-- WAKE_SOURCE. (R474). -/
  | wakeSource (source : WakeSrc)
  /-- READY_CHAIN_STEP. The ready signal of the step under way is sampled (R472). -/
  | readyChainStep (domain : Nat)
  /-- CAP_SAMPLE. Package power in mW, and the present work as the controller predicts it: power that does not scale and dynamic power at OP0 with A = 256 (R479, R480). -/
  | capSample (power fixed dyn : Nat)
  /-- FLOOR_ESTIMATE. The estimate (R481). -/
  | floorEstimate (watts : Nat)
  /-- THERMAL_STEP. The junction sensors in 0.1 °C, 0 for below 0: 16 of each panel, then 8 of each I/O die (R486). -/
  | thermalStep (readings : List Nat)
  /-- THERMTRIP. The sensor that reads 110 °C, numbered as in THERMAL_STEP (R487). -/
  | thermtrip (sensor : Nat)
  /-- VIN12_LOW. (R488, R510). -/
  | vin12Low (mv : Nat)
  /-- VIN12_RISE. VIN12 has been in range for 10 ms; what start-up finds (R490, R510). -/
  | vin12Rise (mv : Nat) (facts : StartFacts)
  /-- VAON33_APPLY. (R490). -/
  | vaon33Apply (mv : Nat)
  /-- REFCLK_LOSS. 0 REFCLK_CORE, 1 REFCLK_HOST, 2 to 5 SPLREF of I/O die 0 to 3 (R512). -/
  | refclkLoss (clock : Nat)
  /-- REFCLK_RETURN. (R512). -/
  | refclkReturn (clock : Nat)
  /-- RESET. (R496). -/
  | reset (part : Nat)
  /-- OUT. (R496). -/
  | out (part : Nat)
  /-- IN. (R496). -/
  | in_ (part : Nat)
  /-- RECAL. (R496). -/
  | recal (part : Nat)
  /-- RECAL_DONE. (R496). -/
  | recalDone (part : Nat)
  /-- HANDOVER. (R496). -/
  | handover (part : Nat)
  /-- SUBST. The command's argument (R496). -/
  | subst (bay arg : Nat)
  /-- PARTITION_RETURN. Whether its test passes; for a bay, the sites and the spares that fail self-test, as StartFacts has them (R495, R497, R499). -/
  | partitionReturn (part : Nat) (ok : Bool) (badSites badSpares : List Nat)
  /-- JTAG_INSTRUCTION. (R517, R518). -/
  | jtagInstruction (op : JtagOp)
  /-- ECAT_PORT_LINK_CHANGE. (R442). -/
  | ecatPortLinkChange (port : Nat) (up : Bool)
  /-- JUNCTION_THROTTLE_REACHED. The sensor, numbered as in THERMAL_STEP, and its reading in 0.1 °C (R486). -/
  | junctionThrottleReached (sensor reading : Nat)
  /-- HOST_WRITE_GO. The host's answer to a write; not `ok`: refused or in error (R360, R377). -/
  | hostWriteGo (tag : Nat) (ok : Bool)
  /-- EXPANDER_CAPACITY_CHANGE. (R252). -/
  | expanderCapacityChange (x : Nat)
  /-- RETRAIN_DONE. The retraining of a near set (0 to 15) or DDR5 channel (16 + channel) ends (R245, R249). -/
  | retrainDone (unit : Nat) (ok : Bool)
  /-- DRAM_TEMPERATURE_CHANGE. GDDR7 device (0 to 19) or DIMM (20 + channel) crosses 85 °C (R243, R249). -/
  | dramTemperatureChange (device : Nat) (hot : Bool)
  /-- DIMM_LOST. (R233). -/
  | dimmLost (channel : Nat)
  /-- USE_AGEING. (R222). -/
  | useAgeing
  /-- PLACEMENT_PASS. One pass of the jig (R278). -/
  | placementPass
  /-- EVICTION. One step of the slot manager's eviction (R306). -/
  | eviction
  /-- SLOT_AGEING. (R305). -/
  | slotAgeing
  /-- VIRAL. (R381). -/
  | viral
  /-- HOST_LINK_DOWN. (R382). -/
  | hostLinkDown
  /-- MAINT_WINDOW_CLOSE. (R437). -/
  | maintWindowClose
  /-- ESM_INIT. (R443). -/
  | esmInit
  /-- ESM_OP. (R443). -/
  | esmOp
  /-- ESM_BOOT. (R443). -/
  | esmBoot
  /-- PD_SNAPSHOT. (R456). -/
  | pdSnapshot
  /-- PD_LOST. (R457). -/
  | pdLost
  /-- LONG_ABORT. (R454). -/
  | longAbort
  /-- IMAGE_PATH_TIMEOUT. (R462). -/
  | imagePathTimeout
  /-- OP_STEP_DONE. (R477). -/
  | opStepDone
  /-- PWR_ALERT_ASSERT. (R485). -/
  | pwrAlertAssert
  /-- PWR_ALERT_RELEASE. (R485). -/
  | pwrAlertRelease
  /-- PWR_ALERT_HOLD_EXPIRY. (R485). -/
  | pwrAlertHoldExpiry
  /-- THERM_ALERT_ASSERT. (R486). -/
  | thermAlertAssert
  /-- THERM_ALERT_RELEASE. (R486). -/
  | thermAlertRelease
  /-- VAON33_LOSS. (R488). -/
  | vaon33Loss
  /-- STANDBY_RESYNC. (R496). -/
  | standbyResync
  /-- COPPICE_ACTION. (R499). -/
  | coppiceAction
  /-- CONVENTIONAL_RESET. (R381). -/
  | conventionalReset
deriving DecidableEq, Repr

end Sys2Proof
end

