-- ==== Sys2Proof/Decode.lean ====
section
/-!
DEFINITION. The commands as words of the opcode table. No row of spec/opcode_table.json gives a command any bits, so no
word spells one.
-/
namespace Sys2Proof

/-- The command that a word of the opcode table spells: none, for no row has bits. -/
def decodeTableWord (_nbits _w : Nat) : Option Instr := none

end Sys2Proof
end

