-- ==== Sys2Proof/Config.lean ====
section
/-!
DEFINITION. What an implementation fixes and the spec does not give: opaque constants without a body. A claim that
mentions one holds whatever its value is.
-/
namespace Sys2Proof.Config

/-- The route that bytes 1,023:64 of a site record give input lane `lane` (0 to 4 data, 5 to 9 control, each north,
east, south, west, local): R82 says that they hold it and gives no layout for it. -/
opaque routeOf (bytes : List Nat) (lane : Nat) : Route

/-- The cross-bay route of input lane `lane` of port-cell site `site` in the 256 entries of bytes 12,287:8,192 of an
image: R81 says that they name it and gives no layout. -/
opaque crossRouteOf (bytes : List Nat) (site lane : Nat) : Option XRoute

/-- The fixed hash of DEST, SRC and the stream or tile by which a link is chosen (R430): its form is not given. -/
opaque linkHash (dest src key : Nat) : Nat

/-- Bay, port-cell site and input lane that an instance handle and a cross-bay route entry of a TOKENS message name on
the receiving device (R422, R426): the form of handles and route entries is not given. -/
opaque tokenTarget (handle entry : Nat) : Nat × Nat × Nat

/-- The task whose instance an instance handle of a TOKENS message names, by its key (R422, R426): the form of handles is not
given. -/
opaque tokenTask (handle : Nat) : Nat

/-- The fields of a firmware image's 256-byte header (R405): the spec names them and gives no layout. -/
opaque fwHeader (bytes : List Nat) : FwHdr

/-- SW_VERSION (0x100A:00): how the VERSION of the running Rhotur image is spelt (R405, R451). -/
opaque versionText (version : Nat) : List Nat

/-- The 256-bit secret that the PUF of this part gives, 32 bytes (R387). -/
opaque deviceSecret : List Nat

/-- X448 public key of a private key, 56 bytes (R387, R404). -/
opaque x448Public (key : Nat) : List Nat

/-- A number the spec leaves open, for the `n`-th such choice (the state's `free` counter). -/
opaque freeNat (n : Nat) : Nat

/-- A payload the spec leaves open. -/
opaque freePayload (n : Nat) : Payload

end Sys2Proof.Config
end

