-- ==== Sys2Proof/Machine/Bits.lean ====
section
/-!
DEFINITION. Bit fields, little-endian bytes, signed values and small list operations over natural numbers (R2).
-/
namespace Sys2Proof.Machine

/-- NAME[hi:lo] of a number (R2). -/
def bits (n hi lo : Nat) : Nat := (n >>> lo) % 2 ^ (hi + 1 - lo)

/-- NAME[i] of a number (R2). -/
def bitOf (n i : Nat) : Bool := (n >>> i) % 2 == 1

/-- `n` with bit `i` set. -/
def setBit (n i : Nat) : Nat := n ||| (2 ^ i)

/-- `n` with bit `i` clear. -/
def clrBit (n i : Nat) : Nat := if bitOf n i then n - 2 ^ i else n

/-- `n` with bit `i` equal to `v`. -/
def putBit (n i : Nat) (v : Bool) : Nat := if v then setBit n i else clrBit n i

/-- The bits of `n` that are not in `m`. -/
def andNot (n m : Nat) : Nat := n - (n &&& m)

/-- `n` with NAME[hi:lo] replaced by `v`. -/
def setBits (n hi lo v : Nat) : Nat :=
  n - (bits n hi lo) * 2 ^ lo + (v % 2 ^ (hi + 1 - lo)) * 2 ^ lo

/-- How many bits of the low `w` are 1. -/
def popcount (n : Nat) : Nat → Nat
  | 0 => 0
  | w + 1 => popcount n w + (if bitOf n w then 1 else 0)

/-- The numbers of the set bits below `w`, rising. -/
def bitsSet (n : Nat) : Nat → List Nat
  | 0 => []
  | w + 1 => bitsSet n w ++ (if bitOf n w then [w] else [])

/-- The low `len` bytes of a number, lowest first (R2). -/
def leBytes (n : Nat) : Nat → List Nat
  | 0 => []
  | k + 1 => n % 256 :: leBytes (n / 256) k

/-- The number a little-endian byte list spells (R2). -/
def ofLE : List Nat → Nat
  | [] => 0
  | b :: r => b % 256 + 256 * ofLE r

/-- Two's complement reading of the low `w` bits. -/
def sext (n w : Nat) : Int :=
  let m := n % 2 ^ w
  if 2 ^ (w - 1) ≤ m then (m : Int) - (2 ^ w : Nat) else m

/-- Two's complement bits of `i` in `w` bits. -/
def ofInt (i : Int) (w : Nat) : Nat := (i % ((2 ^ w : Nat) : Int)).toNat

/-- ⌈a / b⌉. -/
def cdiv (a b : Nat) : Nat := (a + b - 1) / b

/-- Every `some` of a list of options, or `none`. -/
def allSome {α : Type} : List (Option α) → Option (List α)
  | [] => some []
  | none :: _ => none
  | some a :: r => match allSome r with
    | none => none
    | some l => some (a :: l)

/-- The list cut into pieces of `k` (fuel: the length). -/
def chunks {α : Type} (k : Nat) : Nat → List α → List (List α)
  | 0, _ => []
  | _, [] => []
  | f + 1, l => l.take k :: chunks k f (l.drop k)

/-- The first element that satisfies `p`, with the list without it. -/
def takeFirst {α : Type} (p : α → Bool) : List α → Option (α × List α)
  | [] => none
  | a :: r => if p a then some (a, r) else
    match takeFirst p r with
    | none => none
    | some (x, r') => some (x, a :: r')

/-- The list with its first element satisfying `p` replaced by `f` of it. -/
def mapFirst {α : Type} (p : α → Bool) (f : α → α) : List α → List α
  | [] => []
  | a :: r => if p a then f a :: r else a :: mapFirst p f r

/-- An element put in its place in a sorted list, after its equals. -/
def insertBy {α : Type} (le : α → α → Bool) (a : α) : List α → List α
  | [] => [a]
  | b :: r => if le a b then a :: b :: r else b :: insertBy le a r

/-- A list sorted, equal elements in their order. -/
def sortBy {α : Type} (le : α → α → Bool) : List α → List α
  | [] => []
  | a :: r => insertBy le a (sortBy le r)

/-- The elements without repeats, first occurrences kept. -/
def dedup' : List Nat → List Nat
  | [] => []
  | a :: r => a :: (dedup' r).filter (· ≠ a)

/-- iclk of a time in ns at 1.4 GHz. -/
def iclkOf (ns : Nat) : Nat := ns * 7 / 5

end Sys2Proof.Machine
end

