-- ==== Sys2Proof/Machine/State.lean ====
section
/-!
DEFINITION. The state of the block, as plain data: every register, queue, buffer, counter, mode and land the spec
gives the QH8, the queue of commands that wait, and what the model itself needs (`out`, `free`).
-/
namespace Sys2Proof.Machine

/-! ### Token fabric (02_spatial_fabric.md) -/

/-- One lane of one channel into a site: the sender's credit count, tokens sent and not yet in the queue (true:
sent from another bay), the receiving queue of 8, and credits on the return wire (R45, R46). -/
structure Chan (α : Type) where
  cred : Nat := 8
  wire : List (Bool × α) := []
  queue : List α := []
  due : Nat := 0
deriving DecidableEq, Repr, Inhabited

/-- A staging slot: the halves of one (CTX, SEQ) pair, data by input lane, the fclk count at which the wait began and,
once it is complete, the order in which it was completed (R54, R59, R61). -/
structure Slot where
  ctx : Nat
  seq : Nat
  ctl : Option CTok
  data : List (Nat × DTok)
  since : Nat
  done : Option Nat
deriving DecidableEq, Repr, Inhabited

/-- The steering unit of one site. Input lanes: 0 north, 1 east, 2 south, 3 west, 4 local. Tables by lane and
context use the key lane × 4 + context. -/
structure Site where
  /-- The five data lanes (R45). -/
  dat : Tbl (Chan DTok)
  /-- The five control lanes (R45). -/
  ctl : Tbl (Chan CTok)
  /-- Staging slots in use, at most 4 (R54). -/
  slots : List Slot
  /-- A pair completed at once, which takes no slot and fires next (R57 rule 2). -/
  direct : Option Slot
  /-- Expected counter of each context (R56). -/
  expPair : Tbl Nat
  /-- Expected SEQ of each input stream and context (R38). -/
  expIn : Tbl Nat
  /-- Next SEQ of each output stream and context: data output k at k × 4 + context, control output k at (k + 32) × 4 +
  context (R37). -/
  outSeq : Tbl Nat
  /-- Status of each context faulted at the unit (R63, R64). -/
  faulted : Tbl Nat
  /-- Inputs on which the SWITCH wave of a context has been taken, as lane × 4 + context (R89). -/
  swIn : List Nat
  /-- ARG[1:0] of the wave of each context (R89). -/
  swArg : Tbl Nat
  /-- Contexts whose wave the unit has emitted or absorbed (R89, R90). -/
  swOut : List Nat
  /-- Data tokens made by the unit and not yet sent, with the output lane (4: the local input). -/
  pipe : List (Nat × DTok)
  /-- Control tokens made by the unit, the steering unit or the configuration bus and not yet sent, with the lane. -/
  owed : List (Nat × CTok)
  /-- fclk count at which a FENCE at a queue head began to hold a context (R43, R108). -/
  fence : Tbl Nat
  /-- fclk count at which a LUTFLIP began to wait (R166), by context. -/
  flipAt : Tbl Nat
  /-- Pairs completed so far: the order numbers of R59. -/
  order : Nat
  /-- The output to the site's own unit (entry 0): tokens with the input lane they came from (R35, R45, R46). -/
  toUnit : Tbl (Chan (Nat × DTok))
  toUnitC : Tbl (Chan (Nat × CTok))
  /-- Round-robin pointers of the site's arbiters, the requester looked at first: data outputs 0 to 3 and the unit 4,
  control outputs 5 to 8 and the unit 9, control halves 10 and data halves 11 of the staging area (R20, R51, R55). -/
  rr : Tbl Nat
deriving DecidableEq, Repr, Inhabited

/-- A token between two bays (R48, R81): the segment it has crossed last and those ahead, as pairs of nodes (0 to 7 the
panel networks, 16 + bay × 120 + site the port cells), and the port cell's input lane it is for. -/
structure Flit where
  here : Nat × Nat
  ahead : List (Nat × Nat)
  bay : Nat
  site : Nat
  lane : Nat
  data : Option DTok
  ctl : Option CTok
deriving DecidableEq, Repr, Inhabited

/-! ### Drawers (03_sections_and_drawers.md) -/

/-- Drawer states (R76). -/
inductive DrawerSt where
  | empty | loading | idle | armed | active | faulted
deriving DecidableEq, Repr, Inhabited

/-- A LOAD from its acceptance to its end (R78, R84). -/
structure LoadReq where
  /-- Device address of the image. -/
  image : Nat
  /-- Device address of the digest entry. -/
  digestAt : Nat
  b0 : Nat
  task : Nat
  sect : Nat
  /-- Waiting at step 2 since this fclk count. -/
  since : Nat
  /-- The loader has set LOADING and reads the image (step 3 on). -/
  started : Bool
deriving DecidableEq, Repr, Inhabited

/-- One drawer of one bay (R73): key bay × 4 + d. -/
structure Drawer where
  st : DrawerSt
  load : Option LoadReq
  /-- The image as loaded, bytes that are not 0 (R81). -/
  img : List Host.Cell
  /-- Base bay given with LOAD or ACTIVATE (R83). -/
  b0 : Nat
  /-- Function whose section it holds (R74). -/
  func : Nat
  task : Nat
  sect : Nat
  bays : Nat
  chain : Bool
  next : Nat
  /-- Image address and digest, for R100. -/
  image : Nat
  digest : Nat
  /-- Routes by site × 10 + input lane (0 to 4 data, 5 to 9 control: R49, R82). -/
  routes : Tbl Route
  /-- Cross-bay routes by port-cell site × 10 + input lane (R81, R83). -/
  xroutes : Tbl XRoute
  /-- Run-time extents of the section's shape-map entries (R182, R184). -/
  extents : List Nat
  /-- Status of the fault that took the drawer to FAULTED (R77). -/
  fault : Option Nat
deriving DecidableEq, Repr, Inhabited

/-- What belongs to a bay beside its drawers. -/
structure Bay where
  /-- The active drawer (R75, 0x2C06:02). -/
  active : Nat
  /-- Quiescent, and waiting for an ARMED drawer since this fclk count (R94). -/
  advWait : Option Nat
  /-- Last tenant whose drawers the bay held (R74, R275). -/
  func : Nat
  /-- A clearing of the bay's EDGE_MODE bit waits for the last drain token (R175). -/
  edgeClear : Bool
  /-- Frozen for a save, or not yet resumed after a restore, since this dcount (R282 step 3, R285). -/
  frozen : Option Nat
  /-- fclk count at which each drawer last stopped being the active one (R61). -/
  offAt : Tbl Nat
deriving DecidableEq, Repr, Inhabited

/-! ### Cycle accounting (04_cut_list_and_cycle_accounting.md) -/

/-- Where an instance stands in a pre-emption (R110). -/
inductive PreSt where
  | run | saving
  /-- Its base bay is saved and other bays of it are not, or are being restored, since this fclk count. -/
  | parked (since : Nat)
  /-- Saved, since this dcount. -/
  | saved (since : Nat)
  | restoring
deriving DecidableEq, Repr, Inhabited

/-- The accounting unit, with the pacer beside it, of one section instance: key base bay × 4 + drawer. -/
structure Inst where
  task : Nat
  sect : Nat
  bays : Nat
  /-- Tile count T (R179). -/
  t : Nat
  fill : Nat
  perTile : Nat
  drain : Nat
  drainEmpty : Nat
  /-- LAT_NEAR, LAT_MID, LAT_LARGE, LAT_LINK of the section report (R103). -/
  lat : List Nat
  /-- Pacing events that have occurred: claims granted, then the closing claim (R105). -/
  events : Nat
  /-- The next event occurs in the present fclk. -/
  now : Bool
  /-- Plan count P (R106). -/
  p : Nat
  /-- Latched cause code (R106, R108). -/
  latch : Option Nat
  stall : List Nat
  residual : Int
  measured : Nat
  /-- dcount at instance begin (R114). -/
  began : Nat
  /-- Bays that have become quiescent (R97). -/
  quiet : List Nat
  pre : PreSt
  /-- Pacer: tile numbers taken from the tally and not yet released, at most 2 (R187). -/
  lead : List Nat
  /-- Pacer: a request to the tally is outstanding; its answer, once the tally has given it (none: exhausted). -/
  asked : Bool
  answer : Option (Option Nat)
  /-- fclk count at which that request went out (R108). -/
  askedAt : Nat
  /-- Status other than OK that a tally on another device has answered with. -/
  refused : Option Nat
  /-- It claims from the tally of the device that issued the section (R191). -/
  away : Bool
  /-- The closing claim has been released (R105). -/
  closed : Bool
  /-- Pacer: the tally has answered exhausted. -/
  exhausted : Bool
  /-- Pacer: bay offsets whose asks wait, in the order of arrival. -/
  waiting : List Nat
  /-- Pacer: offset served last (R189). -/
  served : Nat
  /-- Key of its tally in the table of tallies (R186). -/
  tally : Nat
deriving DecidableEq, Repr, Inhabited

/-! ### Matrix cells (05_matrix_cells_and_number_formats.md) -/

/-- One drawer of one matrix cell: key (bay × 120 + site) × 4 + d. Lane key: slot × 32 + lane. -/
structure Mxc where
  /-- Narrow-class accumulators, in units of 2^-288 (R128). -/
  acc : Tbl Int
  /-- FP32 accumulators (R131). -/
  fp : Tbl Nat
  /-- NAN (4), PINF (2) and NINF (1) flags of the lanes (R130). -/
  flags : Tbl Nat
  /-- Weight bank: tokens of block × 64 + token index, the scale entries after the elements (R119, R202). -/
  bank : Tbl Payload
  /-- Fill number + 1 of the last fill that completed a physical block (R203, R204). -/
  full : Tbl Nat
  /-- Fill in progress, tokens of it received (R202, R203). -/
  fill : Nat
  got : Nat
  /-- Streamed-input LAST tokens counted: the bay's tile number r (R203). -/
  tile : Nat
  /-- MX scale word in force and element pairs taken since it (R127). -/
  scale : Option Payload
  since : Nat
  /-- Imports in progress: next segment by slot (R122). -/
  imp : Tbl Nat
  /-- A streamed LAST has been taken since the last drain (R40). -/
  lastIn : Bool
deriving DecidableEq, Repr, Inhabited

/-! ### Function cells (06_function_cells_and_row_statistics.md) -/

/-- Lookup bank states (R164). -/
inductive LutSt where
  | empty | filling | ready | live | draining
deriving DecidableEq, Repr, Inhabited

/-- One lookup bank of 4 KiB (R164, R165). -/
structure Lut where
  st : LutSt
  gen : Nat
  count : Nat
  /-- 32-byte tokens written, by index. -/
  toks : Tbl Payload
deriving DecidableEq, Repr, Inhabited

/-- One drawer of one function cell (R171): key (bay × 120 + site) × 4 + d. -/
structure Fnc where
  /-- Elements of the row taken so far, and live elements among them (R149, R151). -/
  pos : Nat
  live : Nat
  /-- A pair of the row was live (R151). -/
  anyLive : Bool
  /-- A row is open: its first pair has fired. -/
  openRow : Bool
  /-- Row scalars: lanes 0 and 1 of the second input at the row's first pair (R150), as FP32 codes. -/
  sc0 : Nat
  sc1 : Nat
  /-- SUM in units of 2^-149, SUMSQ in units of 2^-298 (R160). -/
  sum : Int
  sumsq : Nat
  /-- NAN (4), PINF (2), NINF (1) flags of the row (R160), and a live finite or infinite zero seen (R156). -/
  flags : Nat
  /-- Largest live element of the row, as an exact value in units of 2^-149, if any is finite (R156). -/
  maxv : Option Int
  /-- Exact sum of the exponentials as written, in units of 2^-149 (R157). -/
  esum : Nat
  /-- Packing buffer: output element codes waiting for a full token (R145). -/
  pack : List Nat
  /-- An output of the row not yet emitted was live. -/
  packLive : Bool
  /-- SLICE: in the second pass, with the exponent of the row; none: marked (R138, R141, R170). -/
  pass2 : Bool
  exps : Option Int
  mag : Nat
  marked : Bool
  digits : List Int
  /-- RECOMBINE: tokens of the block taken, exponents E and F, sums S_0 to S_12 and partials (R170). -/
  rcount : Nat
  rE : Option Int
  rF : List (Option Int)
  rS : List Int
  rP : List Nat
  /-- Lookup banks 0 and 1 (R164). -/
  lut0 : Lut
  lut1 : Lut
deriving DecidableEq, Repr, Inhabited

/-! ### Tiles (07_tiles_tally_and_runtime_shapes.md) -/

/-- A claim of a bay: the window entry it was written to, its tile and indices by loop position (R180, R188), the
source sites that have emitted LAST for it, and whether its entry is free again. -/
structure Claim where
  ix : Nat
  tile : Nat
  idx : List Nat
  lastBy : List Nat
  freed : Bool
deriving DecidableEq, Repr, Inhabited

/-- What a source unit or other unit that reads shapes holds for a drawer (R184, R188, R195):
key (bay × 120 + site) × 4 + d. -/
structure Src where
  /-- SHAPE fragments received, in order. -/
  frags : List Nat
  /-- Claims named by CLAIM tokens, as places in the bay's list of claims. -/
  claims : List Nat
  /-- A CLAIM token has said exhausted. -/
  exhausted : Bool
  /-- Per stream: tiles begun before the present one, transfers issued in it. -/
  stream : Tbl (Nat × Nat)
  /-- Per read stream: tiles whose LAST has been emitted. -/
  sent : Tbl Nat
  /-- Bytes of the present run returned and not yet emitted, by read stream. -/
  rbuf : Tbl (List Nat)
  /-- Tokens that have arrived for each write stream, oldest first (R194). -/
  wbuf : Tbl (List DTok)
deriving DecidableEq, Repr, Inhabited

/-- A tier transfer of a fetch unit (R195, R196). -/
structure Xfer where
  /-- Number of its tier access. -/
  acc : Nat
  unit : Nat
  stream : Nat
  read : Bool
  addr : Nat
  len : Nat
  /-- Place of the claim whose tile it serves. -/
  claim : Nat
  /-- It ends a run of that many live elements (0: it does not), and the tile on the stream. -/
  runEnd : Nat
  last : Bool
  /-- fclk count of its issue (R108). -/
  since : Nat
  /-- Answered: the bytes read. -/
  done : Option (List Nat)
deriving DecidableEq, Repr, Inhabited

/-- A scratch-cell buffer (R200). -/
structure Buf where
  ix : Nat
  /-- Tokens written, and whether the tile's LAST is among them. -/
  toks : Nat
  last : Bool
  /-- PV of the tokens written. -/
  live : List Bool
  /-- Read out: tokens of it that have not left the cell yet (R200). -/
  left : Option Nat
deriving DecidableEq, Repr, Inhabited

/-- A tally (R186), with the join key of a SPAN_DEV section (R191, R424). -/
structure Tally where
  used : Bool
  next : Nat
  t : Nat
  key : Nat
deriving DecidableEq, Repr, Inhabited

/-! ### Tiers and the tile directory (08_memory_tiers_and_tile_directory.md) -/

/-- Object states (R216). -/
inductive ObjSt where
  | free | placing | live | damaged | freeing
deriving DecidableEq, Repr, Inhabited

/-- An object descriptor, by OBJECT (R216). NEAR_TILES, MID_TILES and LARGE_TILES are counted from the directory. -/
structure Obj where
  owner : Nat
  /-- PREF (1 to 3), PIN and SETTLE of PLACE. -/
  pref : Nat
  pin : Bool
  settle : Bool
  prio : Nat
  st : ObjSt
  base : Nat
  tiles : Nat
deriving DecidableEq, Repr, Inhabited

/-- A directory leaf entry (R222): key part × 2^30 + tile. -/
structure Leaf where
  /-- HOME: 0 no tile, 1 near, 2 middle, 3 large. -/
  home : Nat
  frame : Nat
  /-- DEST and DFRAME while MOVING (0 otherwise). -/
  moving : Bool
  dest : Nat
  dframe : Nat
  lost : Bool
  object : Nat
  use : Nat
  /-- The mover has copied the granules (R226 step 4). -/
  copied : Bool
deriving DecidableEq, Repr, Inhabited

/-- Who made a tier access, and what its answer is for. -/
inductive Who where
  | ftu (bay unit stream : Nat)
  | link (link : Nat)
  /-- A bay that has left service since: the reply is dropped and counted as STALE (R15, R495). -/
  | gone (bay : Nat)
deriving DecidableEq, Repr, Inhabited

/-- How far a tier access has come: presented at the directory port, held there on a MOVING tile, sent to another device, in flight at the
tier controller, waiting for the re-read of a word whose tag failed, answered (R224, R226, R239). -/
inductive AccSt where
  | presented | held | flight | reread | remote | done
deriving DecidableEq, Repr, Inhabited

/-- A tier access (R224). The data of a read is empty until the read is answered, or a tile of it moves away under it: it then
holds the old frame's bytes, 256 for a byte of a poisoned word and 257 for one whose tile has not moved (R227). -/
structure Acc where
  id : Nat
  who : Who
  func : Nat
  addr : Nat
  len : Nat
  write : Bool
  data : List Nat
  st : AccSt
  /-- Frame and tier that the translation returned. -/
  tier : Nat
  frame : Nat
  /-- dcount of the issue to the tier, for ACCESS_LIMIT (R233). -/
  since : Nat
  /-- Status of the answer, 0 while none has been given. -/
  status : Nat
  /-- Words whose tag failed on the first read, and the words that the first read found bad or has left wrong (R239). -/
  again : List Nat
  bads : List Nat
  wrongs : List Nat
  /-- Tier and frame of the further tiles that it touches (R224). -/
  more : List (Nat × Nat)
deriving DecidableEq, Repr, Inhabited

/-- A frame whose tile has moved away and whose last read has not returned (R226 step 7). -/
structure OldFrame where
  tier : Nat
  frame : Nat
  tileKey : Nat
deriving DecidableEq, Repr, Inhabited

/-- A tile to be moved, with what asked for it: the number of the object command, 0 for a return (R217, R220); whether
its move has started (R226), and the frame that is reserved for it until then. -/
structure MoveReq where
  tileKey : Nat
  tier : Nat
  cmd : Nat
  started : Bool
  frame : Option Nat
deriving DecidableEq, Repr, Inhabited

/-- A PLACE or MOVE whose tiles are being moved: who sent it, whether it is a PLACE, the tiles moved so far and the
status so far (R217). -/
structure MoveCmd where
  q : Req
  place : Bool
  moved : Nat
  status : Nat
deriving DecidableEq, Repr, Inhabited

/-- The three tiers (R207 to R236). -/
structure Tier where
  /-- TIER_STATE by tier: 0 ABSENT, 1 IN_SERVICE, 2 RETENTION, 3 FAILED. -/
  st : Tbl Nat
  /-- Frame counts by tier. -/
  frames : Tbl Nat
  objs : Tbl Obj
  leaf : Tbl Leaf
  /-- Words that carry the poison mark, by device word address (R240). -/
  poison : Tbl Bool
  accs : List Acc
  accNext : Nat
  old : List OldFrame
  moveQ : List MoveReq
  /-- The commands they serve, and the number of the next. -/
  moveCmds : Tbl MoveCmd
  cmdNext : Nat
  /-- dcount of the last ageing of USE (R222). -/
  agedAt : Nat
  /-- Leaf entries in the directory cache of each I/O die, by tile key, and walk-cache entries (R223). -/
  cache : List Nat
  walk : List Nat
  /-- Objects whose FREE waits: object, and who sent the command to complete, if one did (R217). -/
  frees : List (Nat × Option Req)
  /-- DDR5 channels in the set (12 bits) and expanders in the set (8 bits) (R213, R214). -/
  channels : Nat
  expanders : Nat
  /-- Raw bytes of each expander (R207, R214). -/
  expCap : Nat
deriving DecidableEq, Repr, Inhabited

/-! ### Memory interfaces (09_memory_interfaces_and_word_code.md) -/

/-- Code and interface state by memory unit (R255 to R257). -/
structure Code where
  /-- Corrections by unit × 64 + position in the present window (R255). -/
  sym : Tbl Nat
  /-- RESERVE_STATE by unit: SPENT, RENEW, position (R257). -/
  spent : Tbl (Option Nat)
  renew : Tbl Bool
  /-- Near sets (0 to 15) and DDR5 channels (16 to 27) being retrained (R245, R249). -/
  train : List Nat
  /-- Units retrained once after failed bursts or write CRC errors, until an access on them succeeds (R243, R249). -/
  hot : List Nat
  /-- GDDR7 devices (0 to 19) and DIMMs (20 + channel) that report above 85 °C: refresh is doubled (R243, R249). -/
  warm : List Nat
  /-- Scrub position by tier while a pass runs: words below it are done (R253). -/
  scrub : Tbl Nat
  /-- dcount at which the last pass of each tier began (R253). -/
  scrubAt : Tbl Nat
  /-- Symbols of stored words that are in error, as position and bits, by device word address (R239). -/
  flips : Tbl (List (Nat × Nat))
  /-- Units whose retraining waits for a copy step to end (R245). -/
  owed : List Nat
  /-- Words an expander named as lost, by device word address (R252). -/
  bad : Tbl Bool
  /-- dcount of the last retraining by unit. -/
  trainedAt : Tbl Nat
deriving DecidableEq, Repr, Inhabited

/-! ### Object dictionary, error log and clock (17_object_dictionary_and_management.md, 00_scope.md) -/

/-- The object dictionary (R446 to R454). Object key: index × 256 + sub-index; octet strings as little-endian
numbers with their length beside them. -/
structure Dict where
  /-- Values that differ from the tabled default. -/
  vals : Tbl Nat
  /-- Values in force of the RWP objects whose written value waits (R448), where they differ from `vals`. -/
  inForce : Tbl Nat
  /-- RWP values kept in the always-on domain for the next start-up (R447). -/
  kept : Tbl Nat
  /-- LONG_SEL (R453). -/
  longSel : Nat
  /-- Staged long write: bytes from offset 0 on, by offset (R454). -/
  staged : Option (List Nat)
  /-- LONG_STATUS[7:0] (R453). -/
  longStatus : Nat
  /-- Device address last written to DIR_PROBE (R236). -/
  probe : Nat
deriving DecidableEq, Repr, Inhabited

/-- An error-log entry (R466). -/
structure LogEntry where
  dcount : Nat
  object : Nat
  status : Nat
  func : Nat
  unit : Nat
  seq : Nat
  detail : Nat
deriving DecidableEq, Repr, Inhabited

/-- The error log (R466): the ring by entry number, LOG_NEXT, SEQ and LOG_COUNT. -/
structure ErrLog where
  entries : Tbl LogEntry
  next : Nat
  seq : Nat
  count : Nat
deriving DecidableEq, Repr, Inhabited

/-- Where the device stands in its start-up (R464, R490 to R492). -/
inductive Phase where
  | off | starting | bootWait | hold | service
deriving DecidableEq, Repr, Inhabited

/-- Clock, rails and windows. -/
structure Clk where
  /-- dcount, 64 bits, 1 ns a count (R6). -/
  dcount : Nat
  /-- Fabric clock: thousandths of fclk cycles since VAON33 came, at the operating point in force (R476). -/
  fc : Nat
  /-- The supplies VAON33 and VIN12 are in range (R488, R490). -/
  vaon33 : Bool
  vin12 : Bool
  /-- How far start-up has come (R490 to R493). -/
  phase : Phase
  /-- Start of the present interval of each windowed count, by window number, and its length in ns (R520). -/
  winStart : Tbl Nat
  winLen : Tbl Nat
  /-- JTAG instruction register (R517). -/
  jtag : JtagOp
deriving DecidableEq, Repr, Inhabited

/-! ### What leaves the device -/

/-- What has left the lands of the device, in order: the model's own record of its outputs. -/
inductive Emit where
  /-- A write into host memory for a function. -/
  | hostWrite (func addr : Nat) (data : List Nat)
  /-- A read request to host memory: function, address, length, tag. -/
  | hostRead (func addr len tag : Nat)
  /-- An MSI-X message of a function's vector. -/
  | msix (func vector : Nat)
  /-- A CXL message to the host: BISnpInv, responses, Unsupported Request, Retry Status and the like. -/
  | cxl (kind : String) (args : List Nat)
  /-- Data returned to the host. -/
  | hostData (tag : Nat) (poison : Bool) (data : List Nat)
  /-- A mailbox or FoE answer on the field network: abort or error code (0: none) and data. -/
  | mbox (code : Nat) (data : List Nat)
  /-- A dictionary read answered over BAR2. -/
  | bar2 (data : List Nat)
  /-- A register read answered over a BAR: function, BAR, offset, value. -/
  | mmio (func bar offset value : Nat)
  /-- An SPDM answer on a function's DOE mailbox. -/
  | spdm (func : Nat) (what : String) (data : List Nat)
  /-- A link frame or message: link, what, fields. -/
  | link (link : Nat) (what : String) (args : List Nat)
  /-- A completion entry written to a ring (R373). -/
  | completion (ring : Nat) (data : List Nat)
  /-- A change of a land: name and level. -/
  | land (name : String) (level : Bool)
  /-- SM3 data read by a passing frame (R456). -/
  | sm3 (data : List Nat)
  /-- The answer to a command that names a unit outside its range, and that no ring carries (R16). -/
  | refused (status : Nat)
deriving DecidableEq, Repr, Inhabited

/-! ### The jig (10_task_graphs_and_bay_scheduling.md) -/

/-- A shape-map entry (R178). -/
structure ShapeEnt where
  plan : Nat
  tile : Nat
  src : Nat
  index : Nat
  kind : Nat
  order : Nat
deriving DecidableEq, Repr, Inhabited

/-- What the jig records of one section at registration (R72, R103, R177, R259). -/
structure Sect where
  bays : Nat
  chain : Bool
  span : Bool
  next : Nat
  imageBase : Nat
  digestBase : Nat
  tiled : Nat
  shape : List ShapeEnt
  /-- Shape-map entries that function cells read as run-time row lengths. -/
  rowDims : List Nat
  spanDev : Bool
  perTile : Nat
  /-- LAT_NEAR, LAT_MID, LAT_LARGE, LAT_LINK. -/
  lat : List Nat
  /-- FILL, DRAIN, DRAIN_EMPTY by base bay. -/
  fills : List (Nat × Nat × Nat)
deriving DecidableEq, Repr, Inhabited

/-- A registered layout, by handle (R259). -/
structure Layout where
  func : Nat
  digest : Nat
  /-- CUT_DIGEST of its cut list (R392). -/
  cutDigest : Nat
  /-- UNREGISTERed, and held for its last task. -/
  gone : Bool
  nb : Nat
  first : Nat
  sects : List Sect
deriving DecidableEq, Repr, Inhabited

/-- Task states (R268); `reading` while the issue reads are out, still COUNTING for software. -/
inductive TaskSt where
  | counting | reading | issued | placed | saving | saved | restoring | teardown | done | notRun
deriving DecidableEq, Repr, Inhabited

/-- Why a task was saved, for its place in the ready order (R272). -/
inductive SaveWhy where
  | quantum | higher
deriving DecidableEq, Repr, Inhabited

/-- A task: key graph × 65,536 + task number. -/
structure Task where
  st : TaskSt
  /-- Predecessors outstanding (R266). -/
  count : Nat
  func : Nat
  level : Nat
  notify : Bool
  user : Nat
  layout : Nat
  /-- Quantum in ns, and the dcount at which it was last activated or restored (R277). -/
  quantum : Nat
  ranAt : Nat
  expired : Bool
  /-- BASE and LENGTH of the operand slots (R264). -/
  opnds : List (Nat × Nat)
  /-- Extents of every section's entries (R182). -/
  extents : List (List Nat)
  acct : Nat
  records : Nat
  /-- Section instances begun, for R265. -/
  insts : Nat
  /-- Base bay and bays held (R274). -/
  base : Nat
  nb : Nat
  /-- Save slots reserved (R274). -/
  slots : List Nat
  /-- SERIAL recorded for each of its slots (R285). -/
  serials : List Nat
  /-- Bays of the task saved or restored so far in the present operation. -/
  doneBays : List Nat
  why : SaveWhy
  /-- dcount of issue (READY_WAIT), and iclk count of its entry into the ready order (R272). -/
  issuedAt : Nat
  entered : Nat
  /-- Status so far: the fault that tears it down, or 0. -/
  status : Nat
  /-- The worst status of its record writes that failed (R114). -/
  recSt : Nat
  /-- The instance of its last section, with CHAIN = 0, has ended (R276). -/
  ended : Bool
deriving DecidableEq, Repr, Inhabited

/-- A graph, by graph entry (R260, R262). -/
structure Graph where
  func : Nat
  halt : Bool
  tasks : Nat
  taskBase : Nat
  /-- Edges, predecessor and successor. -/
  edges : List (Nat × Nat)
  user : Nat
  counted : Bool
  /-- Order of submission (R272). -/
  seq : Nat
  /-- Ring the graph came from; none for the engine port. -/
  ring : Option Nat
  /-- Task descriptor and operand table that the engine port handed over (R331). -/
  port : Option (List Nat × List Nat)
deriving DecidableEq, Repr, Inhabited

/-- A function's save pool (R280). -/
structure Pool where
  object : Nat
  base : Nat
  slots : Nat
  /-- Slots reserved. -/
  held : List Nat
deriving DecidableEq, Repr, Inhabited

/-- The save header the jig wrote in a slot: key function × 65,536 + slot (R285), with the bay's contents beside it
(R284). -/
structure SaveSlot where
  bay : Nat
  func : Nat
  serial : Nat
  frozen : Nat
  drawers : Nat
  active : Nat
  incarn : Nat
  job : Nat
  /-- The bay's contents as saved. -/
  bayRec : Bay
  drawerRec : Tbl Drawer
  siteRec : Tbl Site
  mxcRec : Tbl Mxc
  fncRec : Tbl Fnc
  srcRec : Tbl Src
  claimRec : Tbl (List Claim)
  bufRec : Tbl (List Buf)
  sramRec : Tbl Payload
  instRec : Tbl Inst
  tallyRec : Tbl Tally
  /-- Tokens that were on their way to the bay in the panel networks (R48, R282 step 3). -/
  netRec : List Flit
deriving DecidableEq, Repr, Inhabited

/-- The jig. -/
structure Jig where
  layouts : Tbl Layout
  graphs : Tbl Graph
  tasks : Tbl Task
  /-- The ready order: tasks ISSUED or SAVED, first to last (R272). -/
  order : List Nat
  /-- Task that holds each bay (R273). -/
  held : Tbl (Option Nat)
  /-- dcount from which each bay is held, and from which it saves or restores (R291). -/
  heldAt : Tbl Nat
  busyAt : Tbl Nat
  /-- Bays reserved for a waiting task (R279). -/
  reserved : Tbl (Option Nat)
  pools : Tbl Pool
  /-- SERIAL of the last save (R285). -/
  serial : Nat
  saves : Tbl SaveSlot
  graphSeq : Nat
  /-- PREEMPTs the jig has sent and bays have not accepted. -/
  preempt : List Nat
  /-- ACTIVATEs that wait for a free tally: bay, drawer, base bay, task (R186). -/
  actWait : List (Nat × Nat × Nat × Nat)
deriving DecidableEq, Repr, Inhabited

/-! ### Host port (14_host_interface.md) -/

/-- One MSI-X table entry (R377): address, data, mask. -/
structure MsixEnt where
  addr : Nat := 0
  data : Nat := 0
  masked : Bool := true
deriving DecidableEq, Repr, Inhabited

/-- Ring states (R367, R369). -/
inductive RingSt where
  | disabled | running | stopping | error
deriving DecidableEq, Repr, Inhabited

/-- A completion that waits to be written, or whose GO is awaited (R373 to R376). -/
structure Cpl where
  data : List Nat
  /-- dcount at which it was queued (R376). -/
  since : Nat
deriving DecidableEq, Repr, Inhabited

/-- A ring, by global ring number (R366 to R376). -/
structure Ring where
  st : RingSt := .disabled
  sqBase : Nat := 0
  cqBase : Nat := 0
  /-- RING_CTRL; SIZE is 4 at reset (R367). -/
  ctrl : Nat := 8
  /-- ERR status of RING_STATUS. -/
  err : Nat := 0
  sqTail : Nat := 0
  sqHead : Nat := 0
  cqHead : Nat := 0
  cqTail : Nat := 0
  /-- PHASE of the next completion (R373). -/
  phase : Bool := true
  /-- Tags of the entry reads outstanding, in ring order (R370). -/
  reading : List Nat := []
  /-- Completions queued to be written, in order. -/
  toWrite : List Cpl := []
  /-- Completions signalled by no vector yet, and the dcount of the first of them (R377). -/
  unsig : Nat := 0
  unsigAt : Option Nat := none
  /-- Commands and requests dispatched and not completed (R369). -/
  inFlight : Nat := 0
deriving DecidableEq, Repr, Inhabited

/-- A function's entry of the function table (R358). -/
structure FnEnt where
  ringFirst : Nat := 0
  ringCount : Nat := 0
  vectors : Nat := 0
  /-- FLAGS. -/
  flags : Nat := 0
  /-- APERTURE 0 to 7: BASE and END (R359). -/
  aps : Tbl (Nat × Nat) := []
deriving DecidableEq, Repr, Inhabited

/-- What an HDM window maps (R362). -/
structure HdmMap where
  dpa : Nat := 0
  len : Nat := 0
  dev : Nat := 0
  func : Nat := 0
  flags : Nat := 0
deriving DecidableEq, Repr, Inhabited

/-- An HDM window entry: what is in effect, what its fields were written to, and, while BUSY, what takes effect when the
old range has been invalidated (R363). -/
structure HdmWin where
  now : HdmMap := {}
  reg : HdmMap := {}
  next : Option HdmMap := none
deriving DecidableEq, Repr, Inhabited

/-- A read of a submission entry that is outstanding (R360, R370); `sent`: it has left the device (R382). -/
structure HRead where
  tag : Nat
  func : Nat
  ring : Nat
  addr : Nat
  since : Nat
  sent : Bool
  /-- The bytes it has returned before an earlier read of its ring. -/
  got : Option (List Nat) := none
deriving DecidableEq, Repr, Inhabited

/-- What a write to host memory serves: a token of a bureau entry, a command, a completion of a ring. -/
inductive HWho where
  | token (entry : Nat)
  | cmd (q : Req)
  | cpl (ring : Nat)
deriving DecidableEq, Repr, Inhabited

/-- A write to host memory whose GO has not come (R359, R360, R375). -/
structure HWrite where
  tag : Nat
  func : Nat
  who : HWho
  addr : Nat
  data : List Nat
  since : Nat
  sent : Bool
deriving DecidableEq, Repr, Inhabited

/-- A command or request dispatched and not completed: ring, TAG, function, and its entry (R369, R371). -/
structure CmdRec where
  ring : Nat
  tag : Nat
  func : Nat
  entry : List Nat
deriving DecidableEq, Repr, Inhabited

/-- A host CXL.mem access that waits: for a BIRsp, or on a MOVING tile (R364, R365). -/
structure HostWait where
  dpa : Nat
  write : Bool
  tee : Bool
  cache : Bool
  tag : Nat
  data : List Nat
  since : Nat
  /-- It has been held on a MOVING tile (R228). -/
  onMove : Bool := false
deriving DecidableEq, Repr, Inhabited

/-- The upstream port and what hangs on it. -/
structure HostPort where
  fns : Tbl FnEnt
  wins : Tbl HdmWin
  rings : Tbl Ring
  /-- CAUSE_g and MASK_g by function × 16 + g (R378). -/
  cause : Tbl Nat
  mask : Tbl Nat
  /-- SSR_VECTOR and FABRIC_DOORBELL by function (R378, R425). -/
  ssrVec : Tbl Nat
  fdb : Tbl Nat
  /-- MSI-X tables and pending bits by function × 256 + vector (R377). -/
  msix : Tbl MsixEnt
  pba : Tbl Bool
  /-- MSI-X Enable, Function Mask, Memory Space Enable and bus-master enable by function. -/
  msixEn : Tbl Bool
  fnMask : Tbl Bool
  memEn : Tbl Bool
  busM : Tbl Bool
  /-- SR-IOV VF Enable and NumVFs (R356). -/
  vfEn : Bool
  numVf : Nat
  /-- The upstream link is trained, at rate (GT/s) and width (R355). -/
  linkUp : Bool
  rate : Nat
  width : Nat
  /-- Rings stay DISABLED until a conventional reset, since a viral indication (R381). -/
  viralHold : Bool
  /-- Accesses to host memory that are outstanding, and the tag of the next (R360). -/
  reads : List HRead
  writes : List HWrite
  nextTag : Nat
  /-- Snoop filter of each I/O die: lines in order of age, oldest first (R365). -/
  snoop : Tbl (List Nat)
  /-- Lines awaiting BIRsp (R365). -/
  bi : List Nat
  waits : List HostWait
  cmds : List CmdRec
  /-- CXL component registers of the provider function's BAR4, by offset (R357). -/
  comp : Tbl Nat
  /-- Errors reported under AER (R521). -/
  aer : Nat
  /-- ALERT_N asserted (R380). -/
  alert : Bool
deriving DecidableEq, Repr, Inhabited

/-! ### Trust (15_tenants_and_trust.md) -/

/-- A function's key set (R395). -/
structure KeySet where
  xts : Nat
  tag : Nat
  tenant : Nat
  /-- Owner keys 0 to OWNERS − 1 (R292). -/
  owners : List Nat
  tflags : Nat
  alarm : Nat
  epoch : Nat
deriving DecidableEq, Repr, Inhabited

/-- The escutcheon: identity, keys, logs and debug (R385 to R408). -/
structure Trust where
  /-- Key set of each function, and beside it the older set while a roll runs (R395, R403). -/
  keys : Tbl (Option KeySet)
  old : Tbl (Option KeySet)
  /-- Epoch of each function, kept when a tenancy ends (R396, R401). -/
  epoch : Tbl Nat
  /-- The provider XTS and tag keys are held (R387, R407), and the keys: DevID seed, provider XTS key, provider tag key. -/
  provKeys : Bool
  devId : Nat
  provXts : Nat
  provTag : Nat
  /-- The agreement key of this power cycle, and the alias certificate that carries its public key, the firmware measurement
  and the power-on count (R387, R389). -/
  agree : Nat
  aliasCert : List Nat
  /-- Layout log and manifest log of each function, 64 bytes each (R392). -/
  layoutLog : Tbl Nat
  manifestLog : Tbl Nat
  /-- TSP lock of each function (R394). -/
  locked : Tbl Bool
  noId : Bool
  /-- Debug opened since power-on, and its scope (R406, R407). -/
  opened : Bool
  scope : Nat
  /-- Nonces issued and not used, by their 32-byte value (R406, R407). -/
  nonces : List Nat
  /-- SPDM sessions: session number and function (R390). -/
  sessions : List (Nat × Nat)
  /-- Measurement blocks 0x01 to 0x05 (R391). -/
  meas : Tbl Nat
  /-- Tag failures of each function in the present window (R398). -/
  tagFails : Tbl Nat
  /-- KEY_LOAD to complete when the roll ends (R403), TENANT_END to complete when the last frame is free (R401). -/
  rollCmd : Tbl (Option Req)
  endCmd : Tbl (List Req)
  /-- The iclk of each function's last zeroisation (R402). -/
  zeroAt : Tbl (Option Nat)
  /-- Power-on count (R389) and the device serial, 16 bytes (R388). -/
  powerOns : Nat
  serial : Nat
  /-- SVN floors: [13:8] escutcheon, [5:0] Rhotur (R405). -/
  svnFloor : Nat
deriving DecidableEq, Repr, Inhabited

/-! ### Weight intake (11_weight_intake_and_generations.md) -/

/-- A tensor entry of a manifest (R292). -/
structure Tensor where
  shard : Nat
  op : Nat
  src : Nat
  dst : Nat
  mode : Nat
  order : Nat
  srcOff : Nat
  srcBytes : Nat
  k : Nat
  n : Nat
  dstOff : Nat
  prescale : Nat
deriving DecidableEq, Repr, Inhabited

/-- Generation states (R300). -/
inductive GenSt where
  | building | staged | live | draining | failed | cold
deriving DecidableEq, Repr, Inhabited

/-- A generation or version record in use (R300, R309), with what its build needs. -/
structure GenRec where
  gen : Nat
  st : GenSt
  status : Nat
  /-- Bureau entries that pin it, and HOLDs (R301). -/
  pins : Nat
  holds : Nat
  object : Nat
  shape : Nat
  /-- TOTAL_BYTES. -/
  total : Nat
  prio : Nat
  keep : Bool
  /-- The INTAKE, whose ring also takes the notices, and whether it has still to be completed (R294, R375). -/
  q : Req
  waits : Bool
  auto : Bool
  /-- LENGTH and DIGEST of the shards. -/
  shards : List (Nat × Nat)
  tensors : List Tensor
  /-- Shards verified. -/
  done : List Nat
  /-- Refetches used, by shard (R296). -/
  refetch : Tbl Nat
  /-- dcount of the acceptance or of the last verified shard (R296). -/
  since : Nat
  /-- A switch has been asked for; it waits for the near tier (WARM), and these COMMITs complete with it (R302). -/
  commit : Bool
  warm : Bool
  commits : List Req
  /-- Output tile that the resident scrub reads next, and the dcount at which its pass began (R304). -/
  scrub : Nat
  scrubAt : Option Nat
deriving DecidableEq, Repr, Inhabited

/-- A model slot (key slot) or an adapter (key 65,536 + adapter) (R294, R300, R303). -/
structure Model where
  func : Nat
  slot : Nat
  modelId : Nat
  prio : Nat
  keep : Bool
  use : Nat
  /-- Records in use, at most four. -/
  recs : List GenRec
  /-- Number of the last generation. -/
  last : Nat
deriving DecidableEq, Repr, Inhabited

/-- A shard queued for a planer (R294, R295): model key, generation, shard, source. -/
structure ShardJob where
  key : Nat
  gen : Nat
  shard : Nat
  host : Bool
  addr : Nat
  prio : Nat
deriving DecidableEq, Repr, Inhabited

/-- A planer's shard: the bytes read so far, and whether a read or a tensor has failed (R295, R299). -/
structure PlanerJob where
  job : ShardJob
  data : List Nat
  bad : Bool
deriving DecidableEq, Repr, Inhabited

/-- The slot manager and the planers. -/
structure Weights where
  models : Tbl Model
  queue : List ShardJob
  planers : Tbl (Option PlanerJob)
  /-- dcount of the last ageing of USE (R305). -/
  agedAt : Nat
deriving DecidableEq, Repr, Inhabited

/-! ### Serving (12_request_bureau_and_prefix_thicket.md, 13_sampling_and_draft_verification.md) -/

/-- A cell of a thicket (R321). -/
inductive Cell where
  | inner (nibble : Nat) (child : Tbl Nat)
  | leaf (gen key run prev children depth lastHit slot : Nat)
  | chunk (next : Nat) (runs : List Nat)
deriving DecidableEq, Repr

/-- A function's cache pool and thicket (R310 to R312, R321). -/
structure KvPool where
  object : Nat
  base : Nat
  runPages : Nat
  cellTiles : Nat
  runs : Nat
  /-- Cells in use, by number. -/
  cells : Tbl Cell
  /-- Run table: STATE and REFS of the runs that are not FREE (R312). -/
  table : Tbl (Nat × Nat)
deriving DecidableEq, Repr, Inhabited

/-- A serving binding, by slot (R313). -/
structure Binding where
  func : Nat
  prefill : Nat
  decode : Nat
  verify : Nat
  groups : Nat
  vocab : Nat
  context : Nat
  template : Nat
  area : Nat
  /-- A SERVE that replaced it, or an UNSERVE, not yet completed. -/
  serve : List Req
  unserve : Option Req
deriving DecidableEq, Repr, Inhabited

/-- Entry states (R317). -/
inductive EntrySt where
  | walking | waitPrefill | prefill | waitDecode | decode | finishing
deriving DecidableEq, Repr, Inhabited

/-- A bureau entry in use (R316, R352). -/
structure Entry where
  st : EntrySt
  /-- The ring entry it came from (RING, TAG). -/
  q : Req
  func : Nat
  level : Nat
  noShare : Bool
  draft : Bool
  /-- HOST and ACK of the ring entry (R361, R371). -/
  host : Bool
  ack : Bool
  cancel : Bool
  late : Bool
  slot : Nat
  gen : Nat
  adapter : Nat
  aver : Nat
  len : Nat
  generated : Nat
  matched : Nat
  listHead : Nat
  listTail : Nat
  /-- Runs reserved and not yet written. -/
  reserved : List Nat
  admitN : Nat
  order : Nat
  deadline : Nat
  user : Nat
  promptAt : Nat
  out : Nat
  outLen : Nat
  maxNew : Nat
  param : Nat
  stream : Nat
  /-- The copy of the parameter block (R336), the prompt, and the tokens written to the output. -/
  par : List Nat
  prompt : List Nat
  toks : List Nat
  pending : Nat
  seed : Nat
  dslot : Nat
  dgen : Nat
  dlen : Nat
  zrun : Nat
  draftOff : Bool
  stopState : Nat
  proposed : Nat
  accepted : Nat
  /-- Block the walk looks up next, and whether it has met a miss (R323). -/
  walkAt : Nat
  /-- Leaves that the walk has hit: cell, LAST_HIT before, LAST_HIT set; an admission that is undone puts them back (R323). -/
  hits : List (Nat × Nat × Nat)
  walkOver : Bool
  /-- Block to be published next (R325). -/
  pubAt : Nat
  /-- dcount since which it waits for a batch (R330). -/
  waitAt : Nat
  /-- dcount at which CANCEL or the deadline reached it first (R319). -/
  endAt : Nat
  /-- Status of a write to its host output that failed (R360), 0 for none. -/
  bad : Nat
  /-- End reason and status, once it is FINISHING, and whether its completion has been queued (R318, R376). -/
  code : Nat
  status : Nat
  posted : Bool
deriving DecidableEq, Repr, Inhabited

/-- A member of a batch (R331, R334): its step, the logit rows it has, the row to be processed next, the candidates
of a verify row (token and weight, in the order of R338 step 10) or its greedy choice, and whether it is done. -/
structure BMember where
  entry : Nat
  start : Nat
  count : Nat
  rows : Nat
  firstRow : Nat
  row : Nat
  cands : Option (List (Nat × Nat))
  greedy : Nat
  /-- The stop records as each row of the step was read with them (R337). -/
  stops : List (List (List Nat))
  accepted : List Nat
  isOver : Bool
deriving DecidableEq, Repr, Inhabited

/-- Phases of a batch (R329). -/
inductive Phase3 where
  | prefill | decode | verify
deriving DecidableEq, Repr, Inhabited

/-- A batch in flight (R329 to R332), by number. -/
structure Batch where
  func : Nat
  slot : Nat
  gen : Nat
  adapter : Nat
  aver : Nat
  phase : Phase3
  level : Nat
  dslot : Nat
  dgen : Nat
  vocab : Nat
  /-- Batch table 0 to 3 and graph entry. -/
  table : Nat
  graph : Nat
  members : List BMember
  /-- Its task is done with OK: the logits are with the pruners, at this device address (operand slot 14), the draft
  tokens in operand slot 15. -/
  rowsAt : Option (Nat × Nat)
deriving DecidableEq, Repr, Inhabited

/-- Bureau, walker and batcher. -/
structure Serving where
  pools : Tbl KvPool
  binds : Tbl Binding
  entries : Tbl Entry
  batches : Tbl Batch
  batchNext : Nat
  /-- Admissions so far: the admission order (R330). -/
  order : Nat
  /-- Generation records that have become NONE and whose leaves the walker has still to purge: function, slot,
  generation (R327). -/
  purge : List (Nat × Nat × Nat)
deriving DecidableEq, Repr, Inhabited
/-! ### Spline links (16_spline_links.md) -/

/-- Link states (R412); both directions of a link are kept in the one state that 0x2602 reports. -/
inductive LinkSt where
  | off | training | agreeing | up | sleep | waking | mappedOut
deriving DecidableEq, Repr, Inhabited

/-- A message (R422): the fields of its header, of its extension, and the bytes of its LEN segments. -/
structure Msg where
  type : Nat
  dest : Nat
  src : Nat
  incarn : Nat := 0
  status : Nat := 0
  len : Nat := 0
  ttl : Nat := 15
  xid : Nat := 0
  addr : Nat := 0
  arg : Nat := 0
  tenant : Nat := 0
  cmp : Nat := 0
  data : List Nat := []
  /-- TYPE of the request that a response answers, where this device knows it (R420). -/
  ans : Nat := 0
deriving DecidableEq, Repr, Inhabited

/-- A frame: its FSEQ, key phase and payload segments of 32 bytes (R414 to R416), and the dcount at which it was first
sent or received. -/
structure Frame where
  fseq : Nat
  phase : Bool
  segs : List (List Nat)
  since : Nat
deriving DecidableEq, Repr, Inhabited

/-- One spline link. -/
structure Link where
  st : LinkSt := .off
  /-- Failed attempts at steps 1 and 2 of bring-up, and whether step 1 is done (R413). -/
  attempts : Nat := 0
  aligned : Bool := false
  /-- Fabric address of the peer. -/
  peer : Nat := 0
  /-- Lane whose position the spare has taken, by direction (R434). -/
  txSwap : Option Nat := none
  rxSwap : Option Nat := none
  /-- Transmitter: FSEQ of the next new frame, FCOUNT and key phase, FCOUNT at the last change of key (R416, R419). -/
  fseq : Nat := 0
  fcount : Nat := 0
  phase : Bool := false
  keyCount : Nat := 0
  /-- Frames not acknowledged, oldest first, those still to be replayed, replays of the oldest in succession, and the
  dcount of the last acknowledgement or replay (R418). -/
  held : List Frame := []
  replay : List Frame := []
  retries : Nat := 0
  ackAt : Nat := 0
  /-- Receiver: FSEQ expected, the frame whose PTAG check waits for the next header, key phase, NAK owed (R417). -/
  expect : Nat := 0
  wait : Option Frame := none
  rxPhase : Bool := false
  nak : Bool := false
  /-- A frame has failed a check: later ones are discarded until it comes again (R417). -/
  dropping : Bool := false
  /-- Segments released and not yet a whole message, and the messages received and not yet performed. -/
  rxSegs : List (List Nat) := []
  inbox : List Msg := []
  /-- Credits held of the peer's pools, credits to be returned, by pool (R420). -/
  cred : Tbl Nat := []
  due : Tbl Nat := []
  /-- Messages that wait to be sent, and the segments of those begun. -/
  outq : List Msg := []
  txSegs : List (List Nat) := []
  /-- Transmit arbiter, by level: the pool looked at first, and the messages of other levels begun while a message of the level
  could have been (R20, R289). -/
  turn : Tbl Nat := []
  skips : Tbl Nat := []
  /-- dcounts of the PTAG failures of the last second (R440). -/
  ptagAt : List Nat := []
  /-- dcount of the last payload, and a SLEEP that has been offered (R438). -/
  idleAt : Nat := 0
  offered : Bool := false
  /-- dcount of the last key agreement, an agreement that runs, and a new transmit key that waits (R419). -/
  keyedAt : Nat := 0
  rekey : Bool := false
  newKey : Bool := false
  /-- The peer serials that LINK_PEER_POLICY and LINK_ALLOW admitted when the agreement that runs began, none for any (R404,
  R448). -/
  allow : Option (List Nat) := none
  /-- The link has not been UP since start-up began to bring it up (R491). -/
  first : Bool := false
deriving DecidableEq, Repr, Inhabited

/-- What a remote request serves: a tier access, or a claim of the pacer of an instance. -/
inductive LWho where
  | acc (id : Nat)
  | claim (inst : Nat)
deriving DecidableEq, Repr, Inhabited

/-- A request sent over a link and not answered (R427, R428): partition and incarnation of the requester, the segments
of response room it holds (R421). -/
structure LReq where
  xid : Nat
  link : Nat
  who : LWho
  part : Nat
  incarn : Nat
  since : Nat
  room : Nat
deriving DecidableEq, Repr, Inhabited

/-- A fabric window in effect (R423). -/
structure FabWin where
  local_ : Nat := 0
  len : Nat := 0
  remote : Nat := 0
  faddr : Nat := 0
  func : Nat := 0
  flags : Nat := 0
deriving DecidableEq, Repr, Inhabited

/-- Spline links. -/
structure Links where
  links : Tbl Link
  reqs : List LReq
  nextXid : Nat
  /-- XIDs of requests that have completed with TIMEOUT (R428). -/
  late : List Nat
  /-- Requests of peers that run as tier accesses, by access number, with their link (R424). -/
  serving : Tbl (Nat × Msg)
  wins : Tbl FabWin
  /-- The open maintenance window: code, and dcount at which it closes (R437). -/
  maint : Option (Nat × Nat)
  /-- Corrections of each lane in the present LANE_WINDOW, by link × 5 + lane (R434, R520). -/
  laneWin : Tbl Nat
  /-- dcount from which the ATOMIC first in a link's inbox has been held on a MOVING tile (R228). -/
  atomHeld : Tbl Nat
deriving DecidableEq, Repr, Inhabited

/-! ### Power (18_power_domains_and_caps.md) -/

/-- Domain states, in the order of their codes (R469). -/
inductive DomSt where
  | off | retention | waking | on | sleeping
deriving DecidableEq, Repr, Inhabited

/-- A power domain (R468 to R475). -/
structure Domain where
  st : DomSt := .off
  /-- Ready signals that are up, 0 to 4, while it wakes or sleeps (R472). -/
  step : Nat := 0
  /-- It wakes from OFF, or sleeps to OFF. -/
  deep : Bool := false
  /-- A wake source has come while it sleeps (R475). -/
  turn : Bool := false
  /-- dcount at which it was last in use, and at which it entered RETENTION. -/
  usedAt : Nat := 0
  retAt : Nat := 0
deriving DecidableEq, Repr, Inhabited

/-- Power control: the domains and the cap controller (R468 to R487). Powers in mW unless a name ends in W. -/
structure Pwr where
  doms : Tbl Domain
  /-- The rack cap and CAP_ID that have reached power control (R455, R456, R478). -/
  rackW : Nat
  rackId : Nat
  /-- The orphan cap is in force, and its value (R484). -/
  orphan : Bool
  orphanW : Nat
  /-- PWR_ALERT_N asserted; dcount of its release while PWR_ALERT_HOLD runs (R485). -/
  alertN : Bool
  holdFrom : Option Nat
  /-- THERM_ALERT_N asserted; throttle in force, the thermal limit, dcount of its start, dcount from which every sensor
  has been cool (R486). -/
  thermN : Bool
  throttle : Bool
  thermMw : Nat
  throttleAt : Nat
  coolAt : Option Nat
  /-- Readings of the junction sensors in 0.1 °C: 16 of each panel, then 8 of each I/O die (R23, R486, R489). -/
  tj : Tbl Nat
  /-- THERMTRIP_N asserted (R487). -/
  trip : Bool
  /-- The cap in force (R478). -/
  capW : Nat
  /-- Operating point, target, point of the step in progress (R477, R480). -/
  op : Nat
  target : Nat
  stepTo : Option Nat
  /-- A, in 1/256 (R479). -/
  admitN : Nat
  /-- The present work as predicted: power that does not scale, and dynamic power at OP0 with A = 256 (R480). -/
  fixed : Nat
  dyn : Nat
  /-- The last 100 samples of package power and of its mean over 100 µs, newest first (R455, R483). -/
  samples : List Nat
  means : List Nat
  /-- The cap in force is below the floor; POWER_FLOOR (R481). -/
  unreach : Bool
  floorW : Nat
  /-- Package energy and ballast energy in nJ (R489). -/
  energy : Nat
  ballast : Nat
  /-- Ballast runs (R483). -/
  ballastOn : Bool
  /-- VIN12 and VAON33 at the lands in mV (R519). -/
  vin12Mv : Nat
  vaon33Mv : Nat
  /-- Reference clocks lost, bits as in REFCLK_STATE (R512). -/
  refLost : Nat
deriving DecidableEq, Repr, Inhabited

/-! ### Management port (17_object_dictionary_and_management.md) -/

/-- EtherCAT states (R443). -/
inductive EsmSt where
  | init | preop | safeop | op | boot
deriving DecidableEq, Repr, Inhabited

/-- The writer that holds the image path (R462): FoE or the image objects, over which path it selected (BAR2 or CoE),
the bank that it writes, the bytes written, dcount of the last data. -/
structure ImgPath where
  foe : Bool
  bank : Nat
  bytes : List Nat
  at_ : Nat
deriving DecidableEq, Repr, Inhabited

/-- A CoE request held while the Rhotur firmware restarts (R445, R494). -/
inductive CoeReq where
  | download (index sub : Nat) (complete : Bool) (value : List Nat) (v : Verdict)
  | upload (index sub : Nat) (complete : Bool)
  | info (index : Option Nat)
deriving DecidableEq, Repr, Inhabited

/-- Where a start-up waits (R491, R512, R518). -/
inductive StartAt where
  | clock | firmware | config | scan
deriving DecidableEq, Repr, Inhabited

/-- The EtherCAT SubDevice and the flash. -/
structure Mgmt where
  esm : EsmSt
  /-- AL status code (R443). -/
  al : Nat
  /-- Sync managers as set (R444). -/
  sms : Tbl Sm
  /-- A valid SM2 write has been received in SAFE-OP (R443). -/
  safeWrite : Bool
  /-- Loss detection is armed; dcount of the last good write; process data is lost (R457). -/
  armed : Bool
  goodAt : Nat
  lost : Bool
  /-- The latest complete snapshot, 20 bytes (R455, R456). -/
  snap : List Nat
  /-- MII ports with a link (R442). -/
  ports : Tbl Bool
  /-- CoE requests that wait, and the path that holds an image target (R446, R459). -/
  held : List CoeReq
  path : Option ImgPath
  /-- Flash banks that the device has written (R458, R462). -/
  flash : Tbl Bank
  /-- What start-up found, and where it waits. -/
  facts : StartFacts
  /-- The DDR5 channel groups of the part's population, once the device has met them (R26). -/
  population : Option Nat
  /-- The step at which start-up waits (R490). -/
  waitAt : Option StartAt
  /-- The configuration copy in use and the running banks, as bank numbers (R459, R461). -/
  cfgBank : Nat
  fwBanks : Nat
deriving DecidableEq, Repr, Inhabited

/-! ### Renewal (19_startup_renewal_and_mode_combinations.md) -/

/-- What has been reported for renewal and waits for the device to act (R499). -/
inductive Report where
  | bay (n : Nat)
  /-- A bay that the device itself has taken OUT. -/
  | back (n : Nat)
  | lane (link lane : Nat)
deriving DecidableEq, Repr, Inhabited

/-- Renewal of partitions (R494 to R499). PART_INCARN, PART_STATE, SUBST_MAP, SUBST_GEN and RENEW_STATUS are kept in
the dictionary. -/
structure Ren where
  /-- Corrected fabric errors of each bay in the present window (R520). -/
  fabCorr : Tbl Nat
  /-- Uncorrectable fabric errors of each site in the present 1 s (R499, R520). -/
  fabUnc : Tbl Nat
  reports : List Report
  /-- dcount at which each partition last left service or began to recalibrate (R494 to R496). -/
  leftAt : Tbl Nat
  /-- Action of the renewal that runs on each partition, 0 for none (R496). -/
  action : Tbl Nat
  /-- The active jig partition, 101 or 102, and whether its standby is in step (R494, R497). -/
  active : Nat
  inStep : Bool
  /-- Bays out with no spare left, until a start-up (R32, R499). -/
  noSpare : List Nat
  /-- Groups and ports of a FAILED tier that have been reset and have passed their training since (R235, R493). -/
  passed : List Nat
deriving DecidableEq, Repr, Inhabited


/-! ### The whole state -/

/-- The state of the block. -/
structure State where
  clk : Clk
  dict : Dict
  log : ErrLog
  /-- Steering units by bay × 120 + site. -/
  sites : Tbl Site
  /-- Tokens in the panel networks and the carcass, in order of arrival at the segment they wait behind (R48). -/
  net : List Flit
  /-- Drawers by bay × 4 + d. -/
  drawers : Tbl Drawer
  bays : Tbl Bay
  /-- Service buffers of the panels: what the edging chains delivered (R174). -/
  service : Tbl (List Nat)
  /-- Section instances by base bay × 4 + d. -/
  insts : Tbl Inst
  mxc : Tbl Mxc
  fnc : Tbl Fnc
  src : Tbl Src
  /-- Claim windows by bay × 4 + d (R188). -/
  claims : Tbl (List Claim)
  xfers : List Xfer
  /-- Scratch buffers by (bay × 120 + site) × 4 + d (R200). -/
  bufs : Tbl (List Buf)
  /-- Scratch words of 32 bytes by (bay × 120 + site) × 32,768 + word (R29, R199). -/
  sram : Tbl Payload
  /-- Tallies: die × 64 + index for the I/O dies; 256 + bay × 120 + site for a scratch cell's register (R186). -/
  tallies : Tbl Tally
  /-- Round-robin pointers of the arbiters that several bays share, the requester looked at first: 0 to 3 the tally arbiters
  of the I/O dies, 4 to 7 their directory ports, 8 the functions whose rings are read, 9 and 10 the walker's publishes and
  lookups, 64 + f the rings of function f (R20, R190, R225, R289, R322, R370). -/
  arb : Tbl Nat
  /-- The data bytes of the device range by device address; an unlisted byte reads 0 (R210, R217). -/
  mem : List Host.Cell
  tier : Tier
  code : Code
  jig : Jig
  host : HostPort
  trust : Trust
  ren : Ren
  link : Links
  wgt : Weights
  srv : Serving
  pwr : Pwr
  mgmt : Mgmt
  /-- What has left the lands, oldest first (the model's own record). -/
  out : List Emit
  /-- How many open choices have been taken (the model's own counter). -/
  free : Nat
  /-- Commands that wait, first in first out (the model's own). -/
  pending : List Instr
deriving DecidableEq, Repr

/-- The reasons a step stops: none, since the device answers a number outside its range with PROTOCOL (R16) and the spec
gives every command an effect. -/
inductive Fault where
deriving DecidableEq, Repr

/-- The refusals. -/
inductive Refusal where
  /-- Raised by an arm of `exec` whose command has no meaning yet. Safe: the model stops. -/
  | notModelled (mnemonic : String)
deriving DecidableEq, Repr

/-- The three outcomes of a command. -/
abbrev Outcome := Host.Outcome State Fault Refusal

/-! ### Reset

The machine before any supply is applied: nothing of it runs (R490). Start-up step 1 begins with VAON33. -/

/-- Clock, rails and JTAG at reset. -/
def Clk.reset : Clk := {
  dcount := 0, fc := 0, vaon33 := false, vin12 := false, phase := .off, winStart := []
  winLen := [(0, 60000000000), (1, 86400000000000), (2, 1000000000), (3, 1000000000), (4, 1000000000)], jtag := .idcode }

/-- The dictionary at reset: every object at its default, the mirror of the jig on standby (R447, R502). -/
def Dict.reset : Dict := {
  vals := [(0x201267, 128)], inForce := [], kept := [], longSel := 0, staged := none, longStatus := 0, probe := 0 }

/-- The error log, empty (R466). -/
def ErrLog.reset : ErrLog := { entries := [], next := 0, seq := 0, count := 0 }

/-- The tiers: none in service, no object, no tile. -/
def Tier.reset : Tier := {
  st := [], frames := [], objs := [], leaf := [], poison := [], accs := [], accNext := 0, old := [], moveQ := []
  moveCmds := [], cmdNext := 0, agedAt := 0, cache := [], walk := [], frees := [], channels := 0, expanders := 0, expCap := 0 }

/-- The memory interfaces. -/
def Code.reset : Code := {
  sym := [], spent := [], renew := [], train := [], hot := [], warm := [], scrub := [], scrubAt := [], flips := [], owed := []
  bad := [], trainedAt := [] }

/-- The jig: no layout, graph or task. -/
def Jig.reset : Jig := {
  layouts := [], graphs := [], tasks := [], order := [], held := [], heldAt := [], busyAt := [], reserved := [], pools := []
  serial := 0, saves := [], graphSeq := 0, preempt := [], actWait := [] }

/-- The upstream port: its link is down, every ring DISABLED (R369). -/
def HostPort.reset : HostPort := {
  fns := [], wins := [], rings := [], cause := [], mask := [], ssrVec := [], fdb := [], msix := [], pba := []
  msixEn := [], fnMask := [], memEn := [], busM := [], vfEn := false, numVf := 0, linkUp := false, rate := 0, width := 0
  viralHold := false, reads := [], writes := [], nextTag := 0, snoop := [], bi := [], waits := [], cmds := [], comp := []
  aer := 0, alert := false }

/-- The escutcheon: no key is held, no log begun. -/
def Trust.reset : Trust := {
  keys := [], old := [], epoch := [], provKeys := false, devId := 0, provXts := 0, provTag := 0, agree := 0
  aliasCert := [], layoutLog := [], manifestLog := [], locked := [], noId := false
  opened := false, scope := 0, nonces := [], sessions := [], meas := [], tagFails := [], rollCmd := [], endCmd := [], zeroAt := []
  powerOns := 0, serial := 0, svnFloor := 0 }

/-- Renewal: every incarnation 0, the jig on I/O die 0 active (R494, R495). -/
def Ren.reset : Ren := {
  fabCorr := [], fabUnc := [], reports := [], leftAt := [], action := [], active := 101, inStep := false, noSpare := []
  passed := [] }

/-- Links: all OFF. -/
def Links.reset : Links := {
  links := [], reqs := [], nextXid := 0, late := [], serving := [], wins := [], maint := none, laneWin := [], atomHeld := [] }

/-- The slot manager. -/
def Weights.reset : Weights := { models := [], queue := [], planers := [], agedAt := 0 }

/-- The bureau. -/
def Serving.reset : Serving := { pools := [], binds := [], entries := [], batches := [], batchNext := 0, order := 0, purge := [] }

/-- Power control: every domain OFF, the orphan cap in force at its default (R484), OP0 and A = 256 (R489). -/
def Pwr.reset : Pwr := {
  doms := [], rackW := 1800, rackId := 0, orphan := true, orphanW := 1080, alertN := false, holdFrom := none
  thermN := false, throttle := false, thermMw := 0, throttleAt := 0, coolAt := none, tj := [], trip := false
  capW := 1080, op := 0, target := 0, stepTo := none, admitN := 256, fixed := 0, dyn := 0, samples := [], means := []
  unreach := false, floorW := 0, energy := 0, ballast := 0, ballastOn := false, vin12Mv := 0, vaon33Mv := 0, refLost := 0 }

/-- The SubDevice in INIT (R443). -/
def Mgmt.reset : Mgmt := {
  esm := .init, al := 0, sms := [], safeWrite := false, armed := false, goodAt := 0, lost := false
  snap := List.replicate 20 0, ports := [], held := [], path := none, flash := [], facts := {}, population := none, waitAt := none
  cfgBank := 4, fwBanks := 0 }

/-- The machine right after reset. -/
def State.reset : State := {
  clk := Clk.reset, dict := Dict.reset, log := ErrLog.reset, sites := [], net := [], drawers := [], bays := [], service := []
  insts := [], mxc := [], fnc := [], src := [], claims := [], xfers := [], bufs := [], sram := [], tallies := [], arb := [], mem := []
  tier := Tier.reset, code := Code.reset, jig := Jig.reset, host := HostPort.reset, trust := Trust.reset, ren := Ren.reset
  link := Links.reset, wgt := Weights.reset, srv := Serving.reset, pwr := Pwr.reset, mgmt := Mgmt.reset, out := []
  free := 0, pending := [] }

end Sys2Proof.Machine
end

