-- ==== Sys2Proof/Machine/Tables.lean ====
section
/-!
DEFINITION. Reading and writing the sparse tables (`Tbl`).
-/
namespace Sys2Proof.Machine

/-- The entry of number `k`, if it is listed. -/
def tfind {α : Type} : Tbl α → Nat → Option α
  | [], _ => none
  | (a, x) :: r, k => if a = k then some x else tfind r k

/-- The value of number `k`, the default where it is not listed. -/
def tget {α : Type} [Inhabited α] (t : Tbl α) (k : Nat) : α := (tfind t k).getD default

/-- The value of number `k`, `d` where it is not listed. -/
def tgetD {α : Type} (t : Tbl α) (k : Nat) (d : α) : α := (tfind t k).getD d

/-- The table with number `k` at `v`. -/
def tset {α : Type} : Tbl α → Nat → α → Tbl α
  | [], k, v => [(k, v)]
  | (a, x) :: r, k, v =>
    if k < a then (k, v) :: (a, x) :: r
    else if k = a then (k, v) :: r
    else (a, x) :: tset r k v

/-- The table with number `k` not listed. -/
def tdel {α : Type} (t : Tbl α) (k : Nat) : Tbl α := t.filter (fun e => e.1 != k)

/-- The table with number `k` replaced by `f` of its value. -/
def tmod {α : Type} [Inhabited α] (t : Tbl α) (k : Nat) (f : α → α) : Tbl α := tset t k (f (tget t k))

/-- The smallest number below `n` from `k` up that the table does not list (fuel `n - k`). -/
def tfree {α : Type} (t : Tbl α) (k : Nat) : Nat → Option Nat
  | 0 => none
  | f + 1 => match tfind t k with
    | none => some k
    | some _ => tfree t (k + 1) f

/-- Every entry replaced by `f` of it. -/
def tmap {α : Type} (t : Tbl α) (f : Nat → α → α) : Tbl α := t.map (fun e => (e.1, f e.1 e.2))

/-- The entries whose number and value satisfy `p`. -/
def tfilter {α : Type} (t : Tbl α) (p : Nat → α → Bool) : Tbl α := t.filter (fun e => p e.1 e.2)

end Sys2Proof.Machine
end

