-- ==== Sys2Proof/Machine/Objects.lean ====
section
/-!
DEFINITION. The object dictionary's table: index, sub-indices, type, access, default and how a written value is
stored, as the dictionary tables of spec/ list them (R10, R11, R446 to R449). A default of "cfg" or "—" stands as 0.
-/
namespace Sys2Proof.Machine

/-- Object types (R11, R446). -/
inductive ObjTy where
  | u8 | u16 | u32 | u64 | i32 | r32 | octet | visible | boolean
deriving DecidableEq, Repr

/-- Object access codes (R11). -/
inductive ObjAcc where
  | RO | RW | RWP | WO
deriving DecidableEq, Repr

/-- How a written value is stored (R449): any value, refused outside a range, or stored as another value. -/
inductive ObjStore where
  | any
  | range (lo hi : Nat)
  | atLeast (lo : Nat)
  | atMost (hi : Nat)
  | oneOf (l : List Nat) (other : Nat)
  | within (lo hi other : Nat)
  | zeroOr (lo hi : Nat)
  | mask (m : Nat)
deriving DecidableEq, Repr

/-- One row: an index with a run of sub-indices of one type, access and default. -/
structure ObjRow where
  ix : Nat
  lo : Nat
  hi : Nat
  ty : ObjTy
  acc : ObjAcc
  dflt : Nat
  store : ObjStore
deriving DecidableEq, Repr

/-- Objects 0x1000 to 0x1C32. -/
def objRows1 : List ObjRow := [
  { ix := 0x1000, lo := 0x00, hi := 0x00, ty := .u32, acc := .RO, dflt := 69401, store := .any }, -- DEVICE_TYPE
  { ix := 0x1008, lo := 0x00, hi := 0x00, ty := .visible, acc := .RO, dflt := 3688529, store := .any }, -- DEVICE_NAME
  { ix := 0x1009, lo := 0x00, hi := 0x00, ty := .visible, acc := .RO, dflt := 12354, store := .any }, -- HW_VERSION
  { ix := 0x100A, lo := 0x00, hi := 0x00, ty := .visible, acc := .RO, dflt := 0, store := .any }, -- SW_VERSION
  { ix := 0x1018, lo := 0x01, hi := 0x01, ty := .u32, acc := .RO, dflt := 2675, store := .any }, -- VENDOR_ID
  { ix := 0x1018, lo := 0x02, hi := 0x02, ty := .u32, acc := .RO, dflt := 20792, store := .any }, -- PRODUCT_CODE
  { ix := 0x1018, lo := 0x03, hi := 0x03, ty := .u32, acc := .RO, dflt := 176, store := .any }, -- REVISION
  { ix := 0x1018, lo := 0x04, hi := 0x04, ty := .u32, acc := .RO, dflt := 0, store := .any }, -- SERIAL_NUMBER
  { ix := 0x1600, lo := 0x01, hi := 0x01, ty := .u32, acc := .RO, dflt := 1610613008, store := .any }, -- RX_MAPPING
  { ix := 0x1600, lo := 0x02, hi := 0x02, ty := .u32, acc := .RO, dflt := 1610613264, store := .any }, -- RX_MAPPING
  { ix := 0x1A00, lo := 0x01, hi := 0x01, ty := .u32, acc := .RO, dflt := 1879048464, store := .any }, -- TX_MAPPING
  { ix := 0x1A00, lo := 0x02, hi := 0x02, ty := .u32, acc := .RO, dflt := 1879048720, store := .any }, -- TX_MAPPING
  { ix := 0x1A00, lo := 0x03, hi := 0x03, ty := .u32, acc := .RO, dflt := 1879048976, store := .any }, -- TX_MAPPING
  { ix := 0x1A00, lo := 0x04, hi := 0x04, ty := .u32, acc := .RO, dflt := 1879049232, store := .any }, -- TX_MAPPING
  { ix := 0x1A00, lo := 0x05, hi := 0x05, ty := .u32, acc := .RO, dflt := 1879049488, store := .any }, -- TX_MAPPING
  { ix := 0x1A00, lo := 0x06, hi := 0x06, ty := .u32, acc := .RO, dflt := 1879049792, store := .any }, -- TX_MAPPING
  { ix := 0x1A00, lo := 0x07, hi := 0x07, ty := .u32, acc := .RO, dflt := 1879050000, store := .any }, -- TX_MAPPING
  { ix := 0x1C12, lo := 0x01, hi := 0x01, ty := .u16, acc := .RO, dflt := 5632, store := .any }, -- RX_ASSIGN
  { ix := 0x1C13, lo := 0x01, hi := 0x01, ty := .u16, acc := .RO, dflt := 6656, store := .any }, -- TX_ASSIGN
  { ix := 0x1C32, lo := 0x01, hi := 0x01, ty := .u16, acc := .RWP, dflt := 1, store := .range 0 1 }] -- SYNC_MODE

/-- Objects 0x1C33 to 0x2100. -/
def objRows2 : List ObjRow := [
  { ix := 0x1C33, lo := 0x01, hi := 0x01, ty := .u16, acc := .RWP, dflt := 1, store := .range 0 1 }, -- SYNC_MODE
  { ix := 0x2000, lo := 0x01, hi := 0x01, ty := .u8, acc := .RO, dflt := 0, store := .any }, -- CFG_STATE
  { ix := 0x2000, lo := 0x02, hi := 0x02, ty := .u32, acc := .RO, dflt := 0, store := .any }, -- CFG_SEQ
  { ix := 0x2000, lo := 0x03, hi := 0x03, ty := .u32, acc := .RWP, dflt := 250, store := .range 31 100000 }, -- PD_CYCLE
  { ix := 0x2000, lo := 0x04, hi := 0x04, ty := .u8, acc := .RO, dflt := 0, store := .any }, -- REFCLK_STATE
  { ix := 0x2001, lo := 0x01, hi := 0x01, ty := .u8, acc := .RW, dflt := 0, store := .mask 3 }, -- FW_BANK_PREF
  { ix := 0x2001, lo := 0x02, hi := 0x02, ty := .u8, acc := .RO, dflt := 0, store := .any }, -- FW_BANK_RUNNING
  { ix := 0x2002, lo := 0x01, hi := 0x01, ty := .u8, acc := .WO, dflt := 0, store := .range 1 3 }, -- IMAGE_TARGET
  { ix := 0x2002, lo := 0x02, hi := 0x02, ty := .octet, acc := .WO, dflt := 0, store := .any }, -- IMAGE_DATA
  { ix := 0x2002, lo := 0x03, hi := 0x03, ty := .u8, acc := .WO, dflt := 0, store := .range 1 2 }, -- IMAGE_COMMIT
  { ix := 0x2002, lo := 0x04, hi := 0x04, ty := .u8, acc := .RO, dflt := 0, store := .any }, -- IMAGE_RESULT
  { ix := 0x2010, lo := 0x01, hi := 0x01, ty := .u8, acc := .RW, dflt := 3, store := .within 1 3 3 }, -- RENEW_POLICY
  { ix := 0x2010, lo := 0x02, hi := 0x02, ty := .u32, acc := .WO, dflt := 0, store := .any }, -- RENEW_CMD
  { ix := 0x2010, lo := 0x03, hi := 0x03, ty := .u32, acc := .RO, dflt := 0, store := .any }, -- RENEW_STATUS
  { ix := 0x2010, lo := 0x04, hi := 0x04, ty := .u32, acc := .RO, dflt := 0, store := .any }, -- START_TIME
  { ix := 0x2010, lo := 0x05, hi := 0x05, ty := .u8, acc := .RO, dflt := 0, store := .any }, -- RECOVERY
  { ix := 0x2011, lo := 0x01, hi := 0x69, ty := .u8, acc := .RO, dflt := 0, store := .any }, -- PART_INCARN
  { ix := 0x2012, lo := 0x01, hi := 0x69, ty := .u8, acc := .RO, dflt := 0, store := .any }, -- PART_STATE
  { ix := 0x2100, lo := 0x01, hi := 0x01, ty := .u16, acc := .RW, dflt := 1080, store := .range 220 1800 }, -- ORPHAN_CAP
  { ix := 0x2100, lo := 0x02, hi := 0x02, ty := .u16, acc := .RW, dflt := 0, store := .zeroOr 220 1800 }] -- PROVIDER_CAP

/-- Objects 0x2100 to 0x2200. -/
def objRows3 : List ObjRow := [
  { ix := 0x2100, lo := 0x03, hi := 0x03, ty := .u16, acc := .RW, dflt := 300, store := .range 50 10000 }, -- RAMP_UP
  { ix := 0x2100, lo := 0x04, hi := 0x04, ty := .u16, acc := .RW, dflt := 600, store := .range 50 10000 }, -- RAMP_DOWN
  { ix := 0x2100, lo := 0x05, hi := 0x05, ty := .u32, acc := .RW, dflt := 1000, store := .range 100 1000000 }, -- PWR_ALERT_HOLD
  { ix := 0x2100, lo := 0x06, hi := 0x06, ty := .u16, acc := .RO, dflt := 0, store := .any }, -- POWER_FLOOR
  { ix := 0x2100, lo := 0x07, hi := 0x07, ty := .u8, acc := .RO, dflt := 0, store := .any }, -- OP_POINT
  { ix := 0x2100, lo := 0x08, hi := 0x08, ty := .u16, acc := .RW, dflt := 20, store := .range 0 200 }, -- CAP_MARGIN
  { ix := 0x2100, lo := 0x09, hi := 0x09, ty := .u16, acc := .RO, dflt := 256, store := .any }, -- ADMIT
  { ix := 0x2100, lo := 0x0A, hi := 0x0A, ty := .u32, acc := .RW, dflt := 50, store := .range 5 1000000 }, -- BAY_IDLE_TIME
  { ix := 0x2100, lo := 0x0B, hi := 0x0B, ty := .u32, acc := .RW, dflt := 1000000, store := .range 1000 100000000 }, -- RETENTION_OFF_TIME
  { ix := 0x2100, lo := 0x0C, hi := 0x0C, ty := .u32, acc := .RW, dflt := 1000, store := .range 100 1000000 }, -- NEAR_IDLE_TIME
  { ix := 0x2100, lo := 0x0D, hi := 0x0D, ty := .u32, acc := .RW, dflt := 500, store := .range 100 1000000 }, -- MID_IDLE_TIME
  { ix := 0x2100, lo := 0x0E, hi := 0x0E, ty := .u32, acc := .RW, dflt := 500, store := .range 100 1000000 }, -- LARGE_IDLE_TIME
  { ix := 0x2100, lo := 0x0F, hi := 0x0F, ty := .u32, acc := .RW, dflt := 100, store := .range 10 1000000 }, -- ENGINE_IDLE_TIME
  { ix := 0x2100, lo := 0x10, hi := 0x10, ty := .u16, acc := .RO, dflt := 0, store := .any }, -- VIN12_MV
  { ix := 0x2100, lo := 0x11, hi := 0x11, ty := .u16, acc := .RO, dflt := 0, store := .any }, -- VAON33_MV
  { ix := 0x2101, lo := 0x01, hi := 0x41, ty := .u8, acc := .RO, dflt := 0, store := .any }, -- DOMAIN_STATE
  { ix := 0x2200, lo := 0x01, hi := 0x01, ty := .u16, acc := .RW, dflt := 1000, store := .range 850 1050 }, -- TJ_THROTTLE
  { ix := 0x2200, lo := 0x02, hi := 0x02, ty := .u16, acc := .RW, dflt := 900, store := .range 220 1800 }, -- THERM_CAP
  { ix := 0x2200, lo := 0x03, hi := 0x03, ty := .u16, acc := .RO, dflt := 1100, store := .any }, -- TJ_TRIP
  { ix := 0x2200, lo := 0x04, hi := 0x04, ty := .u8, acc := .WO, dflt := 0, store := .any }] -- TRIP_CLEAR

/-- Objects 0x2201 to 0x2421. -/
def objRows4 : List ObjRow := [
  { ix := 0x2201, lo := 0x01, hi := 0x0C, ty := .u16, acc := .RO, dflt := 0, store := .any }, -- TJ_DIE
  { ix := 0x2400, lo := 0x01, hi := 0x01, ty := .u16, acc := .RO, dflt := 0, store := .any }, -- DDR5_CHANNELS
  { ix := 0x2400, lo := 0x02, hi := 0x02, ty := .u16, acc := .RO, dflt := 0, store := .any }, -- TIER_STATE
  { ix := 0x2400, lo := 0x03, hi := 0x03, ty := .u32, acc := .RO, dflt := 16777216, store := .any }, -- NEAR_FRAMES
  { ix := 0x2400, lo := 0x04, hi := 0x04, ty := .u32, acc := .RO, dflt := 0, store := .any }, -- MID_FRAMES
  { ix := 0x2400, lo := 0x05, hi := 0x05, ty := .u32, acc := .RO, dflt := 0, store := .any }, -- LARGE_FRAMES
  { ix := 0x2400, lo := 0x06, hi := 0x06, ty := .u32, acc := .RWP, dflt := 32768, store := .range 2048 262144 }, -- DIR_FRAMES
  { ix := 0x2400, lo := 0x07, hi := 0x07, ty := .u8, acc := .RO, dflt := 0, store := .any }, -- LARGE_SET
  { ix := 0x2401, lo := 0x01, hi := 0x03, ty := .u32, acc := .RO, dflt := 0, store := .any }, -- FREE_FRAMES
  { ix := 0x2402, lo := 0x01, hi := 0x01, ty := .u8, acc := .RW, dflt := 25, store := .range 5 100 }, -- MOVE_FLOOR
  { ix := 0x2402, lo := 0x02, hi := 0x02, ty := .u32, acc := .RW, dflt := 10000, store := .any }, -- AGE_INTERVAL
  { ix := 0x2402, lo := 0x03, hi := 0x03, ty := .u32, acc := .RW, dflt := 50000, store := .range 5000 1000000 }, -- ACCESS_LIMIT
  { ix := 0x2402, lo := 0x04, hi := 0x04, ty := .u32, acc := .RO, dflt := 1048576, store := .any }, -- OBJECTS_FREE
  { ix := 0x2402, lo := 0x05, hi := 0x05, ty := .octet, acc := .RW, dflt := 0, store := .any }, -- DIR_PROBE
  { ix := 0x2410, lo := 0x01, hi := 0x40, ty := .u32, acc := .RW, dflt := 0, store := .any }, -- NEAR_GUARANTEE
  { ix := 0x2411, lo := 0x01, hi := 0x40, ty := .u32, acc := .RW, dflt := 16744448, store := .any }, -- NEAR_LIMIT
  { ix := 0x2412, lo := 0x01, hi := 0x40, ty := .u32, acc := .RW, dflt := 50331648, store := .any }, -- MID_LIMIT
  { ix := 0x2413, lo := 0x01, hi := 0x40, ty := .u32, acc := .RW, dflt := 53687091, store := .any }, -- LARGE_LIMIT
  { ix := 0x2420, lo := 0x01, hi := 0x01, ty := .u32, acc := .RW, dflt := 100000, store := .range 10000 10000000 }, -- NEAR_RETRAIN_INTERVAL
  { ix := 0x2421, lo := 0x01, hi := 0x01, ty := .u8, acc := .RO, dflt := 0, store := .any }] -- DDR5_TYPE

/-- Objects 0x2421 to 0x2601. -/
def objRows5 : List ObjRow := [
  { ix := 0x2421, lo := 0x02, hi := 0x02, ty := .u16, acc := .RO, dflt := 0, store := .any }, -- DDR5_RATE
  { ix := 0x2421, lo := 0x03, hi := 0x03, ty := .u16, acc := .RO, dflt := 0, store := .any }, -- DDR5_DATA_CAP
  { ix := 0x2421, lo := 0x04, hi := 0x04, ty := .u32, acc := .RW, dflt := 100000, store := .range 10000 10000000 }, -- DDR5_RETRAIN_INTERVAL
  { ix := 0x2422, lo := 0x01, hi := 0x01, ty := .u8, acc := .RWP, dflt := 0, store := .mask 0xF }, -- CXL_BIFURCATE
  { ix := 0x2422, lo := 0x02, hi := 0x09, ty := .u16, acc := .RO, dflt := 0, store := .any }, -- EXPANDER_LINK
  { ix := 0x2423, lo := 0x01, hi := 0x02, ty := .u32, acc := .RW, dflt := 86400, store := .range 3600 2592000 }, -- SCRUB_INTERVAL
  { ix := 0x2423, lo := 0x03, hi := 0x03, ty := .u32, acc := .RW, dflt := 172800, store := .range 3600 2592000 }, -- SCRUB_INTERVAL
  { ix := 0x2423, lo := 0x04, hi := 0x04, ty := .u16, acc := .RW, dflt := 64, store := .range 4 65535 }, -- SYMBOL_THRESHOLD
  { ix := 0x2423, lo := 0x05, hi := 0x05, ty := .u32, acc := .RW, dflt := 60, store := .range 1 86400 }, -- SYMBOL_WINDOW
  { ix := 0x2423, lo := 0x06, hi := 0x06, ty := .u16, acc := .WO, dflt := 0, store := .any }, -- RESERVE_SPEND
  { ix := 0x2424, lo := 0x01, hi := 0x24, ty := .u16, acc := .RO, dflt := 0, store := .any }, -- RESERVE_STATE
  { ix := 0x2600, lo := 0x01, hi := 0x01, ty := .u8, acc := .RWP, dflt := 0, store := .range 0 1 }, -- LINK_MODE
  { ix := 0x2600, lo := 0x02, hi := 0x02, ty := .u32, acc := .RWP, dflt := 0, store := .mask 0x3FFFF }, -- FABRIC_ADDR
  { ix := 0x2600, lo := 0x03, hi := 0x03, ty := .u32, acc := .RW, dflt := 100, store := .range 10 1000000 }, -- LINK_IDLE_TIME
  { ix := 0x2600, lo := 0x04, hi := 0x04, ty := .u8, acc := .RW, dflt := 8, store := .range 2 32 }, -- LINK_RETRY_LIMIT
  { ix := 0x2600, lo := 0x05, hi := 0x05, ty := .u32, acc := .RW, dflt := 100, store := .range 10 100000 }, -- LINK_REQ_LIMIT
  { ix := 0x2600, lo := 0x06, hi := 0x06, ty := .u32, acc := .RW, dflt := 3600, store := .range 60 86400 }, -- LINK_REKEY_INTERVAL
  { ix := 0x2600, lo := 0x07, hi := 0x07, ty := .u32, acc := .RW, dflt := 10000, store := .any }, -- LANE_THRESHOLD
  { ix := 0x2600, lo := 0x08, hi := 0x08, ty := .u32, acc := .RW, dflt := 1, store := .range 1 3600 }, -- LANE_WINDOW
  { ix := 0x2601, lo := 0x01, hi := 0x01, ty := .u32, acc := .RO, dflt := 0, store := .any }] -- LINKS_MAPPED_OUT

/-- Objects 0x2601 to 0x2C01. -/
def objRows6 : List ObjRow := [
  { ix := 0x2601, lo := 0x02, hi := 0x02, ty := .u64, acc := .WO, dflt := 0, store := .any }, -- MAINT_WINDOW
  { ix := 0x2601, lo := 0x03, hi := 0x03, ty := .u64, acc := .WO, dflt := 0, store := .any }, -- LINK_MAINT
  { ix := 0x2602, lo := 0x01, hi := 0x20, ty := .u32, acc := .RO, dflt := 0, store := .any }, -- LINK_STATE
  { ix := 0x2610, lo := 0x01, hi := 0x01, ty := .octet, acc := .RW, dflt := 0, store := .any }, -- ROUTE_GROUP
  { ix := 0x2610, lo := 0x02, hi := 0x02, ty := .octet, acc := .RW, dflt := 0, store := .any }, -- ROUTE_MEMBER
  { ix := 0x2620, lo := 0x01, hi := 0x80, ty := .octet, acc := .RW, dflt := 0, store := .any }, -- FABRIC_WINDOW
  { ix := 0x2800, lo := 0x01, hi := 0x01, ty := .u16, acc := .RO, dflt := 0, store := .any }, -- HOST_LINK
  { ix := 0x2800, lo := 0x02, hi := 0x02, ty := .u32, acc := .RW, dflt := 10000, store := .range 1000 1000000 }, -- HOST_READ_LIMIT
  { ix := 0x2800, lo := 0x03, hi := 0x03, ty := .u32, acc := .RW, dflt := 1000000, store := .range 1000 60000000 }, -- CQ_STALL_LIMIT
  { ix := 0x2800, lo := 0x04, hi := 0x04, ty := .u64, acc := .RW, dflt := 0, store := .any }, -- ALERT_MASK
  { ix := 0x2800, lo := 0x05, hi := 0x05, ty := .u64, acc := .RO, dflt := 0, store := .any }, -- VF_ENABLED
  { ix := 0x2A00, lo := 0x01, hi := 0x01, ty := .u8, acc := .RO, dflt := 0, store := .any }, -- IDENTITY_STATE
  { ix := 0x2A00, lo := 0x02, hi := 0x02, ty := .octet, acc := .RO, dflt := 0, store := .any }, -- DEVICE_SERIAL
  { ix := 0x2A00, lo := 0x03, hi := 0x03, ty := .u8, acc := .RO, dflt := 0, store := .any }, -- DEBUG_STATE
  { ix := 0x2A00, lo := 0x04, hi := 0x04, ty := .u16, acc := .RO, dflt := 0, store := .any }, -- SVN_FLOOR
  { ix := 0x2A00, lo := 0x05, hi := 0x05, ty := .u8, acc := .RWP, dflt := 0, store := .range 0 1 }, -- LINK_PEER_POLICY
  { ix := 0x2A00, lo := 0x06, hi := 0x06, ty := .u32, acc := .RW, dflt := 86400, store := .range 60 2592000 }, -- TAG_ALARM_WINDOW
  { ix := 0x2A01, lo := 0x01, hi := 0x20, ty := .octet, acc := .RWP, dflt := 0, store := .any }, -- LINK_ALLOW
  { ix := 0x2A02, lo := 0x01, hi := 0x40, ty := .u64, acc := .RO, dflt := 0, store := .any }, -- KEY_STATE
  { ix := 0x2C01, lo := 0x01, hi := 0x01, ty := .u32, acc := .RW, dflt := 16777216, store := .atLeast 0x10000 }] -- PAIR_WATCHDOG

/-- Objects 0x2C01 to 0x2C30. -/
def objRows7 : List ObjRow := [
  { ix := 0x2C01, lo := 0x02, hi := 0x02, ty := .u32, acc := .RW, dflt := 1000, store := .any }, -- FABRIC_CORR_THRESHOLD
  { ix := 0x2C02, lo := 0x01, hi := 0x20, ty := .u64, acc := .RO, dflt := 0, store := .any }, -- SUBST_MAP
  { ix := 0x2C03, lo := 0x01, hi := 0x20, ty := .u16, acc := .RO, dflt := 0, store := .any }, -- SUBST_GEN
  { ix := 0x2C04, lo := 0x01, hi := 0x20, ty := .u16, acc := .RO, dflt := 0, store := .any }, -- DRAWER_STATE
  { ix := 0x2C05, lo := 0x01, hi := 0x20, ty := .u64, acc := .RO, dflt := 0, store := .any }, -- DRAWER_IN_FLIGHT
  { ix := 0x2C06, lo := 0x01, hi := 0x01, ty := .u32, acc := .RW, dflt := 1048576, store := .any }, -- LOAD_WAIT_LIMIT
  { ix := 0x2C06, lo := 0x02, hi := 0x02, ty := .u64, acc := .RO, dflt := 0, store := .any }, -- ACTIVE_DRAWER
  { ix := 0x2C10, lo := 0x01, hi := 0x01, ty := .u32, acc := .RW, dflt := 0, store := .any }, -- EDGE_MODE
  { ix := 0x2C10, lo := 0x02, hi := 0x02, ty := .u8, acc := .RW, dflt := 0, store := .oneOf [0, 1, 2, 10] 0 }, -- EDGE_ACT
  { ix := 0x2C10, lo := 0x03, hi := 0x03, ty := .r32, acc := .RW, dflt := 0, store := .any }, -- EDGE_BIAS
  { ix := 0x2C10, lo := 0x04, hi := 0x04, ty := .r32, acc := .RW, dflt := 1065353216, store := .any }, -- EDGE_SCALE
  { ix := 0x2C10, lo := 0x05, hi := 0x05, ty := .u8, acc := .RW, dflt := 10, store := .oneOf [8, 10] 10 }, -- EDGE_OUT_FMT
  { ix := 0x2C20, lo := 0x01, hi := 0x01, ty := .u8, acc := .RW, dflt := 6, store := .within 1 6 6 }, -- FTU_MAX_OUTSTANDING
  { ix := 0x2C20, lo := 0x02, hi := 0x02, ty := .u32, acc := .RO, dflt := 1077952576, store := .any }, -- TALLY_FREE
  { ix := 0x2C30, lo := 0x01, hi := 0x01, ty := .u32, acc := .RW, dflt := 5000, store := .range 100 1000000 }, -- QUANTUM_DEFAULT
  { ix := 0x2C30, lo := 0x02, hi := 0x02, ty := .u32, acc := .RO, dflt := 0, store := .any }, -- BAYS_IN_SERVICE
  { ix := 0x2C30, lo := 0x03, hi := 0x03, ty := .u32, acc := .RO, dflt := 0, store := .any }, -- BAYS_HELD
  { ix := 0x2C30, lo := 0x04, hi := 0x04, ty := .u32, acc := .RO, dflt := 77070336, store := .any }, -- SAVE_SLOT_BYTES
  { ix := 0x2C30, lo := 0x05, hi := 0x05, ty := .u16, acc := .RO, dflt := 1024, store := .any }, -- GRAPHS_FREE
  { ix := 0x2C30, lo := 0x06, hi := 0x06, ty := .u16, acc := .RO, dflt := 4096, store := .any }] -- LAYOUTS_FREE

/-- Objects 0x2C31 to 0x3000. -/
def objRows8 : List ObjRow := [
  { ix := 0x2C31, lo := 0x01, hi := 0x40, ty := .u8, acc := .RW, dflt := 0, store := .atMost 7 }, -- PRIO_LIMIT
  { ix := 0x2C32, lo := 0x01, hi := 0x40, ty := .u32, acc := .RW, dflt := 20000, store := .any }, -- QUANTUM_MAX
  { ix := 0x2C33, lo := 0x01, hi := 0x40, ty := .u32, acc := .RO, dflt := 0, store := .any }, -- SAVE_POOL
  { ix := 0x2E00, lo := 0x01, hi := 0x01, ty := .u8, acc := .RW, dflt := 3, store := .atMost 15 }, -- REFETCH_LIMIT
  { ix := 0x2E00, lo := 0x02, hi := 0x02, ty := .u32, acc := .RW, dflt := 30000, store := .range 100 3600000 }, -- SHARD_TIMEOUT
  { ix := 0x2E00, lo := 0x03, hi := 0x03, ty := .u32, acc := .RW, dflt := 86400, store := .range 600 2592000 }, -- WEIGHT_SCRUB_INTERVAL
  { ix := 0x2E00, lo := 0x04, hi := 0x04, ty := .u8, acc := .RW, dflt := 10, store := .range 1 50 }, -- SCRUB_SHARE
  { ix := 0x2E00, lo := 0x05, hi := 0x05, ty := .u32, acc := .RW, dflt := 60000, store := .any }, -- SLOT_AGE_INTERVAL
  { ix := 0x2E00, lo := 0x06, hi := 0x06, ty := .u32, acc := .RW, dflt := 32768, store := .any }, -- EVICT_NEAR_HEADROOM
  { ix := 0x2E00, lo := 0x07, hi := 0x07, ty := .u32, acc := .RW, dflt := 65536, store := .any }, -- EVICT_MID_HEADROOM
  { ix := 0x2E00, lo := 0x08, hi := 0x08, ty := .u16, acc := .RO, dflt := 4096, store := .any }, -- SLOTS_FREE
  { ix := 0x2E01, lo := 0x01, hi := 0x40, ty := .u16, acc := .RW, dflt := 0, store := .range 0 4096 }, -- SLOT_LIMIT
  { ix := 0x2E10, lo := 0x01, hi := 0x01, ty := .u32, acc := .RW, dflt := 200, store := .range 10 100000 }, -- BATCH_WAIT
  { ix := 0x2E10, lo := 0x02, hi := 0x02, ty := .u16, acc := .RW, dflt := 256, store := .range 1 1024 }, -- DECODE_BATCH_MAX
  { ix := 0x2E10, lo := 0x03, hi := 0x03, ty := .u32, acc := .RW, dflt := 8192, store := .range 32 262144 }, -- PREFILL_TOKENS
  { ix := 0x2E10, lo := 0x04, hi := 0x04, ty := .u32, acc := .RO, dflt := 65536, store := .any }, -- ENTRIES_FREE
  { ix := 0x2E11, lo := 0x01, hi := 0x40, ty := .u32, acc := .RW, dflt := 0, store := .range 0 65536 }, -- ENTRY_LIMIT
  { ix := 0x2E20, lo := 0x01, hi := 0x01, ty := .u8, acc := .RW, dflt := 15, store := .range 1 15 }, -- DRAFT_LIMIT
  { ix := 0x2E20, lo := 0x02, hi := 0x02, ty := .u64, acc := .RW, dflt := 0, store := .any }, -- DRAFT_ALLOWED
  { ix := 0x3000, lo := 0x01, hi := 0x01, ty := .u64, acc := .RO, dflt := 0, store := .any }] -- DICT_REFUSED

/-- Objects 0x3000 to 0x3121. -/
def objRows9 : List ObjRow := [
  { ix := 0x3000, lo := 0x02, hi := 0x02, ty := .u64, acc := .RO, dflt := 0, store := .any }, -- PD_LOST
  { ix := 0x3000, lo := 0x03, hi := 0x03, ty := .u64, acc := .RO, dflt := 0, store := .any }, -- PD_FCS_BAD
  { ix := 0x3100, lo := 0x01, hi := 0x20, ty := .u64, acc := .RO, dflt := 0, store := .any }, -- FABRIC_CORRECTED
  { ix := 0x3101, lo := 0x01, hi := 0x20, ty := .u64, acc := .RO, dflt := 0, store := .any }, -- FABRIC_POISON
  { ix := 0x3102, lo := 0x01, hi := 0x20, ty := .u64, acc := .RO, dflt := 0, store := .any }, -- FABRIC_SEQ_FAULT
  { ix := 0x3103, lo := 0x01, hi := 0x20, ty := .u64, acc := .RO, dflt := 0, store := .any }, -- FABRIC_WATCHDOG
  { ix := 0x3104, lo := 0x01, hi := 0x20, ty := .u64, acc := .RO, dflt := 0, store := .any }, -- DRAWER_LOADS
  { ix := 0x3105, lo := 0x01, hi := 0x20, ty := .u64, acc := .RO, dflt := 0, store := .any }, -- LOAD_WAIT
  { ix := 0x3106, lo := 0x01, hi := 0x20, ty := .u64, acc := .RO, dflt := 0, store := .any }, -- DRAWER_DIGEST_FAIL
  { ix := 0x3107, lo := 0x01, hi := 0x20, ty := .u64, acc := .RO, dflt := 0, store := .any }, -- ADVANCE_WAIT
  { ix := 0x3108, lo := 0x01, hi := 0x20, ty := .u64, acc := .RO, dflt := 0, store := .any }, -- FABRIC_PROTOCOL_FAULT
  { ix := 0x3110, lo := 0x01, hi := 0x20, ty := .u64, acc := .RO, dflt := 0, store := .any }, -- MXC_SATURATED
  { ix := 0x3111, lo := 0x01, hi := 0x20, ty := .u64, acc := .RO, dflt := 0, store := .any }, -- MXC_NAN_LOST
  { ix := 0x3112, lo := 0x01, hi := 0x20, ty := .u64, acc := .RO, dflt := 0, store := .any }, -- MXC_NONFINITE_OUT
  { ix := 0x3113, lo := 0x01, hi := 0x20, ty := .u64, acc := .RO, dflt := 0, store := .any }, -- FNC_DOMAIN
  { ix := 0x3114, lo := 0x01, hi := 0x20, ty := .u64, acc := .RO, dflt := 0, store := .any }, -- LUT_FLIP_WAIT
  { ix := 0x3115, lo := 0x01, hi := 0x20, ty := .u64, acc := .RO, dflt := 0, store := .any }, -- SMAX_NO_FINITE
  { ix := 0x3116, lo := 0x01, hi := 0x20, ty := .u64, acc := .RO, dflt := 0, store := .any }, -- ROW_SHORT
  { ix := 0x3120, lo := 0x01, hi := 0x20, ty := .u64, acc := .RO, dflt := 0, store := .any }, -- CLAIMS_GRANTED
  { ix := 0x3121, lo := 0x01, hi := 0x04, ty := .u64, acc := .RO, dflt := 0, store := .any }] -- TALLY_ARB_WAIT

/-- Objects 0x3122 to 0x3209. -/
def objRows10 : List ObjRow := [
  { ix := 0x3122, lo := 0x01, hi := 0x01, ty := .u64, acc := .RO, dflt := 0, store := .any }, -- SHAPE_REFUSED
  { ix := 0x3123, lo := 0x01, hi := 0x20, ty := .u64, acc := .RO, dflt := 0, store := .any }, -- PLEACH_BLOCK_WAIT
  { ix := 0x3124, lo := 0x01, hi := 0x20, ty := .u64, acc := .RO, dflt := 0, store := .any }, -- FTU_RUN_AHEAD
  { ix := 0x3130, lo := 0x01, hi := 0x20, ty := .u64, acc := .RO, dflt := 0, store := .any }, -- BAY_HELD_TIME
  { ix := 0x3131, lo := 0x01, hi := 0x20, ty := .u64, acc := .RO, dflt := 0, store := .any }, -- SAVES
  { ix := 0x3132, lo := 0x01, hi := 0x20, ty := .u64, acc := .RO, dflt := 0, store := .any }, -- SAVE_RESTORE_TIME
  { ix := 0x3133, lo := 0x01, hi := 0x40, ty := .u64, acc := .RO, dflt := 0, store := .any }, -- TASKS_DONE
  { ix := 0x3134, lo := 0x01, hi := 0x40, ty := .u64, acc := .RO, dflt := 0, store := .any }, -- TASKS_FAILED
  { ix := 0x3135, lo := 0x01, hi := 0x08, ty := .u64, acc := .RO, dflt := 0, store := .any }, -- READY_WAIT
  { ix := 0x3136, lo := 0x01, hi := 0x01, ty := .u64, acc := .RO, dflt := 0, store := .any }, -- RESTORE_REFUSED
  { ix := 0x3200, lo := 0x01, hi := 0x20, ty := .u64, acc := .RO, dflt := 0, store := .any }, -- STALL_TIER_LATE
  { ix := 0x3201, lo := 0x01, hi := 0x20, ty := .u64, acc := .RO, dflt := 0, store := .any }, -- STALL_LINK_CREDIT
  { ix := 0x3202, lo := 0x01, hi := 0x20, ty := .u64, acc := .RO, dflt := 0, store := .any }, -- STALL_TALLY
  { ix := 0x3203, lo := 0x01, hi := 0x20, ty := .u64, acc := .RO, dflt := 0, store := .any }, -- STALL_DIRECTORY
  { ix := 0x3204, lo := 0x01, hi := 0x20, ty := .u64, acc := .RO, dflt := 0, store := .any }, -- STALL_PREEMPT
  { ix := 0x3205, lo := 0x01, hi := 0x20, ty := .u64, acc := .RO, dflt := 0, store := .any }, -- STALL_CAP
  { ix := 0x3206, lo := 0x01, hi := 0x20, ty := .u64, acc := .RO, dflt := 0, store := .any }, -- STALL_DRAIN_CHAIN
  { ix := 0x3207, lo := 0x01, hi := 0x20, ty := .u64, acc := .RO, dflt := 0, store := .any }, -- STALL_RENEWAL
  { ix := 0x3208, lo := 0x01, hi := 0x20, ty := .u64, acc := .RO, dflt := 0, store := .any }, -- ACCOUNT_MODEL
  { ix := 0x3209, lo := 0x01, hi := 0x20, ty := .u64, acc := .RO, dflt := 0, store := .any }] -- INSTANCES

/-- Objects 0x3300 to 0x3401. -/
def objRows11 : List ObjRow := [
  { ix := 0x3300, lo := 0x01, hi := 0x03, ty := .u64, acc := .RO, dflt := 0, store := .any }, -- TIER_READ_BYTES
  { ix := 0x3301, lo := 0x01, hi := 0x03, ty := .u64, acc := .RO, dflt := 0, store := .any }, -- MOVES_IN
  { ix := 0x3302, lo := 0x01, hi := 0x03, ty := .u64, acc := .RO, dflt := 0, store := .any }, -- DEMOTIONS
  { ix := 0x3303, lo := 0x01, hi := 0x01, ty := .u64, acc := .RO, dflt := 0, store := .any }, -- MOVE_HOLD
  { ix := 0x3303, lo := 0x02, hi := 0x02, ty := .u64, acc := .RO, dflt := 0, store := .any }, -- MOVE_OVERRUN
  { ix := 0x3304, lo := 0x01, hi := 0x03, ty := .u64, acc := .RO, dflt := 0, store := .any }, -- TIER_FAILURES
  { ix := 0x3305, lo := 0x01, hi := 0x04, ty := .u64, acc := .RO, dflt := 0, store := .any }, -- DIR_MISS
  { ix := 0x3310, lo := 0x01, hi := 0x24, ty := .u64, acc := .RO, dflt := 0, store := .any }, -- WORD_CORRECTED
  { ix := 0x3311, lo := 0x01, hi := 0x24, ty := .u64, acc := .RO, dflt := 0, store := .any }, -- WORD_POISON
  { ix := 0x3312, lo := 0x01, hi := 0x24, ty := .u64, acc := .RO, dflt := 0, store := .any }, -- POISON_MARKED
  { ix := 0x3313, lo := 0x01, hi := 0x24, ty := .u64, acc := .RO, dflt := 0, store := .any }, -- TAG_RETRY
  { ix := 0x3314, lo := 0x01, hi := 0x24, ty := .u64, acc := .RO, dflt := 0, store := .any }, -- TAG_FAIL
  { ix := 0x3315, lo := 0x01, hi := 0x24, ty := .u64, acc := .RO, dflt := 0, store := .any }, -- LINK_REPLAY
  { ix := 0x3316, lo := 0x01, hi := 0x03, ty := .u64, acc := .RO, dflt := 0, store := .any }, -- SCRUB_PASSES
  { ix := 0x3317, lo := 0x01, hi := 0x08, ty := .u64, acc := .RO, dflt := 0, store := .any }, -- EXPANDER_EVENTS
  { ix := 0x3400, lo := 0x01, hi := 0x01, ty := .u64, acc := .RO, dflt := 0, store := .any }, -- SHARDS_VERIFIED
  { ix := 0x3400, lo := 0x02, hi := 0x02, ty := .u64, acc := .RO, dflt := 0, store := .any }, -- SHARD_DIGEST_BAD
  { ix := 0x3400, lo := 0x03, hi := 0x03, ty := .u64, acc := .RO, dflt := 0, store := .any }, -- SHARD_MISSING_CT
  { ix := 0x3400, lo := 0x04, hi := 0x04, ty := .u64, acc := .RO, dflt := 0, store := .any }, -- MANIFEST_REFUSED
  { ix := 0x3401, lo := 0x01, hi := 0x01, ty := .u64, acc := .RO, dflt := 0, store := .any }] -- GEN_SWITCHES

/-- Objects 0x3401 to 0x3420. -/
def objRows12 : List ObjRow := [
  { ix := 0x3401, lo := 0x02, hi := 0x02, ty := .u64, acc := .RO, dflt := 0, store := .any }, -- ADAPTER_SWITCHES
  { ix := 0x3401, lo := 0x03, hi := 0x03, ty := .u64, acc := .RO, dflt := 0, store := .any }, -- EVICT_DOWN
  { ix := 0x3401, lo := 0x04, hi := 0x04, ty := .u64, acc := .RO, dflt := 0, store := .any }, -- EVICT_OUT
  { ix := 0x3401, lo := 0x05, hi := 0x05, ty := .u64, acc := .RO, dflt := 0, store := .any }, -- SCRUB_MISMATCH
  { ix := 0x3402, lo := 0x01, hi := 0x04, ty := .u64, acc := .RO, dflt := 0, store := .any }, -- PLANER_BYTES
  { ix := 0x3410, lo := 0x01, hi := 0x01, ty := .u64, acc := .RO, dflt := 0, store := .any }, -- ADMITTED
  { ix := 0x3410, lo := 0x02, hi := 0x02, ty := .u64, acc := .RO, dflt := 0, store := .any }, -- ADMIT_REFUSED
  { ix := 0x3410, lo := 0x03, hi := 0x03, ty := .u64, acc := .RO, dflt := 0, store := .any }, -- DEADLINE_MISSED
  { ix := 0x3411, lo := 0x01, hi := 0x01, ty := .u64, acc := .RO, dflt := 0, store := .any }, -- BLOCKS_MATCHED
  { ix := 0x3411, lo := 0x02, hi := 0x02, ty := .u64, acc := .RO, dflt := 0, store := .any }, -- BLOCKS_MISSED
  { ix := 0x3411, lo := 0x03, hi := 0x03, ty := .u64, acc := .RO, dflt := 0, store := .any }, -- PUBLISHED
  { ix := 0x3411, lo := 0x04, hi := 0x04, ty := .u64, acc := .RO, dflt := 0, store := .any }, -- PUBLISH_DUP
  { ix := 0x3411, lo := 0x05, hi := 0x05, ty := .u64, acc := .RO, dflt := 0, store := .any }, -- PUBLISH_NO_CELL
  { ix := 0x3411, lo := 0x06, hi := 0x06, ty := .u64, acc := .RO, dflt := 0, store := .any }, -- LEAVES_EVICTED
  { ix := 0x3411, lo := 0x07, hi := 0x07, ty := .u64, acc := .RO, dflt := 0, store := .any }, -- LEAVES_PURGED
  { ix := 0x3412, lo := 0x01, hi := 0x01, ty := .u64, acc := .RO, dflt := 0, store := .any }, -- BATCHES_PREFILL
  { ix := 0x3412, lo := 0x02, hi := 0x02, ty := .u64, acc := .RO, dflt := 0, store := .any }, -- BATCHES_DECODE
  { ix := 0x3420, lo := 0x01, hi := 0x01, ty := .u64, acc := .RO, dflt := 0, store := .any }, -- ROWS_PRUNED
  { ix := 0x3420, lo := 0x02, hi := 0x02, ty := .u64, acc := .RO, dflt := 0, store := .any }, -- PRUNE_NAN_LOGIT
  { ix := 0x3420, lo := 0x03, hi := 0x03, ty := .u64, acc := .RO, dflt := 0, store := .any }] -- PRUNE_EMPTY

/-- Objects 0x3420 to 0x3600. -/
def objRows13 : List ObjRow := [
  { ix := 0x3420, lo := 0x04, hi := 0x04, ty := .u64, acc := .RO, dflt := 0, store := .any }, -- VERIFY_STEPS
  { ix := 0x3420, lo := 0x05, hi := 0x05, ty := .u64, acc := .RO, dflt := 0, store := .any }, -- DRAFT_PROPOSED
  { ix := 0x3420, lo := 0x06, hi := 0x06, ty := .u64, acc := .RO, dflt := 0, store := .any }, -- DRAFT_ACCEPTED
  { ix := 0x3420, lo := 0x07, hi := 0x07, ty := .u64, acc := .RO, dflt := 0, store := .any }, -- GRAFT_DISCARD
  { ix := 0x3420, lo := 0x08, hi := 0x08, ty := .u64, acc := .RO, dflt := 0, store := .any }, -- DRAFT_FLOORED
  { ix := 0x3420, lo := 0x09, hi := 0x09, ty := .u64, acc := .RO, dflt := 0, store := .any }, -- DRAFT_STOPPED
  { ix := 0x3420, lo := 0x0A, hi := 0x0A, ty := .u64, acc := .RO, dflt := 0, store := .any }, -- STOP_MATCHED
  { ix := 0x3421, lo := 0x01, hi := 0x08, ty := .u64, acc := .RO, dflt := 0, store := .any }, -- PRUNER_BUSY
  { ix := 0x3500, lo := 0x01, hi := 0x40, ty := .u64, acc := .RO, dflt := 0, store := .any }, -- DOORBELLS
  { ix := 0x3501, lo := 0x01, hi := 0x40, ty := .u64, acc := .RO, dflt := 0, store := .any }, -- ENTRIES_READ
  { ix := 0x3502, lo := 0x01, hi := 0x40, ty := .u64, acc := .RO, dflt := 0, store := .any }, -- COMPLETIONS
  { ix := 0x3503, lo := 0x01, hi := 0x40, ty := .u64, acc := .RO, dflt := 0, store := .any }, -- HOST_VIOLATIONS
  { ix := 0x3504, lo := 0x01, hi := 0x01, ty := .u64, acc := .RO, dflt := 0, store := .any }, -- HDM_WINDOW_MISS
  { ix := 0x3504, lo := 0x02, hi := 0x02, ty := .u64, acc := .RO, dflt := 0, store := .any }, -- HDM_POISONED
  { ix := 0x3504, lo := 0x03, hi := 0x03, ty := .u64, acc := .RO, dflt := 0, store := .any }, -- BISNP_SENT
  { ix := 0x3504, lo := 0x04, hi := 0x04, ty := .u64, acc := .RO, dflt := 0, store := .any }, -- HDM_GONE
  { ix := 0x3505, lo := 0x01, hi := 0x40, ty := .u64, acc := .RO, dflt := 0, store := .any }, -- NOTICES_DROPPED
  { ix := 0x3600, lo := 0x01, hi := 0x01, ty := .u64, acc := .RO, dflt := 0, store := .any }, -- KEY_LOADS
  { ix := 0x3600, lo := 0x02, hi := 0x02, ty := .u64, acc := .RO, dflt := 0, store := .any }, -- KEY_REFUSED
  { ix := 0x3600, lo := 0x03, hi := 0x03, ty := .u64, acc := .RO, dflt := 0, store := .any }] -- DEBUG_UNLOCKS

/-- Objects 0x3600 to 0x3721. -/
def objRows14 : List ObjRow := [
  { ix := 0x3600, lo := 0x04, hi := 0x04, ty := .u64, acc := .RO, dflt := 0, store := .any }, -- SPDM_SESSIONS
  { ix := 0x3601, lo := 0x01, hi := 0x40, ty := .u64, acc := .RO, dflt := 0, store := .any }, -- FUNC_TAG_FAIL
  { ix := 0x3602, lo := 0x01, hi := 0x20, ty := .u64, acc := .RO, dflt := 0, store := .any }, -- LINK_AUTH_FAIL
  { ix := 0x3610, lo := 0x01, hi := 0x20, ty := .u64, acc := .RO, dflt := 0, store := .any }, -- LINK_CORRECTED
  { ix := 0x3611, lo := 0x01, hi := 0x20, ty := .u64, acc := .RO, dflt := 0, store := .any }, -- LINK_REPLAYS
  { ix := 0x3612, lo := 0x01, hi := 0x20, ty := .u64, acc := .RO, dflt := 0, store := .any }, -- LINK_VIOLATIONS
  { ix := 0x3613, lo := 0x01, hi := 0x20, ty := .u64, acc := .RO, dflt := 0, store := .any }, -- LINK_STALE
  { ix := 0x3614, lo := 0x01, hi := 0x20, ty := .u64, acc := .RO, dflt := 0, store := .any }, -- LINK_LATE
  { ix := 0x3615, lo := 0x01, hi := 0x20, ty := .u64, acc := .RO, dflt := 0, store := .any }, -- LINK_TX_BYTES
  { ix := 0x3700, lo := 0x01, hi := 0x01, ty := .u64, acc := .RO, dflt := 0, store := .any }, -- CAP_CHANGES
  { ix := 0x3700, lo := 0x02, hi := 0x02, ty := .u64, acc := .RO, dflt := 0, store := .any }, -- CAP_UNREACHABLE_CT
  { ix := 0x3700, lo := 0x03, hi := 0x03, ty := .u64, acc := .RO, dflt := 0, store := .any }, -- ORPHAN_ENTRIES
  { ix := 0x3700, lo := 0x04, hi := 0x04, ty := .u64, acc := .RO, dflt := 0, store := .any }, -- PWR_ALERTS
  { ix := 0x3700, lo := 0x05, hi := 0x05, ty := .u64, acc := .RO, dflt := 0, store := .any }, -- THROTTLE_TIME
  { ix := 0x3700, lo := 0x06, hi := 0x06, ty := .u64, acc := .RO, dflt := 0, store := .any }, -- BALLAST_ENERGY
  { ix := 0x3700, lo := 0x07, hi := 0x07, ty := .u64, acc := .RO, dflt := 0, store := .any }, -- ENERGY
  { ix := 0x3700, lo := 0x08, hi := 0x08, ty := .u64, acc := .RO, dflt := 0, store := .any }, -- VIN12_DROPS
  { ix := 0x3701, lo := 0x01, hi := 0x41, ty := .u64, acc := .RO, dflt := 0, store := .any }, -- WAKES
  { ix := 0x3720, lo := 0x01, hi := 0x69, ty := .u64, acc := .RO, dflt := 0, store := .any }, -- RENEWALS
  { ix := 0x3721, lo := 0x01, hi := 0x69, ty := .u64, acc := .RO, dflt := 0, store := .any }] -- GONE_CT

/-- Objects 0x3722 to 0x7000. -/
def objRows15 : List ObjRow := [
  { ix := 0x3722, lo := 0x01, hi := 0x69, ty := .u64, acc := .RO, dflt := 0, store := .any }, -- STALE_CT
  { ix := 0x3800, lo := 0x01, hi := 0x01, ty := .u16, acc := .RO, dflt := 0, store := .any }, -- LOG_NEXT
  { ix := 0x6000, lo := 0x01, hi := 0x01, ty := .u16, acc := .RW, dflt := 0, store := .any }, -- CAP_W
  { ix := 0x6000, lo := 0x02, hi := 0x02, ty := .u16, acc := .RW, dflt := 0, store := .any }, -- CAP_ID
  { ix := 0x7000, lo := 0x01, hi := 0x01, ty := .u16, acc := .RO, dflt := 0, store := .any }, -- STATUS
  { ix := 0x7000, lo := 0x02, hi := 0x02, ty := .u16, acc := .RO, dflt := 0, store := .any }, -- CAP_ID_ECHO
  { ix := 0x7000, lo := 0x03, hi := 0x03, ty := .u16, acc := .RO, dflt := 0, store := .any }, -- POWER_W
  { ix := 0x7000, lo := 0x04, hi := 0x04, ty := .u16, acc := .RO, dflt := 0, store := .any }, -- CAP_IN_FORCE_W
  { ix := 0x7000, lo := 0x05, hi := 0x05, ty := .u16, acc := .RO, dflt := 0, store := .any }, -- TJ_MAX
  { ix := 0x7000, lo := 0x06, hi := 0x06, ty := .u64, acc := .RO, dflt := 0, store := .any }, -- DCOUNT
  { ix := 0x7000, lo := 0x07, hi := 0x07, ty := .u16, acc := .RO, dflt := 0, store := .any }] -- LOG_COUNT

/-- The whole table. -/
def objRows : List ObjRow :=
  objRows1 ++ objRows2 ++ objRows3 ++ objRows4 ++ objRows5 ++ objRows6 ++ objRows7 ++ objRows8 ++ objRows9 ++ objRows10 ++ objRows11 ++ objRows12 ++ objRows13 ++ objRows14 ++ objRows15

/-- The row of an object, if the dictionary has it. -/
def objRow (ix sub : Nat) : Option ObjRow :=
  objRows.find? (fun r => r.ix == ix && r.lo ≤ sub && sub ≤ r.hi)

/-- Highest sub-index in use of an index, 0 where it has none (R446). -/
def objTop (ix : Nat) : Nat :=
  objRows.foldl (fun m r => if r.ix == ix then max m r.hi else m) 0

/-- The index names some object. -/
def objIndex (ix : Nat) : Bool := objRows.any (fun r => r.ix == ix) || (0x3801 ≤ ix && ix ≤ 0x3820)

/-- Bytes of a numeric type; strings have none of their own. -/
def ObjTy.len : ObjTy → Option Nat
  | .u8 => some 1 | .u16 => some 2 | .u32 => some 4 | .u64 => some 8 | .i32 => some 4 | .r32 => some 4
  | .boolean => some 1 | .octet => none | .visible => none

/-- CANopen data-type index (R446). -/
def ObjTy.code : ObjTy → Nat
  | .boolean => 0x0001 | .i32 => 0x0004 | .u8 => 0x0005 | .u16 => 0x0006 | .u32 => 0x0007
  | .u64 => 0x001B | .r32 => 0x0008 | .visible => 0x0009 | .octet => 0x000A

/-- What a written value is stored as, none where it is refused (R449). -/
def ObjStore.apply : ObjStore → Nat → Option Nat
  | .any, v => some v
  | .range lo hi, v => if lo ≤ v && v ≤ hi then some v else none
  | .atLeast lo, v => some (max lo v)
  | .atMost hi, v => some (min hi v)
  | .oneOf l o, v => some (if l.contains v then v else o)
  | .within lo hi o, v => some (if lo ≤ v && v ≤ hi then v else o)
  | .zeroOr lo hi, v => if v == 0 || (lo ≤ v && v ≤ hi) then some v else none
  | .mask m, v => some (v &&& m)

/-- The tabled default of an object. -/
def objDefault (ix sub : Nat) : Nat := match objRow ix sub with
  | some r => r.dflt
  | none => 0

/-- Key of an object in the value table. -/
def objKey (ix sub : Nat) : Nat := ix * 256 + sub

end Sys2Proof.Machine
end

