-- ==== Sys2Proof/Machine/Flags.lean ====
section
/-!
DEFINITION. Flags, statuses and counters: the completion status codes and their precedence (R13), the stall causes
(R108), the counters of the dictionary, the cause registers with SSR, the vectors they raise and ALERT_N (R377 to
R380), and the error log (R466).
-/
namespace Sys2Proof.Machine

/-! ### Completion status codes (R13) -/

def stOk : Nat := 0x00
def stPreempted : Nat := 0x01
def stGone : Nat := 0x02
def stShapeOver : Nat := 0x10
def stWindow : Nat := 0x11
def stDigest : Nat := 0x12
def stShard : Nat := 0x13
def stTier : Nat := 0x14
def stPoison : Nat := 0x15
def stTimeout : Nat := 0x16
def stProtocol : Nat := 0x17
def stCap : Nat := 0x18
def stResource : Nat := 0x19
def stAdapter : Nat := 0x1A
def stGeneration : Nat := 0x1B

/-- Precedence of a status, lower reported first (R13). -/
def stPrec (st : Nat) : Nat :=
  if st == stGone then 1 else if st == stWindow then 2 else if st == stProtocol then 3
  else if st == stPoison then 4 else if st == stTier then 5 else if st == stDigest then 6
  else if st == stShard then 7 else if st == stShapeOver then 8 else if st == stResource then 9
  else if st == stGeneration then 10 else if st == stAdapter then 11 else if st == stCap then 12
  else if st == stTimeout then 13 else if st == stPreempted then 14 else if st == stOk then 15 else 16

/-- The status reported where several apply (R13). -/
def worst (a b : Nat) : Nat := if stPrec b < stPrec a then b else a

/-- A status that came from outside, kept where it is one that the device reports: a reserved code, or STALE, is reported as
PROTOCOL (R14, R15; DESIGN CHOICE, log 99). -/
def statusOf (st : Nat) : Nat := if stPrec st == 16 then stProtocol else st

/-- The status reported among a list, OK for none (R13). -/
def worstOf : List Nat → Nat
  | [] => stOk
  | a :: r => worst a (worstOf r)

/-! ### Stall causes (R108) -/

/-- The cause of highest precedence among those asserted: the codes in the order of their precedence (R108, R109). -/
def topCause (asserted : Nat → Bool) : Option Nat := [4, 7, 5, 3, 0, 1, 2, 6].find? asserted

/-! ### Counters of the dictionary -/

/-- Value of a numeric object as stored, the tabled default where nothing was written (R447). -/
def State.obj (s : State) (ix sub : Nat) : Nat := tgetD s.dict.vals (objKey ix sub) (objDefault ix sub)

/-- The state with an object's stored value replaced. -/
def State.putObj (s : State) (ix sub v : Nat) : State :=
  { s with dict := { s.dict with vals := tset s.dict.vals (objKey ix sub) v } }

/-- A counter object counts `n` more; the counters are UNSIGNED64. -/
def State.bump (s : State) (ix sub n : Nat) : State :=
  if n == 0 then s else s.putObj ix sub ((s.obj ix sub + n) % 2 ^ 64)

/-- Sends something out of the lands. -/
def State.emit (s : State) (e : Emit) : State := { s with out := s.out ++ [e] }

/-- Takes the next open choice: its number and the state with the counter advanced. -/
def State.tick (s : State) : State := { s with free := s.free + 1 }

/-- Takes the next `n` open choices. -/
def State.ticks (s : State) (n : Nat) : State := { s with free := s.free + n }

/-! ### Interrupts and the cause tree (R377 to R380) -/

/-- Entry of the function table, VECTORS 256 for the provider where nothing was written (R358). -/
def State.fn (s : State) (f : Nat) : FnEnt :=
  tgetD s.host.fns f { vectors := if f == 0 then 256 else 0 }

/-- A vector is raised: a message, or its pending bit while enable or a mask forbids the message (R377). -/
def State.raiseVector (s : State) (f v : Nat) : State :=
  if tget s.host.msixEn f && !tget s.host.fnMask f && !(tgetD s.host.msix (f * 256 + v) {}).masked then
    s.emit (.msix f v)
  else { s with host := { s.host with pba := tset s.host.pba (f * 256 + v) true } }

/-- SSR of a function: bit g is 1 while CAUSE_g AND NOT MASK_g is not zero (R378). -/
def State.ssr (s : State) (f : Nat) : Nat :=
  [0, 1, 2, 3, 8, 9, 10, 11, 12].foldl (fun m g =>
    if (8 ≤ g && f != 0) then m
    else if andNot (tget s.host.cause (f * 16 + g)) (tget s.host.mask (f * 16 + g)) == 0 then m
    else m + 2 ^ g) 0

/-- ALERT_N follows the provider's SSR AND NOT ALERT_MASK (R380). -/
def State.updateAlert (s : State) : State :=
  let a := andNot (s.ssr 0) (s.obj 0x2800 4) != 0
  if a == s.host.alert then s
  else ({ s with host := { s.host with alert := a } }).emit (.land "ALERT_N" a)

/-- A cause bit is set; an unmasked bit that goes from 0 to 1 raises SSR_VECTOR while EN is set (R378). -/
def State.raiseCause (s : State) (f g b : Nat) : State :=
  let c := tget s.host.cause (f * 16 + g)
  if bitOf c b then s
  else
    let s1 := { s with host := { s.host with cause := tset s.host.cause (f * 16 + g) (setBit c b) } }
    let v := tget s.host.ssrVec f
    let s2 := if bitOf v 8 && !bitOf (tget s.host.mask (f * 16 + g)) b then s1.raiseVector f (v % 256) else s1
    if f == 0 then s2.updateAlert else s2

/-! ### The error log (R466) -/

/-- An error-log entry is written, and DEVICE bit 0 is set (R466, R379). -/
def State.logErr (s : State) (object status func unit detail : Nat) : State :=
  let e : LogEntry := {
    dcount := s.clk.dcount, object := object, status := status, func := func, unit := unit, seq := s.log.seq,
    detail := detail }
  ({ s with log := { entries := tset s.log.entries s.log.next e, next := (s.log.next + 1) % 2047,
                     seq := (s.log.seq + 1) % 65536, count := (s.log.count + 1) % 65536 } }).raiseCause 0 8 0

/-- The 32 bytes of an error-log entry (R466). -/
def LogEntry.bytes (e : LogEntry) : List Nat :=
  leBytes e.dcount 8 ++ leBytes e.object 3 ++ [e.status, e.func, e.unit] ++ leBytes e.seq 2 ++ leBytes e.detail 16

end Sys2Proof.Machine
end

