-- ==== Sys2Proof/Machine/Operands.lean ====
section
/-!
DEFINITION. Operand forms: the fields of tokens, the geometry of a bay, site and unit numbers, device addresses,
and the byte fields of records held in memory or in an image (R2, R29, R36, R42, R82, R210).
-/
namespace Sys2Proof.Machine

/-! ### Data tokens (R36) -/

end Sys2Proof.Machine

namespace Sys2Proof
open Sys2Proof.Machine

/-- CTX of a data token. -/
def DTok.ctx (t : DTok) : Nat := bits t.sb.toNat 15 14
/-- LAST of a data token. -/
def DTok.last (t : DTok) : Bool := bitOf t.sb.toNat 13
/-- PV of a data token. -/
def DTok.pv (t : DTok) : Bool := bitOf t.sb.toNat 12
/-- SEQ of a data token. -/
def DTok.seq (t : DTok) : Nat := bits t.sb.toNat 11 0

/-- The route leads to the staging area. -/
def Route.stages (r : Route) : Bool := r.dests.contains .staging
/-- The route leads to the site's own unit. -/
def Route.toUnit (r : Route) : Bool := r.dests.contains .unit
/-- The output lanes of a route: the channel outputs, and 4 for the output to the site's unit. -/
def Route.lanes (r : Route) : List Nat :=
  r.dests.filterMap (fun d => match d with | .out k => some k | .unit => some 4 | .staging => none)
/-- The channel outputs of a route. -/
def Route.outs (r : Route) : List Nat := r.dests.filterMap (fun d => match d with | .out k => some k | _ => none)

end Sys2Proof

namespace Sys2Proof.Machine

/-- A data token with the given sideband fields (R36). -/
def mkD (pay : Payload) (ctx : Nat) (last pv : Bool) (seq : Nat) : DTok :=
  { pay := pay,
    sb := BitVec.ofNat 16 (ctx % 4 * 0x4000 + last.toNat * 0x2000 + pv.toNat * 0x1000 + seq % 4096) }

/-! ### Control tokens (R42, R43) -/

/-- OPC of a control token. -/
def cOpc (t : CTok) : Nat := bits t.toNat 31 26
/-- CTX of a control token. -/
def cCtx (t : CTok) : Nat := bits t.toNat 25 24
/-- SEQ of a control token. -/
def cSeq (t : CTok) : Nat := bits t.toNat 23 12
/-- ARG of a control token. -/
def cArg (t : CTok) : Nat := bits t.toNat 11 0

/-- A control token (R42). -/
def mkC (opc ctx seq arg : Nat) : CTok :=
  BitVec.ofNat 32 (opc % 64 * 0x4000000 + ctx % 4 * 0x1000000 + seq % 4096 * 0x1000 + arg % 4096)

def opcGo : Nat := 1
def opcPred : Nat := 2
def opcSel : Nat := 3
def opcShape : Nat := 4
def opcClaim : Nat := 5
def opcDrain : Nat := 6
def opcFence : Nat := 7
def opcSwitch : Nat := 8
def opcFlip : Nat := 9
def opcFault : Nat := 10

/-- OPC 0x00 and 0x0B to 0x3F are reserved (R43). -/
def opcReserved (o : Nat) : Bool := o == 0 || 10 < o

/-- The governing opcodes (R43). -/
def opcGoverns (o : Nat) : Bool := o == opcGo || o == opcPred || o == opcSel

/-! ### The bay grid (R29) -/

/-- Kinds of unit, with the KIND codes of a site record (R82). -/
inductive SiteKind where
  | mxc | scc | fnc | ftu | ptc
deriving DecidableEq, Repr

/-- KIND code of a site record (R82). -/
def SiteKind.code : SiteKind → Nat
  | .mxc => 1 | .scc => 2 | .fnc => 3 | .ftu => 4 | .ptc => 5

/-- The kind of unit at a site, spares included (R29). -/
def siteKind (r c : Nat) : SiteKind :=
  if 1 ≤ r && r ≤ 8 then (if (r + c) % 2 == 0 then .mxc else .scc)
  else if c == 0 then (if r == 0 then .mxc else .scc)
  else if c == 11 then (if r == 0 then .scc else .mxc)
  else if c == 1 || c == 10 then .ftu
  else if c == 5 || c == 6 then .ptc
  else .fnc

/-- The four corner sites hold the spares (R29). -/
def siteSpare (r c : Nat) : Bool := (r == 0 || r == 9) && (c == 0 || c == 11)

/-- Row-major number of a site in its bay. -/
def siteNo (r c : Nat) : Nat := r * 12 + c

/-- A site of a bay: rows 0 to 9, columns 0 to 11 (R16). Every one of them holds a steering unit (R30). -/
def siteOk (b r c : Nat) : Bool := b < 32 && r < 10 && c < 12

/-- The units that a wake source names exist. -/
def wakeSourceOk : WakeSrc → Bool
  | .link l => l < 32
  | .cxl p => 48 ≤ p && p ≤ 52
  | .doorbell _ => true
  | .timer ds => ds.all (· < 65)
  | .demand d => d < 65

/-- Number of a site in the whole device: the key of the fabric table. -/
def siteKey (b site : Nat) : Nat := b * 120 + site

/-- A requester of `n` is served next by a round-robin arbiter whose pointer stands at `ptr` (R20). -/
def rrTurn (ptr n : Nat) (ports : List Nat) (p : Nat) : Bool :=
  ports.all (fun q => (p + n - ptr % n) % n ≤ (q + n - ptr % n) % n)

/-- Number of a drawer of a site: the key of the unit tables. -/
def unitKey (b site d : Nat) : Nat := siteKey b site * 4 + d

/-- Kind of a site by its number. -/
def kindOf (site : Nat) : SiteKind := siteKind (site / 12) (site % 12)

/-- The 116 logical sites of a bay, in row-major order (R82). -/
def logicalSites : List Nat := (List.range 120).filter (fun n => !siteSpare (n / 12) (n % 12))

/-- The index of a site's record in an image (R82). A spare position has none: its index lies past the last record. -/
def recordIx (site : Nat) : Nat :=
  let r := site / 12
  let c := site % 12
  if siteSpare r c then 116 else if r == 0 then c - 1 else if r == 9 then 105 + c else 12 * r + c - 2

/-- The site one hop in a direction (0 north, 1 east, 2 south, 3 west), if there is one (R33). -/
def neighbour (site dir : Nat) : Option Nat :=
  let r := site / 12
  let c := site % 12
  match dir with
  | 0 => if r == 0 then none else some (site - 12)
  | 1 => if c == 11 then none else some (site + 1)
  | 2 => if r == 9 then none else some (site + 12)
  | _ => if c == 0 then none else some (site - 1)

/-- The input at which a channel from direction `dir` of its sender arrives. -/
def oppositeDir (dir : Nat) : Nat := (dir + 2) % 4

/-- The I/O die joined to a panel (R23). -/
def dieOfPanel (p : Nat) : Nat := if p == 0 || p == 1 then 0 else if p == 2 || p == 3 then 1
  else if p == 4 || p == 5 then 2 else 3

/-! ### Byte fields of a record -/

/-- The byte at offset `i` of a byte list, 0 beyond its end. -/
def byteAt (l : List Nat) (i : Nat) : Nat := l.getD i 0

/-- Bytes i + n - 1 : i of a record as a number (R2). -/
def fieldAt (l : List Nat) (i n : Nat) : Nat := ofLE ((l.drop i).take n)

/-- Every byte of the record from `i`, `n` of them, is 0 (a RSV field). -/
def rsvZero (l : List Nat) (i n : Nat) : Bool := ((l.drop i).take n).all (· == 0)

end Sys2Proof.Machine
end

