-- ==== Sys2Proof/Machine/Shake.lean ====
section
/-!
DEFINITION. SHAKE256 (the spec names it and does not define it; PRESUMED: FIPS 202), on bytes. The tables of the permutation
are computed from the rules by which that standard gives them.
-/
namespace Sys2Proof.Machine

/-- Place of the lane in column `x` and row `y` among the 25 lanes. -/
def laneNo (x y : Nat) : Nat := x % 5 + 5 * (y % 5)

/-- A lane rotated towards its high bits. -/
def laneTurn (v n : Nat) : Nat := v * 2 ^ n % 2 ^ 64 + v / 2 ^ (64 - n)

/-- Every lane takes up the parities of the column before it and, turned by one, of the column after it. -/
def mixColumns (a : List Nat) : List Nat :=
  let parity := (List.range 5).map (fun x => (List.range 5).foldl (fun v y => v ^^^ a.getD (laneNo x y) 0) 0)
  let p := fun (x : Nat) => parity.getD (x % 5) 0
  let change := (List.range 5).map (fun x => p (x + 4) ^^^ laneTurn (p (x + 1)) 1)
  (List.range 25).map (fun i => a.getD i 0 ^^^ change.getD (i % 5) 0)

/-- The lanes but the first go round one cycle of 24 places, each to the place of the next; the `t`-th is turned by the `t`-th
triangular number. -/
def sendRound (a : List Nat) : Nat → Nat → Nat → List Nat → List Nat
  | 0, _, _, out => out
  | k + 1, x, y, out =>
    let t := 24 - k
    let place := laneNo y (2 * x + 3 * y)
    sendRound a k (place % 5) (place / 5) (out.set place (laneTurn (a.getD (laneNo x y) 0) (t * (t + 1) / 2 % 64)))

/-- A lane is flipped where the lane after it has a 0 and the one after that a 1; the first lane takes up the round constant. -/
def combineRows (a : List Nat) (rc : Nat) : List Nat :=
  (List.range 25).map (fun i =>
    let at_ := fun (k : Nat) => a.getD (laneNo (i + k) (i / 5)) 0
    at_ 0 ^^^ andNot (at_ 2) (at_ 1) ^^^ (if i == 0 then rc else 0))

/-- The register of 8 bits from which the round constants come, one step on. -/
def constStep (r : Nat) : Nat := if r < 128 then 2 * r else 2 * r ^^^ 0x171

/-- The round constants of `n` rounds from a register on: seven steps give the bits 2^j - 1 of one. -/
def roundConsts : Nat → Nat → List Nat
  | 0, _ => []
  | n + 1, r =>
    let one := (List.range 7).foldl (fun (p : Nat × Nat) j => (p.1 + p.2 % 2 * 2 ^ (2 ^ j - 1), constStep p.2)) (0, r)
    one.1 :: roundConsts n one.2

/-- The permutation of 25 lanes: 24 rounds. -/
def permute (a : List Nat) : List Nat :=
  (roundConsts 24 1).foldl (fun l rc => combineRows (let m := mixColumns l; sendRound m 24 1 0 m) rc) a

/-- Bytes of a block. -/
def shakeRate : Nat := 136

/-- The message filled up to whole blocks: the bits 1111 and then 1, zeros and 1 follow it. -/
def shakeFill (m : List Nat) : List Nat :=
  let n := shakeRate - m.length % shakeRate
  m ++ (List.range n).map (fun i => (if i == 0 then 0x1F else 0) + (if i + 1 == n then 0x80 else 0))

/-- A block goes into the first lanes, and the lanes are permuted. -/
def takeBlock (a block : List Nat) : List Nat :=
  permute ((List.range 25).map (fun i => a.getD i 0 ^^^ ofLE ((block.drop (8 * i)).take 8)))

/-- `n` bytes from the lanes, a block at a time (fuel: the blocks). -/
def giveBytes : Nat → Nat → List Nat → List Nat
  | 0, _, _ => []
  | k + 1, n, a =>
    let out := (a.flatMap (fun l => leBytes l 8)).take (min n shakeRate)
    if n ≤ shakeRate then out else out ++ giveBytes k (n - shakeRate) (permute a)

/-- SHAKE256 of a byte list, `out` bytes. -/
def shake256 (m : List Nat) (out : Nat) : List Nat :=
  let all := shakeFill m
  giveBytes (cdiv out shakeRate) out ((chunks shakeRate (all.length / shakeRate) all).foldl takeBlock (List.replicate 25 0))

/-- SHAKE256 as a little-endian number. -/
def shakeNat (m : List Nat) (out : Nat) : Nat := ofLE (shake256 m out)

end Sys2Proof.Machine
end

