-- ==== Sys2Proof/Machine/Ops.lean ====
section
/-!
DEFINITION. The named operations over the state that the meanings share: the bytes of the device range, the tile
directory and the checks of an access (R207 to R224), completions and notices (R373 to R376), and the guard on the
numbers of units (R16).
-/
namespace Sys2Proof.Machine

/-! ### Guards -/

/-- A command on a unit: carried out where the numbers it names are in range, refused with PROTOCOL and without effect
where they are not (R16, R29). -/
def onUnit (ok : Bool) (act : State → State) (s : State) : Outcome :=
  .next (if ok then act s else s.emit (.refused stProtocol))

/-- Frequency of fclk at an operating point, in MHz (R476). -/
def fclkMhz (op : Nat) : Nat := [1700, 1550, 1400, 1250, 1100, 950, 850].getD op 850

/-- The fclk count: the fclk cycles that the master PLL has run since VAON33 came (R5, R473, R476). -/
def State.fclkNow (s : State) : Nat := s.clk.fc / 1000

/-- A partition is in service: PART_STATE reads IN_SERVICE (R494, R502). -/
def State.partUp (s : State) (p : Nat) : Bool := s.obj 0x2012 (p + 1) % 128 == 0

/-- The device answers commands: start-up has ended and HOLD is not in force (R464, R490, R492). -/
def State.serving (s : State) : Bool := s.clk.phase == .service

/-- The device serves in recovery: the near tier has failed (R493). -/
def State.recovery (s : State) : Bool := s.obj 0x2010 5 == 1

/-! ### Bytes of the device range (R210)

The list is in canonical form: addresses strictly rising, no byte 0 listed. -/

/-- The byte at a device address; a byte that is not listed reads 0. -/
def memGet : List Host.Cell → Nat → Nat
  | [], _ => 0
  | (a, b) :: r, k => if a = k then b.toNat else if k < a then 0 else memGet r k

/-- The bytes with the one at `k` at `v`; a 0 is not listed. -/
def memSet : List Host.Cell → Nat → Nat → List Host.Cell
  | [], k, v => if v % 256 = 0 then [] else [(k, BitVec.ofNat 8 v)]
  | (a, b) :: r, k, v =>
    if k < a then (if v % 256 = 0 then (a, b) :: r else (k, BitVec.ofNat 8 v) :: (a, b) :: r)
    else if k = a then (if v % 256 = 0 then r else (k, BitVec.ofNat 8 v) :: r)
    else (a, b) :: memSet r k v

/-- `n` bytes from a device address up. -/
def memBytes (m : List Host.Cell) (a : Nat) : Nat → List Nat
  | 0 => []
  | n + 1 => memGet m a :: memBytes m (a + 1) n

/-- The byte that a write code leaves: below 256 the byte written; 1024 + 256 × mask + v writes the bits of the mask from
v; any other code writes nothing (R181). -/
def codeByte (old b : Nat) : Nat :=
  if b < 256 then b else if b < 1024 then old else andNot old (b / 256 - 4) ||| (b % 256 &&& (b / 256 - 4))

/-- The bytes with a list of write codes stored from a device address up. -/
def memPut (m : List Host.Cell) (a : Nat) : List Nat → List Host.Cell
  | [] => m
  | b :: r => memPut (memSet m a (codeByte (memGet m a) b)) (a + 1) r

/-- The bytes with those from `a` to `a + n - 1` at 0. -/
def memZero (m : List Host.Cell) (a n : Nat) : List Host.Cell := m.filter (fun c => !(a ≤ c.1 && c.1 < a + n))

/-- The canonical form of the memory. -/
def Memory.wf (m : List Host.Cell) : Bool :=
  match m with
  | [] => true
  | [(_, b)] => b != 0
  | (a, b) :: (a', b') :: r => b != 0 && decide (a < a') && Memory.wf ((a', b') :: r)

/-! ### The tile directory (R210 to R224) -/

/-- Part of a device address. -/
def partOf (addr : Nat) : Nat := bits addr 51 46
/-- Key of the tile an address lies in: part × 2^30 + tile. -/
def tileOf (addr : Nat) : Nat := addr / 65536
/-- Directory die of a tile: address bits [17:16] (R223). -/
def dieOf (tileKey : Nat) : Nat := tileKey % 4
/-- Device address of a tile's first byte. -/
def tileAddr (tileKey : Nat) : Nat := tileKey * 65536
/-- The tiles that `n` bytes from `addr` touch. -/
def tilesOf (addr n : Nat) : List Nat :=
  (List.range ((addr + max n 1 - 1) / 65536 + 1 - addr / 65536)).map (fun i => addr / 65536 + i)

/-- A leaf entry; a tile without one has HOME 0 (R222). -/
def State.leaf (s : State) (tileKey : Nat) : Leaf := tget s.tier.leaf tileKey

/-- State of a tier (0x2400:02): 0 ABSENT, 1 IN_SERVICE, 2 RETENTION, 3 FAILED. -/
def State.tierSt (s : State) (t : Nat) : Nat := tget s.tier.st t

/-- Value in force of an object whose written value waits for the next start-up (R448). -/
def State.objIn (s : State) (ix sub : Nat) : Nat := tgetD s.dict.inForce (objKey ix sub) (s.obj ix sub)

/-- DIR_FRAMES in force (R208, R448). -/
def State.dirFrames (s : State) : Nat := s.objIn 0x2400 6

/-- Frames of a tier that objects can use (R207, R208). -/
def State.usable (s : State) (t : Nat) : Nat :=
  if t == 1 then tget s.tier.frames 1 - s.dirFrames else tget s.tier.frames t

/-- Frames of a tier that are reserved for moves that have not started (R217, R220). -/
def State.reservedFrames (s : State) (t : Nat) : List (Nat × Nat) :=
  (s.tier.moveQ.filter (fun r => r.tier == t && !r.started)).filterMap (fun r => r.frame.map (fun f => (r.tileKey, f)))

/-- Frames of a tier that are taken: homes, destinations reserved, and old frames still read (R226). A LOST tile
keeps no frame once its tier has failed (R235). -/
def State.usedFrames (s : State) (t : Nat) : List Nat :=
  (s.tier.leaf.filter (fun e => e.2.home == t && !e.2.lost)).map (fun e => e.2.frame)
  ++ (s.tier.leaf.filter (fun e => e.2.moving && e.2.dest == t)).map (fun e => e.2.dframe)
  ++ (s.tier.old.filter (fun o => o.tier == t)).map (fun o => o.frame)
  ++ (s.reservedFrames t).map (fun e => e.2)

/-- Free frames of a tier in service (0x2401). -/
def State.freeFrames (s : State) (t : Nat) : Nat :=
  if s.tierSt t == 1 || s.tierSt t == 2 then s.usable t - (s.usedFrames t).length else 0

/-- Frames of a tier that a function holds (R219). -/
def State.heldFrames (s : State) (f t : Nat) : Nat :=
  (s.tier.leaf.filter (fun e => e.1 / 2 ^ 30 == f &&
    ((e.2.home == t && !e.2.lost) || (e.2.moving && e.2.dest == t)))).length
  + ((s.reservedFrames t).filter (fun e => e.1 / 2 ^ 30 == f)).length

/-- The first frame from `n` on, round the tier, that is not taken (fuel: one more than the frames taken). -/
def pickFree (used : List Nat) (lo count n : Nat) : Nat → Nat
  | 0 => lo + n % count
  | k + 1 => if used.contains (lo + n % count) then pickFree used lo count (n + 1) k else lo + n % count

/-- A free frame of a tier: which one the spec leaves open, so the open choice picks it (R218). -/
def State.pickFrame (s : State) (t : Nat) : Nat :=
  let used := s.usedFrames t
  pickFree used (if t == 1 then s.dirFrames else 0) (s.usable t) (Config.freeNat s.free) (used.length + 1)

/-- A number below `count` that is not in use, if one is left: which one the spec leaves open. -/
def State.pickNo (s : State) (used : List Nat) (count : Nat) : Option Nat :=
  if used.length < count then some (pickFree used 0 count (Config.freeNat s.free) (used.length + 1)) else none

/-- The object of a tile, where its address lies in a LIVE or DAMAGED object (R211). -/
def State.objOf (s : State) (tileKey : Nat) : Option Obj :=
  let l := s.leaf tileKey
  if l.home == 0 then none
  else match tfind s.tier.objs l.object with
    | none => none
    | some o => if o.st == .live || o.st == .damaged then some o else none

/-- A tier cannot serve: FAILED or ABSENT. -/
def State.tierDown (s : State) (t : Nat) : Bool := s.tierSt t == 3 || s.tierSt t == 0

/-- The words, by device word address, that `n` bytes from `addr` touch. -/
def wordsOf (addr n : Nat) : List Nat :=
  (List.range ((addr + max n 1 - 1) / 32 + 1 - addr / 32)).map (fun i => addr / 32 + i)

/-- A word reads as uncorrectable or poison-marked (R240, R252). -/
def State.wordBad (s : State) (w : Nat) : Bool := tget s.tier.poison w || tget s.code.bad w

/-- The keys under which a part is read and written are held (R397, R402). -/
def State.keyed (s : State) (f : Nat) : Bool :=
  if f == 0 then s.trust.provKeys else (tget s.trust.keys f).isSome

/-- The status of the translation of `n` bytes at `addr` for function `f` (R210, R211, R224, R234, R402). -/
def State.transStatus (s : State) (f addr n : Nat) : Nat :=
  if 2 ^ 52 ≤ addr then stProtocol
  else if partOf addr != f then stWindow
  else if !(s.keyed f) then stGone
  else worstOf ((tilesOf addr n).map (fun t =>
    if t / 2 ^ 30 != f then stWindow
    else match s.objOf t with
    | none => stWindow
    | some _ => if (s.leaf t).lost || s.tierDown (s.leaf t).home then stTier else stOk))

/-- Power domain that stands for the groups of a tier: it holds the dcount of their last use (R468). -/
def tierDom (t : Nat) : Nat := if t == 1 then 40 else if t == 2 then 45 else 48

/-- A tier is accessed now: its groups' idle time starts again (R468). -/
def State.useTier (s : State) (t : Nat) : State :=
  { s with pwr := { s.pwr with doms := tmod s.pwr.doms (tierDom t) (fun x => { x with usedAt := s.clk.dcount }) } }

/-- Leaf entries that the directory cache of an I/O die holds, and walk-cache entries (R223). -/
def dirCacheSize : Nat := 65536
def walkCacheSize : Nat := 4096

/-- An entry enters a cache of an I/O die: a full cache gives up one of the die's entries, which one is open (R223). -/
def cacheIn (die : Nat → Nat) (size : Nat) (l : List Nat) (k free : Nat) : List Nat :=
  let mine := l.filter (fun e => die e == die k)
  if mine.length < size then l ++ [k]
  else l.filter (fun e => e != mine.getD (Config.freeNat free % mine.length) 0) ++ [k]

/-- A walk-cache entry is held, or taken up: a root entry has key die + 8 × number, a second-level one die + 4 + 8 ×
number (R221, R223). -/
def walkIn (l : List Nat) (k free : Nat) : List Nat := if l.contains k then l else cacheIn (· % 4) walkCacheSize l k free

/-- A tile's translation at the directory cache: a miss counts, and the caches take up what was walked (R223, R236). -/
def State.lookUp (s : State) (t : Nat) : State :=
  if s.tier.cache.contains t then s
  else
    let root := walkIn s.tier.walk (dieOf t + 8 * (t / 2 ^ 20)) (s.free + 1)
    let walk := walkIn root (dieOf t + 4 + 8 * (t / 1024)) (s.free + 2)
    ({ s with
      tier := { s.tier with cache := cacheIn dieOf dirCacheSize s.tier.cache t s.free, walk := walk }
      free := s.free + 3 } : State).bump 0x3305 (dieOf t + 1) 1

/-- USE of the tiles counts a translation, saturating (R222, R224). -/
def State.touch (s : State) (addr n : Nat) : State :=
  (tilesOf addr n).foldl (fun st t =>
    let l := st.leaf t
    (({ st with tier := { st.tier with
      leaf := tset st.tier.leaf t { l with use := min 0xFFFF (l.use + 1) } } } : State).useTier l.home).lookUp t) s

/-- Host-held lines (64 bytes) of a range in the snoop filter: BISnpInv goes out for each and the line leaves the
filter (R365). -/
def State.invalidate (s : State) (addr n : Nat) : State :=
  let ls := (s.host.snoop.flatMap (fun e => e.2)).filter (fun l => addr / 64 ≤ l && l ≤ (addr + max n 1 - 1) / 64)
  if ls.isEmpty then s
  else
    let s1 := { s with host := { s.host with
      snoop := tmap s.host.snoop (fun _ q => q.filter (fun l => !ls.contains l)) } }
    ls.foldl (fun st l => (st.emit (.cxl "BISnpInv" [l])).bump 0x3504 3 1) s1

/-- A device access outside the function's window sets its MEMORY bit 0 (R379). -/
def State.windowCause (s : State) (f st : Nat) : State := if st == stWindow then s.raiseCause f 1 0 else s

/-- The data bytes read from each tier count, tile by tile (R236). -/
def State.countRead (s : State) (addr n : Nat) : State :=
  (tilesOf addr n).foldl (fun st t =>
    st.bump 0x3300 (s.leaf t).home (min (addr + n) ((t + 1) * 65536) - max addr (t * 65536))) s

/-- Stores write codes. A word that is written whole loses its poison mark; one that is merged gets a new code over what was
read of it (R240, R241). -/
def State.store (s : State) (addr : Nat) (bs : List Nat) : State :=
  let codes := fun (w : Nat) => (bs.drop (w * 32 - addr)).take (w * 32 + 32 - max addr (w * 32))
  let hit := (wordsOf addr bs.length).filter (fun w => (codes w).any (· != 256))
  let whole := hit.filter (fun w => (codes w).length == 32 && (codes w).all (· < 256))
  { s with
    mem := memPut s.mem addr bs
    tier := { s.tier with poison := s.tier.poison.filter (fun e => !whole.contains e.1) }
    code := { s.code with
      bad := s.code.bad.filter (fun e => !whole.contains e.1)
      flips := s.code.flips.filter (fun e => !hit.contains e.1) } }

/-! ### Rings, completions and notices (R373 to R376) -/

/-- A ring (R366). -/
def State.ring (s : State) (r : Nat) : Ring := tgetD s.host.rings r {}

/-- The state with a ring replaced. -/
def State.putRing (s : State) (r : Nat) (x : Ring) : State :=
  { s with host := { s.host with rings := tset s.host.rings r x } }

/-- The function whose range holds a ring (R358). -/
def State.ringOwner (s : State) (r : Nat) : Option Nat :=
  (List.range 64).find? (fun f => let e := s.fn f; e.ringFirst ≤ r && r < e.ringFirst + e.ringCount)

/-- The completion entry (R373), with P as 0: it is set when the entry is written. -/
def cplBytes (ckind status code tag user data0 data1 : Nat) : List Nat :=
  [ckind, status, code, 0] ++ leBytes tag 4 ++ leBytes user 8 ++ leBytes data0 8 ++ leBytes data1 8

/-- Entries of a ring: 2^SIZE (R367). -/
def Ring.size (x : Ring) : Nat := 2 ^ bits x.ctrl 5 1

/-- Completions that the ring can take before it is full (R376). -/
def Ring.room (x : Ring) : Nat := x.size - 1 - (x.cqTail + x.size - x.cqHead) % x.size

/-- Completions held for a full ring (R376): those queued beyond its room. -/
def Ring.held (x : Ring) : List Cpl := x.toWrite.drop x.room

/-- Two completions are progress completions of one request (R376). -/
def sameProgress (a b : List Nat) : Bool :=
  byteAt a 0 == 2 && byteAt a 2 == 0xFF && byteAt b 0 == 2 && byteAt b 2 == 0xFF && fieldAt a 20 2 == fieldAt b 20 2

/-- Completions for a ring in ERROR or DISABLED are dropped and counted for its function (R375). -/
def State.dropCpls (s : State) (r n : Nat) : State :=
  match s.ringOwner r with
  | some f => s.bump 0x3505 (f + 1) n
  | none => s

/-- Queues a completion on a ring. A held progress completion gives way to a later one of its request (R376). -/
def State.queueCpl (s : State) (r : Nat) (data : List Nat) : State :=
  let x := s.ring r
  if x.st == .running || x.st == .stopping then
    let kept := x.toWrite.take x.room ++ x.held.filter (fun c => !sameProgress c.data data)
    s.putRing r { x with toWrite := kept ++ [{ data := data, since := s.clk.dcount }] }
  else s.dropCpls r 1

/-- The ring number that stands for no ring: the sender of a command whose completion is not to be written (R356). -/
def voidRing : Nat := 65536

/-- A ring carries one command or request less (R369). -/
def State.endCmd (s : State) (q : Req) : State :=
  if q.ring == voidRing then s
  else
    let s1 := s.putRing q.ring { s.ring q.ring with inFlight := (s.ring q.ring).inFlight - 1 }
    { s1 with host := { s1.host with
      cmds := s1.host.cmds.filter (fun c => !(c.ring == q.ring && c.tag == q.tag && c.func == q.func)) } }

/-- Completes a command: its completion is queued on the ring that carried it (R369, R374, R375). -/
def State.complete (s : State) (q : Req) (status data0 : Nat) : State :=
  (s.queueCpl q.ring (cplBytes 1 status 0 q.tag 0 (if status == stOk then data0 else 0) 0)).endCmd q

/-- A command presented to a partition that is out of service completes with GONE, which the partition owes (R21, R495,
R502); one held by a recalibration is carried out. -/
def State.unitCmd (s : State) (p : Nat) (q : Req) (act : State) : State :=
  let st := s.obj 0x2012 (p + 1) % 128
  if st == 2 || st == 3 then (s.bump 0x3721 (p + 1) 1).complete q stGone 0 else act

/-- A part command (R386): answered with TIER_FAIL in recovery service (R493) and with PROTOCOL while its function
holds no key set; carried out otherwise. -/
def State.partCmd (s : State) (q : Req) (act : State) : State :=
  if s.recovery then s.complete q stTier 0
  else if !(s.keyed q.func) then s.complete q stProtocol 0
  else act

/-- Completes a MOVE, whose refusal for want of room also reports the tiles moved (R217, R372). -/
def State.completeWith (s : State) (q : Req) (status data0 : Nat) : State :=
  (s.queueCpl q.ring (cplBytes 1 status 0 q.tag 0 data0 0)).endCmd q

/-- The lowest-numbered RUNNING ring of a function (R375). -/
def State.lowRing (s : State) (f : Nat) : Option Nat :=
  ((List.range (s.fn f).ringCount).map (fun i => (s.fn f).ringFirst + i)).find?
    (fun r => (s.ring r).st == .running)

/-- Posts a notice of function `f`, on ring `pref` if that is RUNNING, else on its lowest RUNNING ring, else it is
dropped and counted (R375, R379). -/
def State.notice (s : State) (f : Nat) (pref : Option Nat) (code status data0 : Nat) : State :=
  let data := cplBytes 5 status code 0 0 data0 0
  let target := match pref with
    | some r => if (s.ring r).st == .running then some r else s.lowRing f
    | none => s.lowRing f
  match target with
  | some r => s.queueCpl r data
  | none => (s.bump 0x3505 (f + 1) 1).raiseCause f 2 0

/-! ### Host memory (R359) -/

/-- A host range lies in one aperture of a function that may access host memory (R359). -/
def State.hostOk (s : State) (f addr n : Nat) : Bool :=
  bitOf (s.fn f).flags 0 && (s.fn f).aps.any (fun e => e.2.2 != 0 && e.2.1 ≤ addr && addr + n ≤ e.2.2)

/-- The upstream port carries more than configuration space: it is trained at x8 or wider (R354). -/
def State.portUp (s : State) : Bool := s.host.linkUp && 8 ≤ s.host.width

/-- Accesses to host memory for a function leave the device: the port is up and its bus-master enable is set (R354, R382). -/
def State.hostOpen (s : State) (f : Nat) : Bool := s.portUp && tget s.host.busM f

/-- A write to host memory goes out, or waits for the link or the bus-master enable (R359, R382). -/
def State.hostWrite (s : State) (who : HWho) (f addr : Nat) (data : List Nat) : State :=
  let w : HWrite := {
    tag := s.host.nextTag, func := f, who := who, addr := addr, data := data, since := s.clk.dcount, sent := s.hostOpen f }
  let s1 := { s with host := { s.host with writes := s.host.writes ++ [w], nextTag := s.host.nextTag + 1 } }
  if w.sent then s1.emit (.hostWrite f addr data) else s1

/-- Windows of time: length in ns of the window in force for each windowed count (R520). -/
def State.winLength (s : State) (w : Nat) : Nat :=
  match w with
  | 0 => s.obj 0x2423 5 * 1000000000
  | 1 => s.obj 0x2A00 6 * 1000000000
  | 2 => s.obj 0x2600 8 * 1000000000
  | _ => 1000000000

end Sys2Proof.Machine
end

