-- ==== Sys2Proof/Machine/Drawer.lean ====
section
/-!
DEFINITION. Shared operations on sites, drawers and their images: channels and credits (R45 to R47), the image fields
of a unit (R82), faulting a context (R62 to R64, R77), tokens in flight (R87), emission and SEQ numbering (R37).
-/
namespace Sys2Proof.Machine

/-! ### Reports for renewal (R499) -/

/-- A unit is reported: the device acts on its own under coppice or both, else the report goes to group 11 (R499). -/
def State.report (s : State) (r : Report) : State :=
  if s.obj 0x2010 1 == 2 then s.raiseCause 0 11 0
  else if s.ren.reports.contains r then s
  else { s with ren := { s.ren with reports := s.ren.reports ++ [r] } }

/-- A corrected fabric error in a bay: counted, and the bay reported once its window holds more than
FABRIC_CORR_THRESHOLD (R62, R499, R520). -/
def State.fabricCorrected (s : State) (b : Nat) : State :=
  let n := tget s.ren.fabCorr b + 1
  let s1 := { s.bump 0x3100 (b + 1) 1 with ren := { s.ren with fabCorr := tset s.ren.fabCorr b n } }
  if n == s.obj 0x2C01 2 + 1 then s1.report (.bay b) else s1

/-- An uncorrectable fabric error at a site: counted, and the bay reported at the site's second in one interval (R62,
R499). -/
def State.fabricUncorrectable (s : State) (b site : Nat) : State :=
  let n := tget s.ren.fabUnc (b * 120 + site) + 1
  let s1 := { s.bump 0x3101 (b + 1) 1 with ren := { s.ren with fabUnc := tset s.ren.fabUnc (b * 120 + site) n } }
  if n == 2 then s1.report (.bay b) else s1

/-! ### Access -/

/-- The steering unit of a site, at bay reset where nothing is listed. -/
def State.site (s : State) (b site : Nat) : Site := tget s.sites (siteKey b site)
/-- The state with a steering unit replaced. -/
def State.putSite (s : State) (b site : Nat) (x : Site) : State :=
  { s with sites := tset s.sites (siteKey b site) x }
/-- A drawer of a bay. -/
def State.drawer (s : State) (b d : Nat) : Drawer := tget s.drawers (b * 4 + d)
/-- The state with a drawer replaced. -/
def State.putDrawer (s : State) (b d : Nat) (x : Drawer) : State :=
  { s with drawers := tset s.drawers (b * 4 + d) x }
/-- A bay. -/
def State.bay (s : State) (b : Nat) : Bay := tget s.bays b
/-- The state with a bay replaced. -/
def State.putBay (s : State) (b : Nat) (x : Bay) : State := { s with bays := tset s.bays b x }

/-- A data lane of a site. -/
def Site.dchan (x : Site) (i : Nat) : Chan DTok := tgetD x.dat i {}
/-- A control lane of a site. -/
def Site.cchan (x : Site) (i : Nat) : Chan CTok := tgetD x.ctl i {}
/-- The site with a data lane replaced. -/
def Site.putD (x : Site) (i : Nat) (c : Chan DTok) : Site := { x with dat := tset x.dat i c }
/-- The site with a control lane replaced. -/
def Site.putC (x : Site) (i : Nat) (c : Chan CTok) : Site := { x with ctl := tset x.ctl i c }
/-- The data output to the site's own unit (R35). -/
def Site.unitD (x : Site) : Chan (Nat × DTok) := tgetD x.toUnit 0 {}
/-- The control output to the site's own unit (R35). -/
def Site.unitC (x : Site) : Chan (Nat × CTok) := tgetD x.toUnitC 0 {}
/-- The site with its data output to the unit replaced. -/
def Site.putUnitD (x : Site) (c : Chan (Nat × DTok)) : Site := { x with toUnit := tset x.toUnit 0 c }
/-- The site with its control output to the unit replaced. -/
def Site.putUnitC (x : Site) (c : Chan (Nat × CTok)) : Site := { x with toUnitC := tset x.toUnitC 0 c }

/-! ### Channels (R45 to R48) -/

/-- The sender sends one token; nothing happens on a count of 0 (R46). -/
def Chan.send {α : Type} (c : Chan α) (far : Bool) (t : α) : Chan α :=
  if c.cred == 0 then c else { c with cred := c.cred - 1, wire := c.wire ++ [(far, t)] }

/-- The next token on the wire enters the queue; nothing happens on an empty wire. -/
def Chan.arrive {α : Type} (c : Chan α) (f : α → α) : Chan α :=
  match c.wire with
  | [] => c
  | (_, t) :: r => { c with wire := r, queue := c.queue ++ [f t] }

/-- The token at the head leaves the queue and its credit starts back (R46). -/
def Chan.pop {α : Type} (c : Chan α) : Chan α :=
  match c.queue with
  | [] => c
  | _ :: r => { c with queue := r, due := c.due + 1 }

/-- Every queued token that satisfies `p` is removed, and a credit starts back for each (R63). -/
def Chan.purge {α : Type} (c : Chan α) (p : α → Bool) : Chan α :=
  { c with queue := c.queue.filter (fun t => !p t), due := c.due + (c.queue.filter p).length }

/-- The credit on the wire reaches the sender (R46). -/
def Chan.credit {α : Type} (c : Chan α) : Chan α :=
  if c.due == 0 then c else { c with due := c.due - 1, cred := c.cred + 1 }

/-! ### Image fields (R81, R82) -/

/-- A byte of a drawer's image. -/
def Drawer.imgByte (x : Drawer) (off : Nat) : Nat := memGet x.img off
/-- A little-endian field of a drawer's image. -/
def Drawer.imgField (x : Drawer) (off n : Nat) : Nat := ofLE (memBytes x.img off n)
/-- Offset in the image of byte `off` of a site's record. -/
def recOff (site off : Nat) : Nat := 16384 + 4096 * recordIx site + off
/-- A byte of a site's record. -/
def Drawer.cfg (x : Drawer) (site off : Nat) : Nat := x.imgByte (recOff site off)
/-- A field of a site's record. -/
def Drawer.cfgN (x : Drawer) (site off n : Nat) : Nat := x.imgField (recOff site off) n

/-- ROLE bit SOURCE (R82). -/
def Drawer.isSource (x : Drawer) (site : Nat) : Bool := bitOf (x.cfg site 1) 0
/-- A function cell whose operation cuts its input into rows of a run-time length (R146, R149). -/
def Drawer.runRows (x : Drawer) (site : Nat) : Bool :=
  kindOf site == .fnc && bitOf (x.cfg site 1031) 0 && [1, 2, 3, 4, 6, 7, 8, 9, 10, 11].contains (x.cfg site 1024)
/-- ROLE bit SINK (R82). -/
def Drawer.isSink (x : Drawer) (site : Nat) : Bool := bitOf (x.cfg site 1) 1
/-- Shape-map entries in use (R177). -/
def Drawer.entries (x : Drawer) : Nat := x.imgByte 256
/-- PREFETCH (R177). -/
def Drawer.prefetch (x : Drawer) : Nat := x.imgByte 258
/-- SPAN_DEV (R177). -/
def Drawer.spanDev (x : Drawer) : Bool := bitOf (x.imgByte 262) 0
/-- A site named by a byte [7:4] row, [3:0] column. -/
def siteOfByte (v : Nat) : Nat := siteNo (v / 16) (v % 16)

/-- The route of an input lane (0 to 4 data, 5 to 9 control) at a site; none where the drawer routes nothing. -/
def Drawer.route (x : Drawer) (site lane : Nat) : Option Route := tfind x.routes (site * 10 + lane)

/-- The drawer holds a configuration that serves tokens: not EMPTY and not LOADING (R39, R93). -/
def DrawerSt.holds (st : DrawerSt) : Bool := st != .empty && st != .loading

/-- The edging chain of a bay runs (R174). -/
def State.edging (s : State) (b : Nat) : Bool := bitOf (s.obj 0x2C10 1) b

/-- A drawer serves tokens in a bay: it holds a configuration, and the bay is not frozen (R39, R93, R282). With the
edging chain running the firmware's DRAIN tokens are served though no drawer is loaded (R174). -/
def State.serves (s : State) (b d : Nat) : Bool :=
  ((s.drawer b d).st.holds || s.edging b) && (s.bay b).frozen.isNone

/-- Code of a drawer state (R76). -/
def DrawerSt.code : DrawerSt → Nat
  | .empty => 0 | .loading => 1 | .idle => 2 | .armed => 3 | .active => 4 | .faulted => 5

/-- The unit of a site takes pairs in a context: some lane of it leads to the staging area. -/
def Drawer.pairs (x : Drawer) (site : Nat) : Bool :=
  (List.range 10).any (fun l => match x.route site l with | some r => r.stages | none => false)

/-- A member of a pleach chain: chain, MODE, blocks kept, input, output, place in the chain, and whether it is the last
(R201). -/
structure Member where
  chain : Nat
  mode : Nat
  blocks : Nat
  inLane : Nat
  outLane : Nat
  place : Nat
  isLast : Bool
deriving DecidableEq, Repr, Inhabited

/-- The member entry of a matrix cell in its drawer's pleach table, if it belongs to a chain (R201). -/
def Drawer.member (x : Drawer) (site : Nat) : Option Member :=
  ((List.range (min 8 (x.imgByte 259))).flatMap (fun c =>
    let base := 832 + 200 * c
    (List.range (min 48 (x.imgByte base))).filterMap (fun p =>
      let e := base + 8 + 4 * p
      if siteOfByte (x.imgByte e) == site then
        some { chain := c, mode := x.imgByte (base + 1), blocks := x.imgByte (e + 1),
               inLane := x.imgByte (e + 2) % 8, outLane := x.imgByte (e + 2) / 8 % 8, place := p,
               isLast := p + 1 == x.imgByte base }
      else none))).head?

/-- Output lanes that the unit of a site names itself: read streams of a fetch unit (R194), OUT_LANE of a scratch
cell (R199), the output on which a pleach member forwards (R201). -/
def Drawer.unitLanes (x : Drawer) (site : Nat) : List Nat :=
  match kindOf site with
  | .ftu => (List.range (min 8 (x.cfg site 1024))).filterMap (fun k =>
      if x.cfg site (1032 + 64 * k) == 0 then some (x.cfg site (1032 + 64 * k + 4) % 8) else none)
  | .scc => if x.cfg site 1025 == 0 then [] else [x.cfg site 1037 % 8]
  | .mxc => (match x.member site with
    | some e => if e.isLast then [] else [e.outLane]
    | none => [])
  | _ => []

/-- The route of an input lane leads somewhere. -/
def Drawer.routed (x : Drawer) (site lane : Nat) : Bool :=
  match x.route site lane with | some r => r.dests != [] | none => false

/-- Where the cross-bay route of a port cell's input lane leads: bay offset, port cell, input lane (R81). -/
def Drawer.crossAt (x : Drawer) (site lane : Nat) : Option (Nat × Nat × Nat) :=
  match x.route site lane, tfind x.xroutes (site * 10 + lane) with
  | some r, some q => if r.toUnit then some (q.off, q.port, q.lane % 5) else none
  | _, _ => none

/-- One input lane for each cross-bay output route of a port cell (R81). -/
def Drawer.crossLanes (x : Drawer) (site : Nat) : List Nat :=
  if kindOf site != .ptc then []
  else (List.range 10).filter (fun l => (x.crossAt site l).isSome &&
    (List.range l).all (fun k => x.crossAt site k != x.crossAt site l))

/-- Every output route of a context at a site, as output lanes 0 to 3 (R63, R88, R89). -/
def Drawer.outDirs (x : Drawer) (site : Nat) : List Nat :=
  dedup' (((List.range 10).flatMap (fun l => match x.route site l with | some r => r.outs | none => []))
    ++ (x.unitLanes site).filter (· < 4))

/-- Every output route of a context at a site, cross-bay routes included: these stand as 16 + the input lane (R63, R88,
R89, R90). -/
def Drawer.waveOuts (x : Drawer) (site : Nat) : List Nat := x.outDirs site ++ (x.crossLanes site).map (16 + ·)

/-- Input lanes (0 to 4) that a drawer routes at a site for a context (R89). -/
def Drawer.inLanes (x : Drawer) (site : Nat) : List Nat :=
  (List.range 5).filter (fun l => x.routed site l || x.routed site (l + 5))

/-- The token of a control lane ends at the unit of the site: its route leads there or to the staging area, or it has
none, as a token of the configuration bus (R49, R184, R188). -/
def Drawer.forUnit (x : Drawer) (site input : Nat) : Bool :=
  match x.route site (input + 5) with
  | none => true
  | some r => r.dests == [] || r.stages || (r.toUnit && kindOf site != .ptc)

/-! ### SEQ numbering and emission (R37) -/

/-- Next SEQ of an output stream, and the site with it advanced (R37). -/
def Site.nextSeq (x : Site) (stream ctx : Nat) : Nat × Site :=
  let n := tget x.outSeq (stream * 4 + ctx)
  (n, { x with outSeq := tset x.outSeq (stream * 4 + ctx) ((n + 1) % 4096) })

/-- The unit makes a data token on output lane `lane` (R37). -/
def Site.emitD (x : Site) (lane ctx : Nat) (pay : Payload) (last pv : Bool) : Site :=
  let (n, y) := x.nextSeq lane ctx
  { y with pipe := y.pipe ++ [(lane, mkD (if pv then pay else 0) ctx last pv n)] }

/-- The unit makes several data tokens; the last of them carries LAST if `last` is set. -/
def Site.emitMany (x : Site) (lane ctx : Nat) (pays : List Payload) (last pv : Bool) : Site :=
  match pays with
  | [] => x
  | [p] => x.emitD lane ctx p last pv
  | p :: r => Site.emitMany (x.emitD lane ctx p false pv) lane ctx r last pv

/-! ### Faulting a context (R62 to R64, R77) -/

/-- What the steering unit of a site does when a context is faulted there: FAULT with the status in ARG[7:0] on every
output route, the context's tokens discarded with their credits returned, its slots freed (R63). -/
def Site.faultCtx (x : Site) (outs : List Nat) (ctx status seq : Nat) : Site :=
  if (tfind x.faulted ctx).isSome then x
  else
    { x with
      dat := tmap x.dat (fun _ c => c.purge (fun t => t.ctx == ctx))
      ctl := tmap x.ctl (fun _ c => c.purge (fun t => cCtx t == ctx))
      toUnit := tmap x.toUnit (fun _ c => c.purge (fun e => e.2.ctx == ctx))
      toUnitC := tmap x.toUnitC (fun _ c => c.purge (fun e => cCtx e.2 == ctx))
      slots := x.slots.filter (fun sl => sl.ctx != ctx)
      direct := x.direct.filter (fun sl => sl.ctx != ctx)
      pipe := x.pipe.filter (fun e => e.2.ctx != ctx)
      owed := x.owed.filter (fun e => cCtx e.2 != ctx) ++ outs.map (fun o => (o, mkC opcFault ctx seq (status % 256)))
      fence := tdel x.fence ctx
      flipAt := tdel x.flipAt ctx
      faulted := tset x.faulted ctx status }

/-- The drawer goes FAULTED in every bay that holds the section (R77). -/
def State.faultDrawer (s : State) (b d status : Nat) : State :=
  let x := s.drawer b d
  if !x.st.holds then s
  else
    ((List.range (max x.bays 1)).map (fun j => x.b0 + j)).foldl (fun st j =>
      let y := st.drawer j d
      if y.st.holds && y.task == x.task && y.sect == x.sect && (j == b || y.digest == x.digest) then
        st.putDrawer j d { y with st := .faulted, fault := some (y.fault.getD status) }
      else st)
      (s.putDrawer b d { x with st := .faulted, fault := some (x.fault.getD status) })

/-- The unit of a site drops what it holds of a context's tokens: scratch buffers, write and read buffers, and outputs
being packed (R63, R87). -/
def State.dropUnit (s : State) (b site ctx : Nat) : State :=
  let k := unitKey b site ctx
  { s with
    bufs := tdel s.bufs k
    src := tmap s.src (fun i x => if i == k then { x with wbuf := [], rbuf := [] } else x)
    fnc := tmap s.fnc (fun i f => if i == k then { f with pack := [] } else f) }

/-- A fault is raised against a context at a unit (R62, R63, R77). The SEQ of the FAULT token is open. -/
def State.faultCtx (s : State) (b site ctx status : Nat) : State :=
  let x := s.site b site
  let d := s.drawer b ctx
  ((((s.putSite b site (x.faultCtx (d.waveOuts site) ctx status (Config.freeNat s.free))).tick).dropUnit b site ctx)).faultDrawer
    b ctx status

/-! ### Counting tokens in flight (R87) -/

/-- Tokens of a context that a site counts: queues, staging area, the unit's outputs, and tokens sent towards it from
a site of the bay; SWITCH tokens are not counted (R87). -/
def Site.count (x : Site) (ctx : Nat) : Nat :=
  (x.dat.map (fun e => (e.2.queue.filter (fun t => t.ctx == ctx)).length
    + (e.2.wire.filter (fun t => !t.1 && t.2.ctx == ctx)).length)).sum
  + (x.ctl.map (fun e => (e.2.queue.filter (fun t => cCtx t == ctx && cOpc t != opcSwitch)).length
    + (e.2.wire.filter (fun t => !t.1 && cCtx t.2 == ctx && cOpc t.2 != opcSwitch)).length)).sum
  + (((x.slots ++ x.direct.toList).filter (fun sl => sl.ctx == ctx)).map (fun sl => sl.data.length + (if sl.ctl.isSome then 1 else 0))).sum
  + (x.unitD.queue.filter (fun e => e.2.ctx == ctx)).length
  + (x.unitC.queue.filter (fun e => cCtx e.2 == ctx && cOpc e.2 != opcSwitch)).length
  + (x.pipe.filter (fun e => e.2.ctx == ctx)).length
  + (x.owed.filter (fun e => cCtx e.2 == ctx && cOpc e.2 != opcSwitch)).length

/-- Tokens inside the units of a bay whose outputs have not been emitted (R87): scratch buffers, write buffers, outputs
being packed. Under a FAULTED drawer no unit starts work (R77), so only complete scratch buffers are still to leave. -/
def State.inUnits (s : State) (b d : Nat) : Nat :=
  let mine := fun (k : Nat) => k / 480 == b && k % 4 == d
  let dead := (s.drawer b d).st == .faulted
  ((s.bufs.filter (fun e => mine e.1)).map (fun e =>
    ((e.2.filter (fun x => x.left.isNone && (x.last || !dead))).map (fun x => x.toks)).sum)).sum
  + (if dead then 0 else
      ((s.src.filter (fun e => mine e.1)).map (fun e => (e.2.wbuf.map (fun w => w.2.length)).sum)).sum
      + (s.fnc.filter (fun e => mine e.1 && !e.2.pack.isEmpty)).length)

/-- The bay count of a drawer (R87): the units' counts and the fetch units' transfers outstanding. -/
def State.bayCount (s : State) (b d : Nat) : Nat :=
  ((s.sites.filter (fun e => e.1 / 120 == b)).map (fun e => e.2.count d)).sum + s.inUnits b d
  + (s.xfers.filter (fun x => x.unit / 480 == b && x.unit % 4 == d)).length

/-- Every unit of the bay has emitted or absorbed the wave of a drawer (R90). -/
def State.waveDone (s : State) (b d : Nat) : Bool :=
  logicalSites.all (fun n =>
    let x := s.drawer b d
    ((x.inLanes n).isEmpty && !x.isSource n) || (s.site b n).swOut.contains d)

/-- An instance of the section that a drawer of a bay holds runs and has not ended in the bay (R97). -/
def State.runsIn (s : State) (b d : Nat) : Bool :=
  let x := s.drawer b d
  match tfind s.insts (x.b0 * 4 + d) with
  | some i => i.sect == x.sect && i.task == x.task && !i.quiet.contains b
  | none => false

/-- The bay is quiescent for a drawer (R90): for a FAULTED drawer the wave is not awaited, nor for one that runs no
instance, whose section has started nothing since it was loaded (DESIGN CHOICE, log 88). -/
def State.quiescent (s : State) (b d : Nat) : Bool :=
  s.bayCount b d == 0 && ((s.drawer b d).st == .faulted || s.waveDone b d || !s.runsIn b d)

/-! ### Running a drawer afresh (R37, R73, R92) -/

/-- A site's counters and wave for a context return to their start (R37, R89). -/
def Site.restart (x : Site) (ctx : Nat) : Site :=
  let keep := fun (t : Tbl Nat) => t.filter (fun e => e.1 % 4 != ctx)
  { x with
    expPair := tdel x.expPair ctx
    expIn := keep x.expIn
    outSeq := keep x.outSeq
    swIn := x.swIn.filter (fun k => k % 4 != ctx)
    swArg := tdel x.swArg ctx
    swOut := x.swOut.filter (· != ctx) }

/-- A unit forgets what its drawer held of a context, but not that the context has faulted there (R64, R73). -/
def Site.forget (x : Site) (ctx : Nat) : Site :=
  { x.restart ctx with
    fence := tdel x.fence ctx
    flipAt := tdel x.flipAt ctx }

/-- Every unit of the bay forgets what a drawer held: counters, banks, accumulators, positions, claim windows. -/
def State.freshDrawer (s : State) (b d : Nat) : State :=
  { s with
    sites := tmap s.sites (fun k x => if k / 120 == b then x.forget d else x)
    mxc := s.mxc.filter (fun e => !(e.1 / 480 == b && e.1 % 4 == d))
    fnc := s.fnc.filter (fun e => !(e.1 / 480 == b && e.1 % 4 == d))
    src := s.src.filter (fun e => !(e.1 / 480 == b && e.1 % 4 == d))
    bufs := s.bufs.filter (fun e => !(e.1 / 480 == b && e.1 % 4 == d))
    claims := tdel s.claims (b * 4 + d) }

/-- A drawer has been reloaded: the units of the bay discard its context's tokens no more (R64). -/
def State.unfault (s : State) (b d : Nat) : State :=
  { s with sites := tmap s.sites (fun k x => if k / 120 == b then { x with faulted := tdel x.faulted d } else x) }

/-- Tokens of a context stand in the queues of a site. -/
def Site.queued (x : Site) (ctx : Nat) : Bool :=
  x.dat.any (fun e => e.2.queue.any (fun t => t.ctx == ctx)) || x.ctl.any (fun e => e.2.queue.any (fun t => cCtx t == ctx))

/-- A drawer has become EMPTY: every unit of the bay that holds tokens of its context raises PROTOCOL against it, and
the fault counts in 0x3108 (R39, R62, R93). -/
def State.emptyFaults (s : State) (b d : Nat) : State :=
  (s.sites.filter (fun e => e.1 / 120 == b && e.2.queued d)).foldl (fun st e =>
    (st.bump 0x3108 (b + 1) 1).faultCtx b (e.1 % 120) d stProtocol) s

end Sys2Proof.Machine
end

