-- ==== Sys2Proof/Machine/Numbers.lean ====
section
/-!
DEFINITION. Number formats (R123 to R127), exact values and the one rounding of a conversion (R133 to R136).
-/
namespace Sys2Proof.Machine

/-! ### Exact values -/

/-- An exact value: a NaN, an infinity, or ± p / q with q > 0 (a zero keeps its sign). -/
inductive Num where
  | nan
  | inf (neg : Bool)
  | fin (neg : Bool) (p q : Nat)
deriving DecidableEq, Repr, Inhabited

/-- Plus zero. -/
def Num.zero : Num := .fin false 0 1

/-- The value m × 2^e. -/
def dyadic (neg : Bool) (m : Nat) (e : Int) : Num :=
  if 0 ≤ e then .fin neg (m * 2 ^ e.toNat) 1 else .fin neg m (2 ^ (-e).toNat)

/-- A value from a signed fraction; zero is +0. -/
def Num.ofInt (i : Int) (q : Nat) : Num := .fin (i < 0) i.natAbs q

/-- Signed numerator. -/
def sgn (neg : Bool) (p : Nat) : Int := if neg then -(p : Int) else p

/-- Sum; an exact zero sum of different signs is +0. -/
def Num.add : Num → Num → Num
  | .nan, _ => .nan
  | _, .nan => .nan
  | .inf a, .inf b => if a == b then .inf a else .nan
  | .inf a, .fin _ _ _ => .inf a
  | .fin _ _ _, .inf b => .inf b
  | .fin n1 p1 q1, .fin n2 p2 q2 =>
    if p1 == 0 && p2 == 0 then .fin (n1 && n2) 0 1
    else
      let m := sgn n1 p1 * q2 + sgn n2 p2 * q1
      .fin (m < 0) m.natAbs (q1 * q2)

/-- Negation. -/
def Num.neg : Num → Num
  | .nan => .nan
  | .inf a => .inf (!a)
  | .fin n p q => .fin (!n) p q

/-- Product; an infinity by a zero is a NaN. -/
def Num.mul : Num → Num → Num
  | .nan, _ => .nan
  | _, .nan => .nan
  | .inf a, .inf b => .inf (a != b)
  | .inf a, .fin b p _ => if p == 0 then .nan else .inf (a != b)
  | .fin a p _, .inf b => if p == 0 then .nan else .inf (a != b)
  | .fin n1 p1 q1, .fin n2 p2 q2 => .fin (n1 != n2) (p1 * p2) (q1 * q2)

/-- Quotient of finite values, IEEE 754 at zeros and infinities. -/
def Num.div : Num → Num → Num
  | .nan, _ => .nan
  | _, .nan => .nan
  | .inf _, .inf _ => .nan
  | .inf a, .fin b _ _ => .inf (a != b)
  | .fin a _ _, .inf b => .fin (a != b) 0 1
  | .fin n1 p1 q1, .fin n2 p2 q2 =>
    if p2 == 0 then (if p1 == 0 then .nan else .inf (n1 != n2))
    else .fin (n1 != n2) (p1 * q2) (q1 * p2)

/-- a < b for numbers that are not NaN. -/
def Num.lt : Num → Num → Bool
  | .inf a, .inf b => a && !b
  | .inf a, .fin _ _ _ => a
  | .fin _ _ _, .inf b => !b
  | .fin n1 p1 q1, .fin n2 p2 q2 => decide (sgn n1 p1 * q2 < sgn n2 p2 * q1)
  | _, _ => false

/-- Two numbers are equal; NaN equals none. -/
def Num.same : Num → Num → Bool
  | .inf a, .inf b => a == b
  | .fin n1 p1 q1, .fin n2 p2 q2 => sgn n1 p1 * q2 == sgn n2 p2 * q1
  | _, _ => false

/-- Magnitude. -/
def Num.abs : Num → Num
  | .nan => .nan
  | .inf _ => .inf false
  | .fin _ p q => .fin false p q

/-- The value is a zero. -/
def Num.isZero : Num → Bool
  | .fin _ p _ => p == 0
  | _ => false

/-- The value is finite. -/
def Num.isFin : Num → Bool
  | .fin _ _ _ => true
  | _ => false

/-! ### Formats (R117, R123) -/

/-- A floating-point format: trailing significand bits, bias, width, largest finite code, whether it has infinities,
and its canonical NaN (R123, R134). -/
structure FFmt where
  man : Nat
  bias : Nat
  width : Nat
  maxCode : Nat
  hasInf : Bool
  nan : Option Nat
deriving DecidableEq, Repr

/-- Formats by code (R117): a floating-point format, a two's-complement integer of some width with a weight of
2^-frac, or none. -/
inductive Fmt where
  | flt (f : FFmt)
  | int (width frac : Nat)
deriving DecidableEq, Repr

def fp4 : FFmt := { man := 1, bias := 1, width := 4, maxCode := 7, hasInf := false, nan := none }
def fp6e2m3 : FFmt := { man := 3, bias := 1, width := 6, maxCode := 31, hasInf := false, nan := none }
def fp6e3m2 : FFmt := { man := 2, bias := 3, width := 6, maxCode := 31, hasInf := false, nan := none }
def fp8e4m3 : FFmt := { man := 3, bias := 7, width := 8, maxCode := 0x7E, hasInf := false, nan := some 0x7F }
def fp8e5m2 : FFmt := { man := 2, bias := 15, width := 8, maxCode := 0x7B, hasInf := true, nan := some 0x7E }
def bf16 : FFmt := { man := 7, bias := 127, width := 16, maxCode := 0x7F7F, hasInf := true, nan := some 0x7FC0 }
def fp16 : FFmt := { man := 10, bias := 15, width := 16, maxCode := 0x7BFF, hasInf := true, nan := some 0x7E00 }
def fp32 : FFmt :=
  { man := 23, bias := 127, width := 32, maxCode := 0x7F7FFFFF, hasInf := true, nan := some 0x7FC00000 }
def fp64 : FFmt :=
  { man := 52, bias := 1023, width := 64, maxCode := 0x7FEFFFFFFFFFFFFF, hasInf := true,
    nan := some 0x7FF8000000000000 }

/-- The element format of a format code (R117), INT64 and EXACT left out. -/
def fmtOf (c : Nat) : Option Fmt :=
  match c with
  | 0x01 => some (.flt fp4) | 0x02 => some (.flt fp6e2m3) | 0x03 => some (.flt fp6e3m2)
  | 0x04 => some (.flt fp8e4m3) | 0x05 => some (.flt fp8e5m2) | 0x06 => some (.int 4 0)
  | 0x07 => some (.int 8 0) | 0x08 => some (.flt bf16) | 0x09 => some (.flt fp16)
  | 0x0A => some (.flt fp32) | 0x0B => some (.flt fp64) | 0x0C => some (.int 64 0)
  | 0x11 => some (.flt fp4) | 0x12 => some (.flt fp6e2m3) | 0x13 => some (.flt fp6e3m2)
  | 0x14 => some (.flt fp8e4m3) | 0x15 => some (.flt fp8e5m2) | 0x17 => some (.int 8 6)
  | _ => none

/-- The format code is an MX code (R117). -/
def isMx (c : Nat) : Bool := c == 0x11 || c == 0x12 || c == 0x13 || c == 0x14 || c == 0x15 || c == 0x17

/-- Element width in bits of a format code. -/
def fmtWidth (c : Nat) : Nat :=
  match fmtOf c with
  | some (.flt f) => f.width
  | some (.int w _) => w
  | none => 0

/-- Elements in one token of a format (R125, R126): 32 for the 6-bit formats. -/
def fmtElems (c : Nat) : Nat := if fmtWidth c == 6 then 32 else if fmtWidth c == 0 then 0 else 256 / fmtWidth c

/-- Decoding of a code of a floating-point format (R123). -/
def FFmt.decode (f : FFmt) (code : Nat) : Num :=
  let c := code % 2 ^ f.width
  let neg := bitOf c (f.width - 1)
  let m := c % 2 ^ (f.width - 1)
  if f.maxCode < m then
    (match f.nan with
     | none => dyadic neg 0 0
     | some _ => if f.hasInf && m == (f.maxCode / 2 ^ f.man + 1) * 2 ^ f.man then .inf neg else .nan)
  else
    let e := m / 2 ^ f.man
    let t := m % 2 ^ f.man
    if e == 0 then dyadic neg t (1 - (f.bias : Int) - f.man)
    else dyadic neg (t + 2 ^ f.man) ((e : Int) - f.bias - f.man)

/-- Decoding of an element code (R123, R124). -/
def decodeElem (fmt code : Nat) : Num :=
  match fmtOf fmt with
  | some (.flt f) => f.decode code
  | some (.int w frac) =>
    let i := sext code w
    .fin (i < 0) i.natAbs (2 ^ frac)
  | none => .nan

/-! ### Rounding (R133) -/

/-- p / q rounded to an integer: to nearest, ties to even, or toward zero. -/
def roundNat (rtz : Bool) (p q : Nat) : Nat :=
  let n := p / q
  let r := p % q
  if rtz then n
  else if 2 * r < q then n
  else if q < 2 * r then n + 1
  else if n % 2 == 1 then n + 1 else n

/-- floor(log2 (p / q)) for p, q > 0. -/
def ilog2 (p q : Nat) : Int :=
  let e := (Nat.log2 p : Int) - Nat.log2 q
  let big := if 0 ≤ e then decide (q * 2 ^ e.toNat ≤ p) else decide (q ≤ p * 2 ^ (-e).toNat)
  if big then e else e - 1

/-- Code of the magnitude p / q > 0 in a format, rounded once, before the treatment of overflow: a code above the
format's largest is an overflow. -/
def FFmt.roundMag (f : FFmt) (rtz : Bool) (p q : Nat) : Nat :=
  if p == 0 then 0
  else
    let emin : Int := 1 - (f.bias : Int)
    let e := max (ilog2 p q) emin
    let sh : Int := (f.man : Int) - e
    let n := if 0 ≤ sh then roundNat rtz (p * 2 ^ sh.toNat) q else roundNat rtz p (q * 2 ^ (-sh).toNat)
    n + (e - emin).toNat * 2 ^ f.man

/-- The outcome of a conversion: the code, whether it saturated, whether a NaN was lost (R134). -/
structure Conv where
  code : Nat
  sat : Bool
  lost : Bool
deriving DecidableEq, Repr, Inhabited

/-- Conversion into a floating-point format (R133, R134). -/
def FFmt.convert (f : FFmt) (rtz sat : Bool) (v : Num) : Conv :=
  let s := fun (neg : Bool) => if neg then 2 ^ (f.width - 1) else 0
  let isOver := fun (neg isInf : Bool) =>
    match f.nan with
    | none => ({ code := s neg + f.maxCode, sat := true, lost := false } : Conv)
    | some nan =>
      if sat then { code := s neg + f.maxCode, sat := true, lost := false }
      else if f.hasInf then
        if rtz && !isInf then { code := s neg + f.maxCode, sat := false, lost := false }
        else { code := s neg + (f.maxCode / 2 ^ f.man + 1) * 2 ^ f.man, sat := false, lost := false }
      else { code := nan, sat := false, lost := false }
  match v with
  | .nan => (match f.nan with
    | none => { code := 0, sat := false, lost := true }
    | some n => { code := n, sat := false, lost := false })
  | .inf neg => isOver neg true
  | .fin neg p q =>
    let m := f.roundMag rtz p q
    if f.maxCode < m then isOver neg false else { code := s neg + m, sat := false, lost := false }

/-- Conversion into an integer format with weight 2^-frac: clamped to its range (R133). -/
def convertInt (rtz : Bool) (w frac : Nat) (v : Num) : Conv :=
  let hi : Int := 2 ^ (w - 1) - 1
  let lo : Int := -(2 ^ (w - 1))
  match v with
  | .nan => { code := 0, sat := false, lost := true }
  | .inf neg => { code := ofInt (if neg then lo else hi) w, sat := true, lost := false }
  | .fin neg p q =>
    let n : Int := sgn neg (roundNat rtz (p * 2 ^ frac) q)
    if hi < n then { code := ofInt hi w, sat := true, lost := false }
    else if n < lo then { code := ofInt lo w, sat := true, lost := false }
    else { code := ofInt n w, sat := false, lost := false }

/-- Conversion of a value into the element format of a code (R133); `rnd` 1 rounds toward zero. -/
def convertElem (fmt : Nat) (rtz sat : Bool) (v : Num) : Conv :=
  match fmtOf fmt with
  | some (.flt f) => f.convert rtz sat v
  | some (.int w frac) => convertInt rtz w frac v
  | none => { code := 0, sat := false, lost := false }

/-- A value rounded to FP32 under RNE, as a code. -/
def toFp32 (v : Num) : Nat := (fp32.convert false false v).code

/-- The value of an FP32 code. -/
def ofFp32 (c : Nat) : Num := fp32.decode c

/-! ### Tokens (R125, R126) -/

/-- The lanes of a token in a format, as element codes. -/
def lanesOf (fmt : Nat) (pay : Nat) : List Nat :=
  (List.range (fmtElems fmt)).map (fun i => (pay >>> (fmtWidth fmt * i)) % 2 ^ fmtWidth fmt)

/-- A token payload from element codes of a width, lane 0 lowest. -/
def packLanes (w : Nat) : List Nat → Nat
  | [] => 0
  | c :: r => c % 2 ^ w + 2 ^ w * packLanes w r

/-- The E8M0 scale of a code: none for the NaN code 0xFF (R124). -/
def e8m0 (c : Nat) : Option Int := if c % 256 == 255 then none else some ((c % 256 : Nat) - 127 : Int)

/-- The value times 2^e. -/
def Num.scale (v : Num) (e : Int) : Num :=
  match v with
  | .fin n p q => if 0 ≤ e then .fin n (p * 2 ^ e.toNat) q else .fin n p (q * 2 ^ (-e).toNat)
  | x => x

/-- emax of an MX element format (R135). -/
def mxEmax (fmt : Nat) : Int :=
  match fmt with
  | 0x14 => 8 | 0x15 => 15 | 0x12 => 2 | 0x13 => 4 | 0x11 => 2 | _ => 0

/-- An MX block from 32 lane values (R135): scale code, element conversions, whether it is not finite. -/
def mxBlock (fmt : Nat) (rtz : Bool) (vs : List Num) : Nat × List Conv × Bool :=
  if vs.any (fun v => !v.isFin) then (0xFF, vs.map (fun _ => { code := 0, sat := false, lost := false }), true)
  else
    let x := vs.foldl (fun m v => if m.lt v.abs then v.abs else m) Num.zero
    match x with
    | .fin _ p q =>
      if p == 0 then (0, vs.map (fun _ => { code := 0, sat := false, lost := false }), false)
      else
        let e : Int := max (-127) (min 127 (ilog2 p q - mxEmax fmt))
        ((e + 127).toNat, vs.map (fun v => convertElem fmt rtz true (v.scale (-e))), false)
    | _ => (0xFF, [], true)

end Sys2Proof.Machine
end

