-- ==== Sys2Proof/Machine/Pairing.lean ====
section
/-!
DEFINITION. The staging area and the choice of the pair to fire (R54 to R59), and what a governed pair takes.
-/
namespace Sys2Proof.Machine

/-- Operand class of a matrix cell by format (R116): streamed elements of a pair, MACs width, blocks in the bank,
tokens of a block's elements and of its scales. -/
structure MxcClass where
  k : Nat
  narrow : Bool
  blocks : Nat
  elemToks : Nat
  scaleToks : Nat
deriving DecidableEq, Repr

/-- The operand class of a stationary format (R116, R119, R202). -/
def mxcClass (wFmt : Nat) : MxcClass :=
  let mx := isMx wFmt
  match fmtWidth wFmt with
  | 4 => { k := 64, narrow := true, blocks := 32, elemToks := 32, scaleToks := if mx then 2 else 0 }
  | 6 => { k := 64, narrow := true, blocks := 21, elemToks := 48, scaleToks := if mx then 2 else 0 }
  | 8 => { k := 32, narrow := true, blocks := 32, elemToks := 32, scaleToks := if mx then 1 else 0 }
  | 16 => { k := 16, narrow := false, blocks := 32, elemToks := 32, scaleToks := 0 }
  | _ => { k := 8, narrow := false, blocks := 32, elemToks := 32, scaleToks := 0 }

/-- Data inputs of a function-cell operation (R147): SRC2 of FUSE, ACCUM of RECOMBINE. -/
def fncInputs (op src2 : Nat) (accum : Bool) : Nat :=
  match op with
  | 3 => if src2 == 0 then 1 else 2
  | 4 => 2 | 5 => 2 | 8 => 2 | 9 => 2
  | 12 => if accum then 2 else 1
  | _ => 1

/-- Data halves a pair takes at a site under its drawer and control token (R54, R116, R147). -/
def State.pairNeeds (s : State) (b site ctx : Nat) (c : CTok) : Nat :=
  let d := s.drawer b ctx
  if cOpc c == opcSel then 2
  else match kindOf site with
    | .mxc => if fmtWidth (d.cfg site 1024) == 6 then 2 else 1
    | .fnc => fncInputs (d.cfg site 1024) (bits (d.cfg site 1027) 4 3) (bitOf (d.cfg site 1044) 0)
    | _ => 1

/-- A slot holds every half of its pair (R54). -/
def State.slotFull (s : State) (b site : Nat) (sl : Slot) : Bool :=
  match sl.ctl with
  | none => false
  | some c => s.pairNeeds b site sl.ctx c ≤ sl.data.length

/-- Marks a slot complete, with the order number of the present fclk (R59). -/
def State.seal (s : State) (b site : Nat) (x : Site) (sl : Slot) : Slot :=
  if sl.done.isNone && s.slotFull b site sl then { sl with done := some x.order } else sl

/-- A pair completed at once that did not fire takes a slot, where one is free (R57 rule 2). -/
def Site.settle (x : Site) : Site :=
  match x.direct with
  | none => x
  | some sl => if x.slots.length < 4 then { x with direct := none, slots := x.slots ++ [sl] } else x

/-- Free slots of the staging area (R54). A pair that stands by unfired counts as a slot in use (R57 rule 2). -/
def Site.free (x : Site) : Nat := 4 - (x.slots.length + x.direct.toList.length)

/-- Rules 3 and 4 of R57: the half of a new pair may take a slot. -/
def Site.mayTake (x : Site) (ctx seq : Nat) : Bool := 2 ≤ x.free || (x.free == 1 && tget x.expPair ctx == seq)

/-- Places one half in the staging area, or not, by the rules of R57 that concern one arriving half (1, 3 and 4): the
site with the half placed, none where it stays at its queue head. The wait of a slot starts with its last half (R61). -/
def State.place (s : State) (b site : Nat) (x : Site) (ctx seq : Nat) (half : Slot → Slot) : Option Site :=
  match takeFirst (fun sl => sl.ctx == ctx && sl.seq == seq) x.slots with
  | some (sl, rest) => some { x with slots := rest ++ [s.seal b site x { half sl with since := s.fclkNow }] }
  | none =>
    if x.mayTake ctx seq then
      some { x with slots := x.slots ++ [s.seal b site x
        (half { ctx := ctx, seq := seq, ctl := none, data := [], since := s.fclkNow, done := none })] }
    else none

/-- The earlier of two complete slots: by order of completion, then lower CTX (R59). -/
def earlier (a b : Slot) : Bool :=
  match a.done, b.done with
  | some x, some y => x < y || (x == y && a.ctx < b.ctx)
  | some _, none => true
  | _, _ => false

/-- A control token is forwarded by the wave or by a fault, not along its route (R63, R89). -/
def cWave (t : CTok) : Bool := cOpc t == opcSwitch || cOpc t == opcFault

/-- SEQ of the data token of a context that the unit takes next from an input: what stands in its own queue, then in the
steering unit's, then what is expected (R38, R44). -/
def Site.nextIn (x : Site) (lane ctx : Nat) : Nat :=
  match x.unitD.queue.find? (fun e => e.1 == lane && e.2.ctx == ctx) with
  | some e => e.2.seq
  | none => match (x.dchan lane).queue.find? (fun t => t.ctx == ctx) with
    | some t => t.seq
    | none => tget x.expIn (lane * 4 + ctx)

/-- A lane of a site leads to the staging area for a drawer. -/
def Drawer.stages (x : Drawer) (site lane : Nat) : Bool :=
  match x.route site lane with | some r => r.stages | none => false

/-- The stand-alone token at the head of a control queue is due: its SEQ is the one expected (R44). A unit that takes
pairs in the context expects its pairs' SEQ; one that takes none, that of the same input's data stream. A SWITCH token
follows its own stream (R88, R89; DEDUCED, log 92). A CLAIM token of the configuration bus carries the SEQ that the unit
expects and is due on arrival (R188). -/
def State.seqDue (s : State) (b site input : Nat) (t : CTok) : Bool :=
  let x := s.site b site
  let ctx := cCtx t
  let d := s.drawer b ctx
  let paired := tget x.expPair ctx == cSeq t
  if cOpc t == opcClaim && input == 4 then true
  else if cOpc t == opcSwitch then
    if d.routed site input then (if d.stages site input then paired else x.nextIn input ctx == cSeq t)
    else if d.stages site (input + 5) then paired
    else true
  else if d.pairs site then paired
  else x.nextIn input ctx == cSeq t

/-- A stand-alone token of a context that ends at the unit is due at the head of a control queue: it acts before the data
token with its own SEQ (R44). A SWITCH has no data token behind it. -/
def State.standsAt (s : State) (b site ctx i : Nat) : Bool :=
  match ((s.site b site).cchan i).queue with
  | [] => false
  | t :: _ => cCtx t == ctx && !opcGoverns (cOpc t) && !opcReserved (cOpc t) && !cWave t
      && (s.drawer b ctx).forUnit site i && s.seqDue b site i t

/-- The same on any input. -/
def State.standing (s : State) (b site ctx : Nat) : Bool := (List.range 5).any (s.standsAt b site ctx)

/-- A FAULT token of a context stands at the head of a control queue: it is taken before any governing token (R64). -/
def State.faultFirst (s : State) (b site ctx : Nat) : Bool :=
  (List.range 5).any (fun i => match ((s.site b site).cchan i).queue with
    | [] => false
    | t :: _ => cCtx t == ctx && cOpc t == opcFault)

/-- The unit's output that a pair's operation names: none, the data lane or the control lane of the local input (R59,
R66, R147, R169). A matrix cell's pair and a write of a lookup bank emit nothing. -/
inductive PairOut where
  | none | data | ctl
deriving DecidableEq, Repr

/-- The output that the operation of a pair names. -/
def State.pairOut (s : State) (b site : Nat) (sl : Slot) : PairOut :=
  let go := match sl.ctl with | some t => if cOpc t == opcGo then bits (cArg t) 11 10 else 0 | none => 0
  if (match sl.ctl with | some t => cOpc t == opcSel | none => false) then .data
  else match kindOf site with
    | .fnc =>
      let op := (s.drawer b sl.ctx).cfg site 1024
      if op == 0 || 2 ≤ go then .none else if op == 5 then .ctl else .data
    | _ => .none

/-- The outputs of a pair have credit (R59). -/
def State.outCredit (s : State) (b site : Nat) (sl : Slot) : Bool :=
  match s.pairOut b site sl with
  | .none => true
  | .data => ((s.site b site).dchan 4).cred != 0
  | .ctl => ((s.site b site).cchan 4).cred != 0

/-- The unit can take a pair of a context: a matrix cell has emitted every token of a drain (R120), and a function cell
that reads a row length at run time holds the whole shape burst (R149, R184). -/
def State.unitOpen (s : State) (b site ctx : Nat) : Bool :=
  let d := s.drawer b ctx
  match kindOf site with
  | .mxc => (s.site b site).pipe.all (fun e => e.1 != 4)
  | .fnc => !d.runRows site || 3 * d.entries ≤ (tget s.src (unitKey b site ctx)).frags.length
  | _ => true

/-- The pair that R59 fires: complete, of its context's expected SEQ, under a drawer that is neither EMPTY nor
LOADING, the earliest completed, with credit for its outputs, and no stand-alone token due before it (R44). -/
def State.choose (s : State) (b site : Nat) : Option Slot :=
  let x := s.site b site
  let ready := (x.slots ++ x.direct.toList).filter (fun sl => sl.done.isSome && tget x.expPair sl.ctx == sl.seq
    && s.serves b sl.ctx && (tfind x.faulted sl.ctx).isNone && (tfind x.fence sl.ctx).isNone && s.outCredit b site sl
    && s.unitOpen b site sl.ctx && !s.standing b site sl.ctx)
  ready.foldl (fun m sl => match m with
    | none => some sl
    | some a => if earlier sl a then some sl else some a) none

/-- A pair has fired: its slot is free and the expected counter advances (R56, R59). -/
def Site.fired (x : Site) (sl : Slot) : Site :=
  { x with
    slots := x.slots.filter (fun y => !(y.ctx == sl.ctx && y.seq == sl.seq))
    direct := if x.direct == some sl then none else x.direct
    expPair := tset x.expPair sl.ctx ((sl.seq + 1) % 4096) }

/-- The data half a slot holds of an input lane; the first held where the lane has none. -/
def Slot.on (sl : Slot) (lane : Nat) : DTok :=
  match sl.data.find? (fun e => e.1 == lane) with
  | some e => e.2
  | none => (sl.data.headD (0, default)).2

/-- Every data half of the pair is live, or some are not (R41). -/
def Slot.live (sl : Slot) : Bool := sl.data.all (fun e => e.2.pv)

/-- The next SEQ of an output stream follows a token that leaves on it; control streams count apart (R37). -/
def Site.passed (x : Site) (dir ctx seq : Nat) : Site :=
  { x with outSeq := tset x.outSeq (dir * 4 + ctx) ((seq + 1) % 4096) }

/-- SEQ that the next unit expects on an output route, cross-bay routes as 16 + the input lane: of its data stream where
one has passed, else of its control stream (R37, R88). -/
def Site.waveSeq (x : Site) (dir ctx : Nat) : Nat :=
  match tfind x.outSeq (dir * 4 + ctx) with
  | some n => n
  | none => tget x.outSeq ((dir + 32) * 4 + ctx)

/-- Credit for a control token on a channel output (R46). -/
def State.creditC (s : State) (b site dir : Nat) : Bool :=
  match neighbour site dir with
  | none => false
  | some n => ((s.site b n).cchan (oppositeDir dir)).cred != 0

/-- Credit for a data token on a channel output (R46). -/
def State.creditD (s : State) (b site dir : Nat) : Bool :=
  match neighbour site dir with
  | none => false
  | some n => ((s.site b n).dchan (oppositeDir dir)).cred != 0

/-- A control token leaves on a channel output (R46). -/
def State.sendC (s : State) (b site dir : Nat) (t : CTok) : State :=
  match neighbour site dir with
  | none => s
  | some n =>
    let s1 := if opcGoverns (cOpc t) then s.putSite b site ((s.site b site).passed (dir + 32) (cCtx t) (cSeq t)) else s
    let y := s1.site b n
    s1.putSite b n (y.putC (oppositeDir dir) ((y.cchan (oppositeDir dir)).send false t))

/-- A data token of the unit leaves on a channel output; it was numbered when it was made (R37, R46). -/
def State.sendOwnD (s : State) (b site dir : Nat) (t : DTok) : State :=
  match neighbour site dir with
  | none => s
  | some n =>
    let y := s.site b n
    s.putSite b n (y.putD (oppositeDir dir) ((y.dchan (oppositeDir dir)).send false t))

/-- A data token that passes through leaves on a channel output (R46, R50). -/
def State.sendD (s : State) (b site dir : Nat) (t : DTok) : State :=
  match neighbour site dir with
  | none => s
  | some _ => (s.putSite b site ((s.site b site).passed dir t.ctx t.seq)).sendOwnD b site dir t

/-- Channel outputs on which the token of a control lane goes on beside what it does here (R49). -/
def State.copies (s : State) (b site input : Nat) (t : CTok) : List Nat :=
  if cWave t then []
  else match (s.drawer b (cCtx t)).route site (input + 5) with
    | some r => r.outs
    | none => []

/-- The token at the head of a control queue that acts at this unit, if its drawer serves tokens and every channel output
of its route has credit (R39, R49, R93). A token whose route names channel outputs only passes through; the wave of a
SWITCH is taken by every unit (R89). -/
def State.headC (s : State) (b site input : Nat) : Option CTok :=
  match ((s.site b site).cchan input).queue with
  | [] => none
  | t :: _ =>
    if s.serves b (cCtx t) && (cWave t || (s.drawer b (cCtx t)).forUnit site input)
        && (s.copies b site input t).all (s.creditC b site) then some t else none

/-- Removes the token at the head of a control queue; its copies leave in the same fclk (R46, R49). -/
def State.popC (s : State) (b site input : Nat) : State :=
  let x := s.site b site
  match (x.cchan input).queue with
  | [] => s
  | t :: _ =>
    (s.copies b site input t).foldl (fun st k => st.sendC b site k t)
      (s.putSite b site (x.putC input (x.cchan input).pop))

end Sys2Proof.Machine
end

