-- ==== Sys2Proof/Machine/Matrix.lean ====
section
/-!
DEFINITION. Matrix cells: what a governed pair and a drain do (R116 to R142), and the counts of conversions (R143).
The commands themselves are in MatrixCells.lean.
-/
namespace Sys2Proof.Machine

/-- A matrix cell's drawer. -/
def State.mx (s : State) (b site d : Nat) : Mxc := tget s.mxc (unitKey b site d)
/-- The state with it replaced. -/
def State.putMx (s : State) (b site d : Nat) (m : Mxc) : State := { s with mxc := tset s.mxc (unitKey b site d) m }

/-! ### Counting conversions (R134, R143) -/

/-- The code is a NaN or an infinity of its format. -/
def nonFinite (fmt code : Nat) : Bool :=
  match decodeElem fmt code with
  | .fin _ _ _ => false
  | _ => true

/-- Counts the outcomes of conversions into `fmt` in a bay: saturated lanes, NaNs lost, NaN or infinite results. -/
def State.countConv (s : State) (b fmt : Nat) (cs : List Conv) : State :=
  ((s.bump 0x3110 (b + 1) (cs.filter (fun c => c.sat)).length).bump 0x3111 (b + 1)
    (cs.filter (fun c => c.lost)).length).bump 0x3112 (b + 1)
    (cs.filter (fun c => fmt != 0x0C && nonFinite fmt c.code)).length

/-! ### Pleach chains (R201 to R203) -/

/-- First physical block of fill or tile `r` (R203). -/
def Member.half (m : Member) (r : Nat) : Nat := if m.mode == 1 then m.blocks * (r % 2) else 0

/-- The block a GO names is complete for the fill its tile uses (R203, R204). -/
def blockReady (mem : Option Member) (m : Mxc) (block : Nat) : Bool :=
  match mem with
  | none => false
  | some e => tget m.full (e.half m.tile + block) == (if e.mode == 1 then m.tile + 1 else 1)

/-! ### One element pair (R128 to R131) -/

/-- The elements of a weight block as one number: token j of the block holds bits [256j + 255:256j] (R202). -/
def blockBits (m : Mxc) (block : Nat) (toks : Nat) : Nat :=
  (List.range toks).foldl (fun n j => n + (tget m.bank (block * 64 + j)).toNat * 2 ^ (256 * j)) 0

/-- Scale of K-block e, column n, of a weight block (R119). -/
def blockScale (m : Mxc) (c : MxcClass) (block e n : Nat) : Nat :=
  bits (tget m.bank (block * 64 + c.elemToks + e)).toNat (8 * n + 7) (8 * n)

/-- Flag bits of one narrow product, and its amount in units of 2^-288 (R128, R130). -/
def narrowProduct (x w : Num) (sx sw : Option Int) : Nat × Int :=
  match sx, sw with
  | some ex, some ew =>
    (match x, w with
     | .nan, _ => (4, 0)
     | _, .nan => (4, 0)
     | .inf a, .inf b => (if a != b then 1 else 2, 0)
     | .inf a, .fin b p _ => if p == 0 then (4, 0) else (if a != b then 1 else 2, 0)
     | .fin a p _, .inf b => if p == 0 then (4, 0) else (if a != b then 1 else 2, 0)
     | .fin a p1 q1, .fin b p2 q2 =>
       let e : Int := 288 + ex + ew
       (0, sgn (a != b) (p1 * p2 * 2 ^ e.toNat / (q1 * q2))))
  | _, _ => (4, 0)

/-- Pairwise sums of neighbours, each rounded to FP32 (R131 step 2). -/
def pairSums : List Nat → List Nat
  | a :: b :: r => toFp32 ((ofFp32 a).add (ofFp32 b)) :: pairSums r
  | l => l

/-- The pairwise tree down to one sum (fuel: the length). -/
def treeSum : Nat → List Nat → Nat
  | 0, l => l.headD 0
  | f + 1, l => if l.length ≤ 1 then l.headD 0 else treeSum f (pairSums l)

/-- One streamed pair of elements `xs` (with a scale code each) times a weight block into row slot `slot`. -/
def Mxc.mac (m : Mxc) (wFmt sFmt block slot : Nat) (xs : List (Nat × Option Int)) : Mxc :=
  let c := mxcClass wFmt
  let w := fmtWidth wFmt
  let wb := blockBits m block c.elemToks
  let wAt := fun k n => decodeElem wFmt ((wb >>> (w * (32 * k + n))) % 2 ^ w)
  let sAt := fun k n => if isMx wFmt then e8m0 (blockScale m c block (k / 32) n) else some 0
  let ks := (List.range xs.length).zip xs
  if c.narrow then
    (List.range 32).foldl (fun m n =>
      let ps := ks.map (fun e => narrowProduct (decodeElem sFmt e.2.1) (wAt e.1 n) e.2.2 (sAt e.1 n))
      let key := slot * 32 + n
      { m with
        acc := tset m.acc key (tget m.acc key + (ps.map (fun p => p.2)).sum)
        flags := tset m.flags key (ps.foldl (fun f p => f ||| p.1) (tget m.flags key)) }) m
  else
    (List.range 32).foldl (fun m n =>
      let ps := ks.map (fun e => toFp32 ((decodeElem sFmt e.2.1).mul (wAt e.1 n)))
      let key := slot * 32 + n
      { m with fp := tset m.fp key (toFp32 ((ofFp32 (tget m.fp key)).add (ofFp32 (treeSum ps.length ps)))) }) m

/-- The lanes of the pair's streamed tokens, each with its element scale: of the MX scale word in force, block
`since × (K / 32) + k / 32`, or 2^0 (R116, R127). -/
def streamed (m : Mxc) (sFmt : Nat) (toks : List Nat) : List (Nat × Option Int) :=
  let codes := toks.flatMap (lanesOf sFmt)
  let per := max 1 (codes.length / 32)
  ((List.range codes.length).zip codes).map (fun e =>
    (e.2, if isMx sFmt then
        (match m.scale with
         | none => none
         | some sw => e8m0 (bits sw.toNat (8 * (m.since * per + e.1 / 32) + 7) (8 * (m.since * per + e.1 / 32))))
      else some 0))

/-! ### Drains (R120 to R122, R132, R135, R136) -/

/-- The value of a lane at drain (R130, R132). -/
def Mxc.lane (m : Mxc) (narrow : Bool) (key : Nat) : Num :=
  if narrow then
    let f := tget m.flags key
    if bitOf f 2 || (bitOf f 1 && bitOf f 0) then .nan
    else if bitOf f 1 then .inf false
    else if bitOf f 0 then .inf true
    else Num.ofInt (tget m.acc key) (2 ^ 288)
  else
    match ofFp32 (tget m.fp key) with
    | .fin _ 0 _ => Num.zero
    | v => v

/-- Conversion of a lane for a drain; INT64 saturates at ±(2^63 - 1) (R136). -/
def drainConv (fmt : Nat) (rtz sat : Bool) (v : Num) : Conv :=
  if fmt == 0x0C then
    let c := convertInt rtz 64 0 v
    if c.code == 2 ^ 63 then { code := 2 ^ 63 + 1, sat := true, lost := false } else c
  else convertElem fmt rtz sat v

/-- The 82 export tokens of a slot (R122). -/
def Mxc.exportSlot (m : Mxc) (slot : Nat) : List Payload :=
  let cat := packLanes 648 ((List.range 32).map (fun i => ofInt (tget m.acc (slot * 32 + i)) 648))
  let fl := packLanes 3 ((List.range 32).map (fun i => tget m.flags (slot * 32 + i)))
  (List.range 81).map (fun j => BitVec.ofNat 256 (cat >>> (256 * j))) ++ [BitVec.ofNat 256 fl]

/-- The tokens of a rounding drain and the conversions it makes (R121, R135). -/
def Mxc.drainToks (m : Mxc) (narrow : Bool) (rows fmt : Nat) (rtz sat : Bool) : List Payload × List Conv × Nat :=
  let rowVals := fun s => (List.range 32).map (fun i => m.lane narrow (s * 32 + i))
  if fmt == 0x1F then ((List.range rows).flatMap (fun s => m.exportSlot s), [], 0)
  else if isMx fmt then
    let bs := (List.range rows).map (fun s => mxBlock fmt rtz (rowVals s))
    let sw := packLanes 8 (bs.map (fun x => x.1))
    let bad := (bs.filter (fun x => x.2.2)).length
    let codes := bs.map (fun x => x.2.1.map (fun c => c.code))
    let toks := if fmtWidth fmt == 4 then (chunks 2 rows codes).map (fun p => packLanes 4 p.flatten)
                else codes.map (packLanes (fmtWidth fmt))
    (BitVec.ofNat 256 sw :: toks.map (BitVec.ofNat 256), bs.flatMap (fun x => x.2.1), bad)
  else
    let cs := (List.range rows).map (fun s => (rowVals s).map (drainConv fmt rtz sat))
    let w := fmtWidth fmt
    let toks :=
      if w == 4 then (chunks 2 rows cs).map (fun p => packLanes 4 (p.flatten.map (fun c => c.code)))
      else if w ≤ 8 then cs.map (fun r => packLanes w (r.map (fun c => c.code)))
      else cs.flatMap (fun r => (chunks (256 / w) 32 r).map (fun p => packLanes w (p.map (fun c => c.code))))
    (toks.map (BitVec.ofNat 256), cs.flatten, 0)

/-- Adds segment `seg` of an export into a slot: the bits it holds of each lane's 648, modulo 2^648 (R122). -/
def Mxc.importSeg (m : Mxc) (slot seg : Nat) (tok : Nat) : Mxc :=
  if seg == 81 then
    (List.range 32).foldl (fun m i =>
      { m with flags := tset m.flags (slot * 32 + i) (tget m.flags (slot * 32 + i) ||| bits tok (3 * i + 2) (3 * i)) }) m
  else
    (List.range 32).foldl (fun m i =>
      let lo := max (256 * seg) (648 * i)
      let hi := min (256 * seg + 255) (648 * i + 647)
      if hi < lo then m
      else
        let piece := bits tok (hi - 256 * seg) (lo - 256 * seg)
        let key := slot * 32 + i
        { m with acc := tset m.acc key (sext (ofInt (tget m.acc key) 648 + piece * 2 ^ (lo - 648 * i)) 648) }) m

/-- The cell with every lane at zero (R120). -/
def Mxc.zeroed (m : Mxc) : Mxc := { m with acc := [], fp := [], flags := [], lastIn := false, imp := [] }

end Sys2Proof.Machine
end

