-- ==== Sys2Proof/Machine/Special.lean ====
section
/-!
DEFINITION. The special functions of the function cells (R152 to R155). The exact result is formed to 400 binary
places; where the spec allows an error, the code written is one of those within the bound, picked by an open choice.
-/
namespace Sys2Proof.Machine

/-- Binary places of the fixed-point approximations. -/
def fxP : Nat := 400
/-- 1 in fixed point. -/
def fxOne : Nat := 2 ^ fxP

/-- Σ_{k ≤ n} r^k / k! in fixed point, from the term `t` of index `k` on (fuel `n`). -/
def fxExpSum (r t k : Nat) : Nat → Nat
  | 0 => t
  | n + 1 => t + fxExpSum r (t * r / (fxOne * (k + 1))) (k + 1) n

/-- Σ z^(2k+1) / (2k+1) in fixed point: atanh z for z < 1/2 (fuel). -/
def fxAtanhSum (z2 t k : Nat) : Nat → Nat
  | 0 => t / k
  | n + 1 => t / k + fxAtanhSum z2 (t * z2 / fxOne) (k + 2) n

/-- ln 2 = 2 atanh(1/3) in fixed point. -/
def fxLn2 : Nat := 2 * fxAtanhSum (fxOne / 9) (fxOne / 3) 1 140

/-- arctan(1/n) in fixed point, as the difference of the positive and the negative terms (fuel). -/
def fxAtanInv (n : Nat) (t k : Nat) (neg : Bool) : Nat → Int
  | 0 => 0
  | f + 1 => (if neg then -((t / k : Nat) : Int) else (t / k : Nat)) + fxAtanInv n (t / (n * n)) (k + 2) (!neg) f

/-- π in fixed point (Machin). -/
def fxPi : Nat := (4 * (4 * fxAtanInv 5 (fxOne / 5) 1 false 200 - fxAtanInv 239 (fxOne / 239) 1 false 60)).toNat

/-- exp of a fraction: an approximation m × 2^e with m in fixed point. Beyond ±4000 the result is far outside every
format and stands as 2^±6000. -/
def approxExp (neg : Bool) (p q : Nat) : Nat × Int :=
  if 4000 * q < p then (fxOne, if neg then -6000 else 6000)
  else
    let x : Int := sgn neg (p * fxOne / q)
    let k : Int := x / (fxLn2 : Int)
    let r : Nat := (x - k * (fxLn2 : Int)).toNat
    (fxExpSum r fxOne 0 120, k)

/-- The fraction m / 2^fxP × 2^e. -/
def fxFrac (m : Nat) (e : Int) : Nat × Nat :=
  if 0 ≤ e then (m * 2 ^ e.toNat, fxOne) else (m, fxOne * 2 ^ (-e).toNat)

/-- logistic of a fraction as a fraction. -/
def approxLogistic (neg : Bool) (p q : Nat) : Nat × Nat :=
  let (m, e) := approxExp true p q
  let (a, b) := fxFrac m e
  if neg then (a, a + b) else (b, a + b)

/-- |ln| of a positive fraction, with its sign. -/
def approxLn (p q : Nat) : Bool × Nat × Nat :=
  let e := ilog2 p q
  -- u = p / (q 2^e) in [1, 2), ln u = 2 atanh((u - 1) / (u + 1))
  let (a, b) := if 0 ≤ e then (p, q * 2 ^ e.toNat) else (p * 2 ^ (-e).toNat, q)
  let z := (a - b) * fxOne / (a + b)
  let l : Int := e * (fxLn2 : Int) + 2 * (fxAtanhSum (z * z / fxOne) z 1 140 : Nat)
  (l < 0, l.natAbs, fxOne)

/-- Newton's steps from a value not below the root, while they fall (fuel). -/
def rootFrom (n : Nat) : Nat → Nat → Nat
  | 0, g => g
  | f + 1, g =>
    let h := (g + n / g) / 2
    if h < g then rootFrom n f h else g

/-- The integer square root, rounded down. -/
def intSqrt (n : Nat) : Nat := rootFrom n (Nat.log2 n + 2) (2 ^ (Nat.log2 n / 2 + 1))

/-- Square root of a positive fraction: exact where it is rational, else to 400 places. -/
def approxSqrt (p q : Nat) : Nat × Nat :=
  let r := intSqrt (p * q)
  if r * r == p * q then (r, q) else (intSqrt (p * q * fxOne * fxOne), q * fxOne)

/-- What a function gives: a value exact or approximate, and whether a domain error is counted (R153, R154). -/
structure FnVal where
  v : Num
  exact : Bool
  domain : Bool
deriving DecidableEq, Repr, Inhabited

def FnVal.ex (v : Num) : FnVal := { v := v, exact := true, domain := false }
def FnVal.ap (v : Num) : FnVal := { v := v, exact := false, domain := false }
def FnVal.bad : FnVal := { v := .nan, exact := true, domain := true }

/-- x logistic(u) for the two functions of that form. -/
def gate (neg : Bool) (p q : Nat) (un : Bool) (up uq : Nat) : FnVal :=
  let (a, b) := approxLogistic un up uq
  FnVal.ap (.fin neg (p * a) (q * b))

/-- The functions by code (R153, R154). -/
def fnValue (fn : Nat) (x : Num) : FnVal :=
  match fn, x with
  | 0x00, v => FnVal.ex v
  | _, .nan => FnVal.ex .nan
  | 0x01, .inf n => FnVal.ex (.fin n 1 1)
  | 0x01, .fin n p q =>
    if p == 0 then FnVal.ex (.fin n 0 1)
    else
      let (m, e) := approxExp true (2 * p) q
      let (a, b) := fxFrac m e
      FnVal.ap (.fin n (b - a) (b + a))
  | 0x02, .inf n => FnVal.ex (if n then Num.zero else .fin false 1 1)
  | 0x02, .fin n p q =>
    if p == 0 then FnVal.ex (.fin false 1 2)
    else
      let (a, b) := approxLogistic n p q
      FnVal.ap (.fin false a b)
  | 0x03, .inf n => FnVal.ex (if n then Num.zero else .inf false)
  | 0x03, .fin n p q =>
    if p == 0 then FnVal.ex (.fin false 1 1)
    else
      let (m, e) := approxExp n p q
      let (a, b) := fxFrac m e
      FnVal.ap (.fin false a b)
  | 0x04, .inf n => if n then FnVal.bad else FnVal.ex (.inf false)
  | 0x04, .fin n p q =>
    if p == 0 then FnVal.ex (.inf true)
    else if n then FnVal.bad
    else if p == q then FnVal.ex Num.zero
    else
      let (ln, a, b) := approxLn p q
      FnVal.ap (.fin ln a b)
  | 0x05, .inf n => FnVal.ex (.fin n 0 1)
  | 0x05, .fin n p q => FnVal.ex (if p == 0 then .inf n else .fin n q p)
  | 0x06, .inf n => if n then FnVal.bad else FnVal.ex Num.zero
  | 0x06, .fin n p q =>
    if p == 0 then FnVal.ex (.inf n)
    else if n then FnVal.bad
    else
      let (a, b) := approxSqrt q p
      if a * a * p == b * b * q then FnVal.ex (.fin false a b) else FnVal.ap (.fin false a b)
  | 0x07, .inf n => if n then FnVal.bad else FnVal.ex (.inf false)
  | 0x07, .fin n p q =>
    if p == 0 then FnVal.ex (.fin n 0 1)
    else if n then FnVal.bad
    else
      let (a, b) := approxSqrt p q
      FnVal.ex (.fin false a b)
  | 0x08, .inf n => FnVal.ex (if n then .fin true 0 1 else .inf false)
  | 0x08, .fin n p q =>
    if p == 0 then FnVal.ex (.fin n 0 1)
    else
      -- 2 √(2/π) (x + 0.044715 x³)
      let root := intSqrt (2 * fxOne * fxOne * fxOne / fxPi)
      gate n p q n (2 * root * (p * (1000000 * q * q + 44715 * p * p))) (fxOne * (1000000 * q * q * q))
  | 0x09, .inf n => FnVal.ex (if n then .fin true 0 1 else .inf false)
  | 0x09, .fin n p q => if p == 0 then FnVal.ex (.fin n 0 1) else gate n p q n p q
  | 0x0A, .inf n => FnVal.ex (if n then Num.zero else .inf false)
  | 0x0A, .fin n p q => FnVal.ex (if n then Num.zero else .fin n p q)
  | _, v => FnVal.ex v

/-- Error bound of a function for an input and an output width, in thousandths of an ulp (R153). -/
def ulpBound (fn : Nat) (x : Num) (width : Nat) : Nat :=
  let lt := fun (p q : Nat) => x.abs.lt (.fin false p q)
  let gt := fun (p q : Nat) => (Num.fin false p q).lt x.abs
  let neg := x.lt Num.zero
  let pick := fun (a b c : Nat) => if width == 32 then a else if width == 16 then b else c
  match fn with
  | 0x01 => pick (if lt 55 100 then 1500 else 1000) 502 501
  | 0x02 => pick (if neg && gt 16 1 then 2000 else 1000) 502 501
  | 0x03 => pick 1000 502 501
  | 0x04 => if !lt 1 2 && lt 2 1 then pick 1500 504 501 else pick 1000 502 501
  | 0x06 => pick 1000 502 501
  | 0x08 =>
    if neg && gt 3 1 && !gt 9 1 then pick 4000 510 502
    else pick 2000 504 501
  | 0x09 => pick 1500 504 501
  | _ => 500

/-- The codes of magnitudes within `bound` thousandths of an ulp of p / q in a floating-point format. -/
def FFmt.within (f : FFmt) (bound p q : Nat) : List Nat :=
  let e := max (ilog2 p q) (1 - (f.bias : Int))
  let sh : Int := (f.man : Int) - e
  -- y in units of ulp / 2
  let (a, b) := if 0 ≤ sh then (2 * p * 2 ^ sh.toNat, q) else (2 * p, q * 2 ^ (-sh).toNat)
  let n := a / b
  ((List.range 24).filterMap (fun i =>
    let k := n + i
    if k < 11 then none
    else
      let h := k - 11
      let dist := if h * b ≤ a then a - h * b else h * b - a
      if dist * 1000 ≤ 2 * bound * b then
        let (u, v) := if 0 ≤ sh then (h, 2 * 2 ^ sh.toNat) else (h * 2 ^ (-sh).toNat, 2)
        let c := f.roundMag false u v
        if f.roundMag true u v == c && (f.decode (c % 2 ^ (f.width - 1))).abs != .nan
          && c ≤ f.maxCode && (match f.decode c with
            | .fin _ x y => x * v == u * y
            | _ => false) then some c else none
      else none)).eraseDups

/-- A value converted into a format within an error bound: correctly rounded where the bound is 500 thousandths or
the value is exact and representable, else a code within the bound, picked by open choice number `free` (R152). -/
def boundedConv (fmt : Nat) (rtz sat : Bool) (v : Num) (exact : Bool) (bound free : Nat) : Conv :=
  match fmtOf fmt, v with
  | some (.flt f), .fin neg p q =>
    let c0 := f.convert false sat v
    if p == 0 || bound ≤ 500 || (exact && (f.decode c0.code).same v) || f.maxCode < f.roundMag false p q then
      (if f.maxCode < f.roundMag false p q then f.convert rtz sat (.fin neg (2 ^ 4000) 1) else c0)
    else
      match f.within bound p q with
      | [] => c0
      | l => { code := (if neg then 2 ^ (f.width - 1) else 0) + l.getD (Config.freeNat free % l.length) 0,
               sat := false, lost := false }
  | some (.int w frac), .fin _ p q =>
    let c0 := convertInt false w frac v
    let c1 := convertInt true w frac v
    -- both neighbours lie within the bound only near a tie
    let r := (p * 2 ^ frac) % q
    let dist := if 2 * r ≤ q then r else q - r
    if exact || bound ≤ 500 || dist * 1000 < (1000 - bound) * q then c0
    else if Config.freeNat free % 2 == 0 then c0 else c1
  | _, _ => convertElem fmt rtz sat v

/-- c × f(x) written in a format under the bound of the function (R153 to R155), with whether a domain error counts. -/
def special (fn : Nat) (x c : Num) (fmt : Nat) (rtz sat : Bool) (free : Nat) : Conv × Bool :=
  let r := fnValue fn x
  (boundedConv fmt rtz sat (c.mul r.v) r.exact (ulpBound fn x (fmtWidth fmt)) free, r.domain)

end Sys2Proof.Machine
end

