-- ==== Sys2Proof/Machine/Function.lean ====
section
/-!
DEFINITION. Function cells: rows and packing (R145 to R151), the arithmetic of each operation (R152 to R163, R168 to
R170) and the lookup banks (R164 to R167). The commands themselves are in FunctionCells.lean.
-/
namespace Sys2Proof.Machine

/-- A function cell's drawer. -/
def State.fx (s : State) (b site d : Nat) : Fnc := tget s.fnc (unitKey b site d)
/-- The state with it replaced. -/
def State.putFx (s : State) (b site d : Nat) (f : Fnc) : State := { s with fnc := tset s.fnc (unitKey b site d) f }

/-! ### Configuration (R146) -/

/-- The configuration of a function cell in its drawer. -/
structure FncCfg where
  op : Nat
  inFmt : Nat
  outFmt : Nat
  rtz : Bool
  sat : Bool
  src2 : Nat
  sample : Bool
  all : Bool
  fn : Nat
  in1 : Nat
  in2 : Nat
  stats : Nat
  rowSrc : Bool
  rowDim : Nat
  rowLen : Nat
  lutKind : Nat
  constLen : Nat
  c0 : Nat
  accum : Bool
deriving DecidableEq, Repr

/-- The function-cell part of a site record (R146). -/
def Drawer.fncCfg (x : Drawer) (site : Nat) : FncCfg :=
  let m := x.cfg site 1027
  let si := x.cfg site 1029
  { op := x.cfg site 1024, inFmt := x.cfg site 1025, outFmt := x.cfg site 1026, rtz := m % 4 == 1, sat := bitOf m 2,
    src2 := bits m 4 3, sample := bitOf m 5, all := bitOf m 6, fn := x.cfg site 1028, in1 := bits si 2 0,
    in2 := bits si 5 3, stats := x.cfg site 1030, rowSrc := bitOf (x.cfg site 1031) 0,
    rowDim := bits (x.cfg site 1031) 5 1, rowLen := x.cfgN site 1032 4, lutKind := x.cfg site 1036,
    constLen := x.cfgN site 1038 2, c0 := x.cfgN site 1040 4, accum := bitOf (x.cfg site 1044) 0 }

/-- BIAS[i] of a site (R146). -/
def Drawer.bias (x : Drawer) (site i : Nat) : Nat := x.cfgN site (2048 + 4 * i) 4
/-- SCALE[i] of a site (R146). -/
def Drawer.scale (x : Drawer) (site i : Nat) : Nat := x.cfgN site (3072 + 4 * i) 4

/-- The extent of shape-map entry `e` as SHAPE fragments [11:0], [23:12], [31:24] gave it (R184). -/
def fragExtent (frags : List Nat) (e : Nat) : Nat :=
  frags.getD (3 * e) 0 % 4096 + 4096 * (frags.getD (3 * e + 1) 0 % 4096) + 2 ^ 24 * (frags.getD (3 * e + 2) 0 % 256)

/-- Row length in elements: fixed, or the run-time extent of entry ROW_DIM as the cell's shape burst gave it (R149). -/
def State.rowLength (s : State) (b site ctx : Nat) (c : FncCfg) : Nat :=
  if (s.drawer b ctx).runRows site then fragExtent (tget s.src (unitKey b site ctx)).frags c.rowDim else c.rowLen

/-! ### Emission (R145, R149, R151) -/

/-- Adds output element codes of one pair to the packing buffer, cutting off full tokens of `e` elements: tokens with
their liveness, and what is left over (fuel: elements). -/
def packOut (e w : Nat) (live : Bool) : Nat → List Nat → Bool → List (Payload × Bool) × List Nat × Bool
  | 0, l, lv => ([], l, lv || live)
  | f + 1, l, lv =>
    if e ≤ l.length then
      let r := packOut e w live f (l.drop e) false
      ((BitVec.ofNat 256 (packLanes w (l.take e)), lv || live) :: r.1, r.2)
    else ([], l, if l.isEmpty then false else lv || live)

/-- The cell emits tokens on its output; the last of them carries LAST if `last` is set. -/
def Site.emitToks (x : Site) (ctx : Nat) : List (Payload × Bool) → Bool → Site
  | [], _ => x
  | [t], last => x.emitD 4 ctx t.1 last t.2
  | t :: r, last => Site.emitToks (x.emitD 4 ctx t.1 false t.2) ctx r last

/-- What one pair of a row adds: the row's state after it, its elements' positions and whether the row ends. -/
structure RowStep where
  first : Bool
  from_ : Nat
  count : Nat
  ends : Bool
  short : Bool
deriving DecidableEq, Repr

/-- The step of a row of length `len` by one token of `e` elements (R149). -/
def rowStep (f : Fnc) (len e : Nat) (last : Bool) : RowStep :=
  let n := min e (len - f.pos)
  { first := !f.openRow, from_ := f.pos, count := n, ends := last || len ≤ f.pos + e,
    short := last && f.pos + e < len }

/-- The row's bookkeeping after a pair. -/
def Fnc.advance (f : Fnc) (r : RowStep) (e : Nat) (live : Bool) (sc : Payload) : Fnc :=
  { f with
    pos := f.pos + e
    live := f.live + (if live then r.count else 0)
    anyLive := f.anyLive || live
    openRow := true
    sc0 := if r.first then sc.toNat % 2 ^ 32 else f.sc0
    sc1 := if r.first then bits sc.toNat 63 32 else f.sc1 }

/-- A new row: position and accumulators cleared (R160). -/
def Fnc.newRow (f : Fnc) : Fnc :=
  { f with pos := 0, live := 0, anyLive := false, openRow := false, sum := 0, sumsq := 0, flags := 0, maxv := none,
           esum := 0, pack := [], packLive := false }

/-! ### Element arithmetic -/

/-- What an element gives: a conversion and whether FNC_DOMAIN counts it. -/
abbrev ElemOut := Conv × Bool

/-- FUSE of the element at row position `e` with second-input lane value `y` (R155). -/
def fuseElem (d : Drawer) (site : Nat) (c : FncCfg) (sc0 sc1 e free : Nat) (x y : Num) : ElemOut :=
  let i := e % max 1 c.constLen
  let bias := match c.src2 with
    | 1 => y
    | 3 => (ofFp32 sc0).neg
    | _ => ofFp32 (d.bias site i)
  let sc := match c.src2 with
    | 2 => y
    | 3 => ofFp32 sc1
    | _ => ofFp32 (d.scale site i)
  special c.fn (ofFp32 (toFp32 (x.add bias))) sc c.outFmt c.rtz c.sat free

/-- SMAX_EXP of an element under the row maximum m (R157, R159). -/
def smaxExp (c : FncCfg) (m x : Num) (free : Nat) : ElemOut :=
  let out := fun (v : Num) => (convertElem c.outFmt c.rtz c.sat v, false)
  match m, x with
  | .nan, _ => out .nan
  | _, .nan => out .nan
  | .inf false, .inf false => out (.fin false 1 1)
  | .inf false, _ => out Num.zero
  | .inf true, .inf true => out Num.zero
  | _, _ =>
    let d := x.add m.neg
    if d.lt (.fin true 128 1) then out Num.zero
    else ((special 0x03 d (.fin false 1 1) c.outFmt c.rtz c.sat free).1, false)

/-- SMAX_DIV of an element by the row sum (R158, R159). -/
def smaxDiv (c : FncCfg) (sum e : Num) : ElemOut :=
  (convertElem c.outFmt c.rtz c.sat (if sum.isZero && e.isZero then Num.zero else e.div sum), false)

/-- The 32-bit word at byte `o` of a lookup bank. -/
def Lut.word (l : Lut) (o : Nat) : Nat :=
  bits (tget l.toks (o / 32)).toNat (8 * (o % 32) + 31) (8 * (o % 32))

/-- Codebook lookup of index `i` (R167). -/
def Lut.codebook (l : Lut) (c : FncCfg) (i : Nat) : ElemOut :=
  if l.count ≤ i then (convertElem c.outFmt c.rtz c.sat Num.zero, true)
  else (convertElem c.outFmt c.rtz c.sat (ofFp32 (l.word (4 * i))), false)

/-- Piecewise lookup of x (R167). -/
def Lut.piecewise (l : Lut) (c : FncCfg) (x : Num) : ElemOut :=
  let bk := fun k => ofFp32 (l.word (16 * k))
  let k := (List.range l.count).foldl (fun a k => if bk k == .nan || x.lt (bk k) then a else k) 0
  let r := fun (v : Num) => ofFp32 (toFp32 v)
  let w := fun j => ofFp32 (l.word (16 * k + 4 * j))
  match x with
  | .nan => (convertElem c.outFmt c.rtz c.sat .nan, false)
  | _ =>
    let d := r (x.add (bk k).neg)
    let t := r ((w 2).add (r ((w 3).mul d)))
    (convertElem c.outFmt c.rtz c.sat (r ((w 1).add (r (d.mul t)))), false)

/-- The bank that is LIVE, if any (R166). -/
def Fnc.liveLut (f : Fnc) : Option Lut :=
  if f.lut0.st == .live then some f.lut0 else if f.lut1.st == .live then some f.lut1 else none

/-! ### Row accumulators (R156, R157, R160) -/

/-- A finite value in units of 2^-149. -/
def unitsOf (v : Num) : Int :=
  match v with
  | .fin n p q => sgn n (p * 2 ^ 149 / q)
  | _ => 0

/-- Adds one element to the row's flags, maximum, SUM and SUMSQ. -/
def Fnc.take (f : Fnc) (v : Num) : Fnc :=
  match v with
  | .nan => { f with flags := f.flags ||| 4 }
  | .inf false => { f with flags := f.flags ||| 2 }
  | .inf true => { f with flags := f.flags ||| 1 }
  | .fin _ _ _ =>
    let u := unitsOf v
    { f with sum := f.sum + u, sumsq := f.sumsq + u.natAbs * u.natAbs,
             maxv := some (match f.maxv with | none => u | some m => max m u) }

/-- The row maximum as an FP32 code (R156, R159). -/
def Fnc.maxCode (f : Fnc) : Nat :=
  if bitOf f.flags 2 then 0x7FC00000
  else if bitOf f.flags 1 then 0x7F800000
  else match f.maxv with
    | none => 0xFF800000
    | some m => toFp32 (Num.ofInt m (2 ^ 149))

/-- The exact sum of the exponentials as written, rounded once to FP32 (R157). -/
def Fnc.sumCode (f : Fnc) : Nat :=
  if bitOf f.flags 2 then 0x7FC00000
  else if bitOf f.flags 1 then 0x7F800000
  else toFp32 (Num.ofInt f.sum (2 ^ 149))

/-- The five statistics of a row, each with whether it is selected by its STATS bit: SUM, MEAN, VAR, SUMSQ, RSTD
(R161, R162). -/
def Fnc.statConvs (f : Fnc) (c : FncCfg) (free : Nat) : List Conv :=
  let n := f.live
  let nan := bitOf f.flags 2 || (bitOf f.flags 1 && bitOf f.flags 0)
  let up := bitOf f.flags 1
  let down := bitOf f.flags 0
  let inf := fun (neg : Bool) (v : Num) =>
    if nan then Num.nan else if up then .inf false else if down then .inf neg else v
  let d : Nat := n * f.sumsq - (f.sum * f.sum).toNat
  let var : Num :=
    if nan || up || down then .nan
    else if n == 0 then Num.zero
    else if c.sample then (if n == 1 then Num.zero else .fin false d (n * (n - 1) * 2 ^ 298))
    else .fin false d (n * n * 2 ^ 298)
  let mean := inf true (if n == 0 then Num.zero else Num.ofInt f.sum (n * 2 ^ 149))
  let conv := convertElem c.outFmt c.rtz c.sat
  let pick := fun (i : Nat) (v : Conv) => if bitOf c.stats i then [v] else []
  pick 0 (conv (inf true (Num.ofInt f.sum (2 ^ 149))))
  ++ pick 1 (conv mean)
  ++ pick 2 (conv var)
  ++ pick 3 (conv (inf false (.fin false f.sumsq (2 ^ 298))))
  ++ pick 4 (special 0x06 (ofFp32 (toFp32 (var.add (ofFp32 c.c0)))) (.fin false 1 1) c.outFmt c.rtz c.sat free).1

/-! ### Slicing (R138, R141, R170) -/

/-- The smallest integer E with magnitude below 2^E, for a magnitude in units of 2^-1074 (R138). -/
def sliceExp (mag : Nat) : Int := if mag == 0 then -1074 else (Nat.log2 mag : Int) + 1 - 1074

/-- The balanced digits of an integer, lowest first (R138). -/
def balanced (v : Int) : Nat → List Int
  | 0 => []
  | 1 => [v]
  | k + 1 =>
    let d := sext (ofInt v 8) 8
    d :: balanced ((v - d) / 256) k

/-- RNE(a × 2^(54 - E)) (R138). -/
def sliceInt (a : Num) (e : Int) : Int :=
  match a.scale (54 - e) with
  | .fin n p q => sgn n (roundNat false p q)
  | _ => 0

/-- The seven INT8 tokens of a group of up to 32 elements, digits s = 0 to 6 (R170). -/
def sliceToks (vs : List Int) : List Payload :=
  (List.range 7).map (fun s =>
    BitVec.ofNat 256 (packLanes 8 (vs.map (fun v => ofInt ((balanced v 7).getD (6 - s) 0) 8))))

end Sys2Proof.Machine
end

