-- ==== Sys2Proof/Machine/MatrixCells.lean ====
section
/-!
DEFINITION. The commands of the matrix cells: MXC_MAC, MXC_SCALE, MXC_IMPORT and the four drains (R116 to R142), with
the edging chain that takes a drain while it runs (R174).
-/
namespace Sys2Proof.Machine

/-- S_IN of a unit: first and second streamed input (R117, R146). -/
def Drawer.sIn1 (x : Drawer) (site : Nat) : Nat := x.cfg site 1029 % 8
def Drawer.sIn2 (x : Drawer) (site : Nat) : Nat := x.cfg site 1029 / 8 % 8

/-- A compute pair of a matrix cell under GO variant `arg` fires (R116 to R131, R142, R204). -/
def macPair (s : State) (b site : Nat) (sl : Slot) (annul : Bool) (arg : Nat) : State :=
  let d := s.drawer b sl.ctx
  let m := s.mx b site sl.ctx
  let sFmt := d.cfg site 1024
  let wFmt := d.cfg site 1025
  let c := mxcClass wFmt
  let mem := d.member site
  let block := bits arg 9 5
  let slot := bits arg 4 0
  let toks := if fmtWidth sFmt == 6 then [sl.on (d.sIn1 site), sl.on (d.sIn2 site)] else [sl.on (d.sIn1 site)]
  let last := toks.any (fun t => t.last)
  let count := match mem with
    | some e => min e.blocks c.blocks
    | none => c.blocks
  let after := fun (m : Mxc) => { m with
    since := m.since + 1
    tile := if last then m.tile + 1 else m.tile
    lastIn := m.lastIn || last }
  if annul || !sl.live then
    (s.putSite b site ((s.site b site).fired sl)).putMx b site sl.ctx (after m)
  else if count ≤ block || d.cfg site 1028 ≤ slot || (isMx sFmt && m.scale.isNone)
      || (tfind m.imp slot).isSome then s.faultCtx b site sl.ctx stProtocol
  else if !blockReady mem m block then s.bump 0x3123 (b + 1) 1
  else
    let phys := (match mem with | some e => e.half m.tile | none => 0) + block
    let m' := m.mac wFmt sFmt phys slot (streamed m sFmt (toks.map (fun t => t.pay.toNat)))
    (s.putSite b site ((s.site b site).fired sl)).putMx b site sl.ctx (after m')

/-- A SCALE pair: the first input's token is the scale word for the element pairs that follow (R118, R127, R142). One
whose slot lies at or above ROWS, or between the IMPORT pairs of its slot, faults the context (R122). -/
def scalePair (s : State) (b site : Nat) (sl : Slot) (annul : Bool) (arg : Nat) : State :=
  let d := s.drawer b sl.ctx
  let m := s.mx b site sl.ctx
  let t := sl.on (d.sIn1 site)
  let m1 := { m with tile := if t.last then m.tile + 1 else m.tile, lastIn := m.lastIn || t.last }
  if !annul && t.pv && (d.cfg site 1028 ≤ bits arg 4 0 || (tfind m.imp (bits arg 4 0)).isSome) then
    s.faultCtx b site sl.ctx stProtocol
  else
    (s.putSite b site ((s.site b site).fired sl)).putMx b site sl.ctx
      (if annul || !t.pv then m1 else { m1 with scale := some t.pay, since := 0 })

/-- An IMPORT pair adds one exported segment into a slot (R122, R142). Pairs for other slots may come between, and an
annulled pair is no segment (DESIGN CHOICE, log 89). -/
def importPair (s : State) (b site : Nat) (sl : Slot) (annul : Bool) (arg : Nat) : State :=
  let d := s.drawer b sl.ctx
  let m := s.mx b site sl.ctx
  let t := sl.on (d.sIn1 site)
  let slot := bits arg 4 0
  let seg := tget m.imp slot
  let m1 := { m with tile := if t.last then m.tile + 1 else m.tile, lastIn := m.lastIn || t.last }
  if annul || !t.pv then (s.putSite b site ((s.site b site).fired sl)).putMx b site sl.ctx m1
  else if !(mxcClass (d.cfg site 1025)).narrow || d.cfg site 1028 ≤ slot then s.faultCtx b site sl.ctx stProtocol
  else
    let m2 := m1.importSeg slot seg t.pay.toNat
    (s.putSite b site ((s.site b site).fired sl)).putMx b site sl.ctx
      { m2 with imp := if seg == 81 then tdel m2.imp slot else tset m2.imp slot (seg + 1) }

/-- A matrix-cell pair under a GO variant: both IMPORT and SCALE fault (R118). -/
def mxcPair (s : State) (b site : Nat) (sl : Slot) (annul : Bool) (arg : Nat) : State :=
  if bitOf arg 11 && bitOf arg 10 then s.faultCtx b site sl.ctx stProtocol
  else if bitOf arg 11 then importPair s b site sl annul arg
  else if bitOf arg 10 then scalePair s b site sl annul arg
  else macPair s b site sl annul arg

/-- The chosen pair of a matrix cell, if it is governed by GO, with its argument. -/
def State.goPair (s : State) (b site : Nat) : Option (Slot × Nat) :=
  match s.choose b site with
  | none => none
  | some sl => match sl.ctl with
    | none => none
    | some c => if cOpc c == opcGo then some (sl, cArg c) else none

/-- MXC_MAC: a GO pair with neither IMPORT nor SCALE set. -/
def opMxcMac (bay row col : Nat) (s : State) : State :=
  match s.goPair bay (siteNo row col) with
  | some (sl, arg) =>
    if siteKind row col == .mxc && !bitOf arg 11 && !bitOf arg 10 then mxcPair s bay (siteNo row col) sl false arg else s
  | none => s

def execMxcMac (bay row col : Nat) (s : State) : Outcome := onUnit (siteOk bay row col) (opMxcMac bay row col) s

/-- MXC_SCALE: a GO pair with SCALE set (with IMPORT set too it faults, R118). -/
def opMxcScale (bay row col : Nat) (s : State) : State :=
  match s.goPair bay (siteNo row col) with
  | some (sl, arg) =>
    if siteKind row col == .mxc && bitOf arg 10 then mxcPair s bay (siteNo row col) sl false arg else s
  | none => s

def execMxcScale (bay row col : Nat) (s : State) : Outcome := onUnit (siteOk bay row col) (opMxcScale bay row col) s

/-- MXC_IMPORT: a GO pair with IMPORT set (with SCALE set too it faults, R118). -/
def opMxcImport (bay row col : Nat) (s : State) : State :=
  match s.goPair bay (siteNo row col) with
  | some (sl, arg) =>
    if siteKind row col == .mxc && bitOf arg 11 then mxcPair s bay (siteNo row col) sl false arg else s
  | none => s

def execMxcImport (bay row col : Nat) (s : State) : Outcome := onUnit (siteOk bay row col) (opMxcImport bay row col) s

/-! ### Drains (R120, R121) -/

/-- What the edging chain makes of a lane: EDGE_SCALE × f(RNE_FP32(x + EDGE_BIAS)), converted once (R174). -/
def State.edgeLane (s : State) (v : Num) : Conv :=
  let x := ofFp32 (toFp32 (v.add (ofFp32 (s.obj 0x2C10 3))))
  (special (s.obj 0x2C10 2) x (ofFp32 (s.obj 0x2C10 4)) (s.obj 0x2C10 5) false false s.free).1

/-- The bytes an edging drain delivers to the service buffer, 4 KiB of it (R174). -/
def State.edgeDrain (s : State) (b : Nat) (m : Mxc) (narrow : Bool) (rows : Nat) : State :=
  let fmt := s.obj 0x2C10 5
  let cs := (List.range (rows * 32)).map (fun k => s.edgeLane (m.lane narrow k))
  let bs := cs.flatMap (fun c => leBytes c.code (fmtWidth fmt / 8))
  let s1 := { s with service := tset s.service (b / 4) ((tget s.service (b / 4) ++ bs).take 4096) }
  (s1.countConv b fmt cs).tick

/-- A drain of a mode takes effect at a matrix cell (R120 to R122). -/
def drainCell (s : State) (b site input : Nat) (t : CTok) : State :=
  let ctx := cCtx t
  let mode := bits (cArg t) 3 0
  let d := s.drawer b ctx
  let m := s.mx b site ctx
  let narrow := (mxcClass (d.cfg site 1025)).narrow
  let fmt := d.cfg site 1026
  let rtz := d.cfg site 1027 % 4 == 1
  let sat := bitOf (d.cfg site 1027) 2
  let rows := d.cfg site 1028
  let s1 := s.popC b site input
  let out := fun (st : State) (ps : List Payload) =>
    st.putSite b site ((st.site b site).emitMany 4 ctx ps m.lastIn true)
  match mode with
  | 0 =>
    if s.edging b then (s1.edgeDrain b m narrow (if rows == 0 then 32 else rows)).putMx b site ctx m.zeroed
    else
      let r := m.drainToks narrow rows fmt rtz sat
      (((out s1 r.1).countConv b fmt r.2.1).bump 0x3112 (b + 1) r.2.2).putMx b site ctx m.zeroed
  | 1 =>
    if s.edging b then s1.edgeDrain b m narrow (if rows == 0 then 32 else rows)
    else
      let r := m.drainToks narrow rows fmt rtz sat
      (((out s1 r.1).countConv b fmt r.2.1).bump 0x3112 (b + 1) r.2.2).putMx b site ctx { m with lastIn := false }
  | 2 =>
    if fmt != 0x1F || !narrow then s.faultCtx b site ctx stProtocol
    else if s.edging b then (s1.edgeDrain b m narrow rows).putMx b site ctx m.zeroed
    else (out s1 ((List.range rows).flatMap (fun k => m.exportSlot k))).putMx b site ctx m.zeroed
  | 3 => s1.putMx b site ctx m.zeroed
  | _ => s.faultCtx b site ctx stProtocol

/-- The DRAIN token of a mode at the head of a control queue, if it is due (R44, R120). -/
def drainHead (b row col input mode : Nat) (s : State) : State :=
  let site := siteNo row col
  match s.headC b site input with
  | none => s
  | some t =>
    if cOpc t == opcDrain && siteKind row col == .mxc && bits (cArg t) 3 0 == mode && s.seqDue b site input t then
      drainCell s b site input t
    else s

def execDrainRoundClear (bay row col input : Nat) (s : State) : Outcome :=
  onUnit (siteOk bay row col && input < 5) (drainHead bay row col input 0) s

def execDrainRoundKeep (bay row col input : Nat) (s : State) : Outcome :=
  onUnit (siteOk bay row col && input < 5) (drainHead bay row col input 1) s

def execDrainExportClear (bay row col input : Nat) (s : State) : Outcome :=
  onUnit (siteOk bay row col && input < 5) (drainHead bay row col input 2) s

def execDrainClear (bay row col input : Nat) (s : State) : Outcome :=
  onUnit (siteOk bay row col && input < 5) (drainHead bay row col input 3) s

end Sys2Proof.Machine
end

