-- ==== Sys2Proof/Machine/FunctionCells.lean ====
section
/-!
DEFINITION. The commands of the function cells: the pair operations (R147 to R170), the lookup banks (R165, R166) and
the EDGE_MODE register (R175).
-/
namespace Sys2Proof.Machine

/-! ### What a pair does -/

/-- The pair has fired at the cell: the steering unit's part, and the cell's new state. -/
def State.fncFired (s : State) (b site : Nat) (sl : Slot) (f : Fnc) : State :=
  (s.putSite b site ((s.site b site).fired sl)).putFx b site sl.ctx f

/-- Counts a pair's conversions and domain errors, and the row that LAST closed early (R143, R176). -/
def State.fncCount (s : State) (b : Nat) (c : FncCfg) (outs : List ElemOut) (short : Bool) : State :=
  (((s.countConv b c.outFmt (outs.map (fun o => o.1))).bump 0x3113 (b + 1)
    (outs.filter (fun o => o.2)).length).bump 0x3116 (b + 1) (if short then 1 else 0))

/-- The tokens that close a row of an element-wise operation: what is left in the packing buffer, or one token for a
row without elements (R149, R151). -/
def closeRow (c : FncCfg) (f : Fnc) (elems : Nat) (rest : List Nat) (lv : Bool) : List (Payload × Bool) :=
  if rest.isEmpty then (if elems == 0 then [(0, f.anyLive)] else [])
  else [(BitVec.ofNat 256 (packLanes (fmtWidth c.outFmt) rest), lv)]

/-- An element-wise pair (R145, R149 to R151). `elem` gives the result of the element at a row position from its code
in the first and its value in the second token; `acc` what the row keeps of each result; `tail` the FP32 codes, each in
a token of its own, after the row's last (R143, R157). -/
def elemPair (s : State) (b site : Nat) (sl : Slot) (annul : Bool) (c : FncCfg)
    (elem : Fnc → Nat → Nat → Num → Nat → ElemOut) (acc : Fnc → ElemOut → Fnc)
    (tail : Fnc → List (Nat × Bool)) : State :=
  let f := s.fx b site sl.ctx
  let t1 := sl.on c.in1
  let t2 := sl.on c.in2
  let live := !annul && sl.live
  let e := fmtElems c.inFmt
  let r := rowStep f (s.rowLength b site sl.ctx c) e t1.last
  let f1 := f.advance r e live t2.pay
  let xs := lanesOf c.inFmt t1.pay.toNat
  let ys := lanesOf c.inFmt t2.pay.toNat
  let outs : List ElemOut :=
    if live then (List.range r.count).map (fun i =>
      elem f1 (r.from_ + i) (xs.getD i 0) (decodeElem c.inFmt (ys.getD i 0)) (s.free + i))
    else []
  let codes := if live then outs.map (fun o => o.1.code) else List.replicate r.count 0
  let f2 := outs.foldl acc f1
  let p := packOut (fmtElems c.outFmt) (fmtWidth c.outFmt) live (codes.length + 1) (f.pack ++ codes) f.packLive
  let more := if r.ends then tail f2 else []
  let toks := if r.ends then p.1 ++ closeRow c f2 (r.from_ + r.count) p.2.1 p.2.2
      ++ more.map (fun t => ((BitVec.ofNat 256 t.1 : Payload), t.2)) else p.1
  let f3 := if r.ends then f2.newRow else { f2 with pack := p.2.1, packLive := p.2.2 }
  let s1 := s.fncFired b site sl f3
  let s2 := s1.putSite b site ((s1.site b site).emitToks sl.ctx toks t1.last)
  { ((s2.fncCount b c outs r.short).countConv b 0x0A
      ((more.filter (fun t => t.2)).map (fun t => { code := t.1, sat := false, lost := false }))) with
    free := s.free + outs.length }

/-- A pair of a row operation: each live element is taken, and at the row's end the tokens `fin` gives are emitted,
annulled when every pair of the row was (R151). -/
def rowPair (s : State) (b site : Nat) (sl : Slot) (annul : Bool) (c : FncCfg)
    (fin : Fnc → List Conv × Payload) : State :=
  let f := s.fx b site sl.ctx
  let t1 := sl.on c.in1
  let live := !annul && sl.live
  let e := fmtElems c.inFmt
  let r := rowStep f (s.rowLength b site sl.ctx c) e t1.last
  let f1 := f.advance r e live 0
  let f2 := if live then ((lanesOf c.inFmt t1.pay.toNat).take r.count).foldl
      (fun g x => g.take (decodeElem c.inFmt x)) f1 else f1
  if r.ends then
    let (cs, pay) := fin f2
    let s1 := s.fncFired b site sl f2.newRow
    let s2 := s1.putSite b site ((s1.site b site).emitD 4 sl.ctx pay t1.last f2.anyLive)
    { (s2.fncCount b c (if f2.anyLive then cs.map (fun v => (v, false)) else []) r.short) with free := s.free + 1 }
  else s.fncFired b site sl f2

/-- CONVERT (R147). -/
def convertPair (s : State) (b site : Nat) (sl : Slot) (annul : Bool) (c : FncCfg) : State :=
  elemPair s b site sl annul c
    (fun _ _ x _ _ => (convertElem c.outFmt c.rtz c.sat (decodeElem c.inFmt x), false)) (fun f _ => f) (fun _ => [])

/-- FUNC (R153). -/
def funcPair (s : State) (b site : Nat) (sl : Slot) (annul : Bool) (c : FncCfg) : State :=
  elemPair s b site sl annul c
    (fun _ _ x _ n => special c.fn (decodeElem c.inFmt x) (.fin false 1 1) c.outFmt c.rtz c.sat n)
    (fun f _ => f) (fun _ => [])

/-- FUSE (R155). -/
def fusePair (s : State) (b site : Nat) (sl : Slot) (annul : Bool) (c : FncCfg) : State :=
  let d := s.drawer b sl.ctx
  elemPair s b site sl annul c
    (fun f e x y n => fuseElem d site c f.sc0 f.sc1 e n (decodeElem c.inFmt x) y) (fun f _ => f) (fun _ => [])

/-- SELECT (R168). -/
def selectPair (s : State) (b site : Nat) (sl : Slot) (annul : Bool) (c : FncCfg) : State :=
  let m := (sl.on c.in2).pay.toNat
  let from_ := (s.fx b site sl.ctx).pos
  elemPair s b site sl annul { c with outFmt := c.inFmt }
    (fun _ e x _ _ => if bitOf m (e - from_) then ({ code := x, sat := false, lost := false }, false)
      else (convertElem c.inFmt false false (ofFp32 c.c0), false)) (fun f _ => f) (fun _ => [])

/-- LOOKUP on the bank that is LIVE when the pair fires; without one the context is faulted, but for an annulled pair,
which does nothing (R41, R167). -/
def lookupPair (s : State) (b site : Nat) (sl : Slot) (annul : Bool) (c : FncCfg) : State :=
  match (s.fx b site sl.ctx).liveLut with
  | none =>
    if annul || !sl.live then
      elemPair s b site sl true c (fun _ _ _ _ _ => ({ code := 0, sat := false, lost := false }, false))
        (fun f _ => f) (fun _ => [])
    else s.faultCtx b site sl.ctx stProtocol
  | some l =>
    elemPair s b site sl annul c
      (fun _ _ x _ _ => if c.lutKind == 1 then l.codebook c x else l.piecewise c (decodeElem c.inFmt x))
      (fun f _ => f) (fun _ => [])

/-- SMAX_MAX (R156). -/
def smaxMaxPair (s : State) (b site : Nat) (sl : Slot) (annul : Bool) (c : FncCfg) : State :=
  rowPair s b site sl annul c (fun f =>
    ([{ code := f.maxCode, sat := false, lost := false }], BitVec.ofNat 256 f.maxCode))

/-- SMAX_EXP (R157). -/
def smaxExpPair (s : State) (b site : Nat) (sl : Slot) (annul : Bool) (c : FncCfg) : State :=
  elemPair s b site sl annul c
    (fun f _ x _ n => smaxExp c (ofFp32 f.sc0) (decodeElem c.inFmt x) n)
    (fun f o => f.take (decodeElem c.outFmt o.1.code))
    (fun f => [(f.sumCode, f.anyLive)])

/-- SMAX_DIV; a row with live elements whose sum is 0 counts in SMAX_NO_FINITE (R158, R159). -/
def smaxDivPair (s : State) (b site : Nat) (sl : Slot) (annul : Bool) (c : FncCfg) : State :=
  let f := s.fx b site sl.ctx
  let r := rowStep f (s.rowLength b site sl.ctx c) (fmtElems c.inFmt) (sl.on c.in1).last
  let g := f.advance r (fmtElems c.inFmt) (!annul && sl.live) (sl.on c.in2).pay
  let s1 := elemPair s b site sl annul c
    (fun f _ x _ _ => smaxDiv c (ofFp32 f.sc0) (decodeElem c.inFmt x)) (fun f _ => f) (fun _ => [])
  if r.ends && 0 < g.live && (ofFp32 g.sc0).isZero then s1.bump 0x3115 (b + 1) 1 else s1

/-- ROWSTAT (R160 to R162). -/
def rowstatPair (s : State) (b site : Nat) (sl : Slot) (annul : Bool) (c : FncCfg) : State :=
  rowPair s b site sl annul c (fun f =>
    let cs := f.statConvs c s.free
    (cs, BitVec.ofNat 256 (packLanes (fmtWidth c.outFmt) (cs.map (fun v => v.code)))))

/-- TEST: one PRED token with the pair's CTX and the next output SEQ (R169). -/
def testPair (s : State) (b site : Nat) (sl : Slot) (p : Bool) (c : FncCfg) : State :=
  let lanes := (lanesOf c.inFmt (sl.on c.in1).pay.toNat).zip (lanesOf c.inFmt (sl.on c.in2).pay.toNat)
  let meets := fun (e : Nat × Nat) =>
    let x := decodeElem c.inFmt e.1
    let y := decodeElem c.inFmt e.2
    let dif := (x.add y.neg).abs
    x == .nan || y == .nan || (dif != .nan && ofFp32 c.c0 != .nan && !dif.lt (ofFp32 c.c0))
  let cond := if c.all then lanes.all meets else lanes.any meets
  let x := (s.site b site).fired sl
  let (n, x1) := x.nextSeq 9 sl.ctx
  s.putSite b site { x1 with owed := x1.owed ++ [(4, mkC opcPred sl.ctx n (if p && sl.live && cond then 1 else 0))] }

/-- SLICE: the exponent pass, then the digit pass (R138, R141, R170). The digits of a marked row are open. -/
def slicePair (s : State) (b site : Nat) (sl : Slot) (annul : Bool) (c : FncCfg) : State :=
  let f := s.fx b site sl.ctx
  let t1 := sl.on c.in1
  let live := !annul && sl.live
  let e := fmtElems c.inFmt
  let r := rowStep f (s.rowLength b site sl.ctx c) e t1.last
  let vs := ((lanesOf c.inFmt t1.pay.toNat).take r.count).map (decodeElem c.inFmt)
  let f1 := f.advance r e live 0
  let finish := fun (g : Fnc) (toks : List (Payload × Bool)) =>
    let s1 := s.fncFired b site sl g
    { (s1.putSite b site ((s1.site b site).emitToks sl.ctx toks t1.last)).bump 0x3116 (b + 1) (if r.short then 1 else 0)
      with free := s.free + toks.length }
  if !f.pass2 then
    let f2 := if live then { f1 with
        mag := vs.foldl (fun m v => match v with | .fin _ p q => max m (p * 2 ^ 1074 / q) | _ => m) f1.mag
        marked := f1.marked || vs.any (fun v => !v.isFin) } else f1
    if r.ends then
      let ex := if f2.marked then none else some (sliceExp f2.mag)
      finish { f2.newRow with pass2 := true, exps := ex, mag := 0, marked := f2.marked, digits := [] }
        [(BitVec.ofNat 256 (match ex with | none => 0x7FFFFFFF | some v => ofInt v 32), f2.anyLive)]
    else finish f2 []
  else
    let ds := if live then vs.map (fun v => sliceInt v (f.exps.getD 0)) else List.replicate r.count 0
    let p := packOut 32 1 live (r.count + 1) ((List.range (f.digits.length + r.count))) f.packLive
    let all := f.digits ++ ds
    let full := all.length / 32
    let groups := (List.range full).map (fun i => (all.drop (32 * i)).take 32)
    let rest := all.drop (32 * full)
    let last := if r.ends && (!rest.isEmpty || r.from_ + r.count == 0) then [(rest, p.2.2)] else []
    let gs := groups.zip (p.1.map (fun t => t.2)) ++ last
    let toks := (gs.flatMap (fun g => (sliceToks g.1).map (fun t => (t, g.2))))
    let toks' := if f.marked then
        ((List.range toks.length).zip toks).map (fun t => (Config.freePayload (s.free + t.1), t.2.2)) else toks
    finish (if r.ends then { f1.newRow with pass2 := false, exps := none, marked := false, digits := [] }
      else { f1 with digits := rest, packLive := p.2.2 }) toks'

/-- Signed 32-bit word; 0x7FFF_FFFF marks a row or column (R170). -/
def markedExp (w : Nat) : Option Int := if w == 0x7FFFFFFF then none else some (sext w 32)

/-- The FP64 result of element k of a RECOMBINE block (R139, R141, R170). -/
def recombined (f : Fnc) (accum : Bool) (k : Nat) : Conv :=
  match f.rE, f.rF.getD k (some 0) with
  | some e, some g =>
    let v := (Num.ofInt (f.rS.getD k 0) 1).scale (e + g - 108)
    let c := fp64.convert false false v
    if accum then fp64.convert false false ((fp64.decode c.code).add (fp64.decode (f.rP.getD k 0))) else c
  | _, _ => { code := 0x7FF8000000000000, sat := false, lost := false }

/-- RECOMBINE: token n of the 109 of a block (R170). -/
def recombinePair (s : State) (b site : Nat) (sl : Slot) (annul : Bool) (c : FncCfg) : State :=
  let f := s.fx b site sl.ctx
  let live := !annul && sl.live
  let t1 := sl.on c.in1
  let words := fun (w : Nat) (pay : Nat) => (List.range (256 / w)).map (fun i => bits pay (w * i + w - 1) (w * i))
  let n := f.rcount
  let pay := if live then t1.pay.toNat else 0
  let f1 := { f with anyLive := f.anyLive || live, rcount := n + 1 }
  let f2 :=
    if n == 0 then { f1 with rE := markedExp (pay % 2 ^ 32), rF := [], rS := [], rP := [] }
    else if n < 5 then { f1 with rF := f1.rF ++ (words 32 pay).map markedExp }
    else
      let u := (n - 5) / 8
      let part := (n - 5) % 8
      let add := (words 64 pay).map (fun w => sext w 64 * ((2 ^ (8 * (12 - u)) : Nat) : Int))
      let sums := if u == 0 then f1.rS ++ add
        else ((List.range f1.rS.length).zip f1.rS).map (fun e =>
          if e.1 / 4 == part then e.2 + add.getD (e.1 % 4) 0 else e.2)
      { f1 with rS := sums
                rP := if u == 12 && c.accum then f1.rP ++ words 64 (sl.on c.in2).pay.toNat else f1.rP }
  if n == 108 then
    let cs := (List.range 32).map (recombined f2 c.accum)
    let toks := (chunks 4 32 (cs.map (fun v => v.code))).map (fun l =>
      ((BitVec.ofNat 256 (packLanes 64 l) : Payload), f2.anyLive))
    let s1 := s.fncFired b site sl { f2 with rcount := 0, anyLive := false, rE := none, rF := [], rS := [], rP := [] }
    let s2 := s1.putSite b site ((s1.site b site).emitToks sl.ctx toks t1.last)
    if f2.anyLive then s2.countConv b 0x0B cs else s2
  else s.fncFired b site sl f2

/-! ### Dispatch of a pair -/

/-- A compute pair of a function cell that is not TEST. -/
def fncCompute (s : State) (b site : Nat) (sl : Slot) (annul : Bool) : State :=
  let c := (s.drawer b sl.ctx).fncCfg site
  match c.op with
  | 1 => convertPair s b site sl annul c
  | 2 => funcPair s b site sl annul c
  | 3 => fusePair s b site sl annul c
  | 4 => selectPair s b site sl annul c
  | 5 => testPair s b site sl (!annul) c
  | 6 => lookupPair s b site sl annul c
  | 7 => smaxMaxPair s b site sl annul c
  | 8 => smaxExpPair s b site sl annul c
  | 9 => smaxDivPair s b site sl annul c
  | 10 => rowstatPair s b site sl annul c
  | 11 => slicePair s b site sl annul c
  | 12 => recombinePair s b site sl annul c
  | _ => s.faultCtx b site sl.ctx stProtocol

/-- A pair at a function cell under an operation: GO compute pairs, kind and argument checked (R148). -/
def fncOp (op bay row col : Nat) (s : State) : State :=
  let site := siteNo row col
  match s.choose bay site with
  | none => s
  | some sl => match sl.ctl with
    | none => s
    | some t =>
      let arg := cArg t
      if siteKind row col != .fnc || (s.drawer bay sl.ctx).cfg site 1024 != op then s
      else if op == 0 then s.faultCtx bay site sl.ctx stProtocol
      else if cOpc t == opcPred && op == 5 then
        testPair s bay site sl (bitOf arg 0) ((s.drawer bay sl.ctx).fncCfg site)
      else if cOpc t != opcGo then s
      else if bits arg 11 10 == 1 || (bits arg 11 10 == 0 && bits arg 9 0 != 0) then
        s.faultCtx bay site sl.ctx stProtocol
      else if bits arg 11 10 == 0 then fncCompute s bay site sl false
      else s

def execFncNone (bay row col : Nat) (s : State) : Outcome := onUnit (siteOk bay row col) (fncOp 0 bay row col) s
def execConvert (bay row col : Nat) (s : State) : Outcome := onUnit (siteOk bay row col) (fncOp 1 bay row col) s
def execFunc (bay row col : Nat) (s : State) : Outcome := onUnit (siteOk bay row col) (fncOp 2 bay row col) s
def execFuse (bay row col : Nat) (s : State) : Outcome := onUnit (siteOk bay row col) (fncOp 3 bay row col) s
def execSelect (bay row col : Nat) (s : State) : Outcome := onUnit (siteOk bay row col) (fncOp 4 bay row col) s
def execTest (bay row col : Nat) (s : State) : Outcome := onUnit (siteOk bay row col) (fncOp 5 bay row col) s
def execLookup (bay row col : Nat) (s : State) : Outcome := onUnit (siteOk bay row col) (fncOp 6 bay row col) s
def execSmaxMax (bay row col : Nat) (s : State) : Outcome := onUnit (siteOk bay row col) (fncOp 7 bay row col) s
def execSmaxExp (bay row col : Nat) (s : State) : Outcome := onUnit (siteOk bay row col) (fncOp 8 bay row col) s
def execSmaxDiv (bay row col : Nat) (s : State) : Outcome := onUnit (siteOk bay row col) (fncOp 9 bay row col) s
def execRowstat (bay row col : Nat) (s : State) : Outcome := onUnit (siteOk bay row col) (fncOp 10 bay row col) s
def execSlice (bay row col : Nat) (s : State) : Outcome := onUnit (siteOk bay row col) (fncOp 11 bay row col) s
def execRecombine (bay row col : Nat) (s : State) : Outcome := onUnit (siteOk bay row col) (fncOp 12 bay row col) s

/-! ### Lookup banks (R164 to R166) -/

/-- A lookup bank; there are two. -/
def Fnc.lut (f : Fnc) (b : Nat) : Lut := if b == 0 then f.lut0 else f.lut1
/-- The cell with a lookup bank replaced. -/
def Fnc.putLut (f : Fnc) (b : Nat) (l : Lut) : Fnc := if b == 0 then { f with lut0 := l } else { f with lut1 := l }

/-- Entry size in bytes by LUT_KIND (R165). -/
def lutEntry (kind : Nat) : Nat := if kind == 1 then 4 else if kind == 2 then 16 else 0

/-- A LUT_OPEN pair (R165). -/
def lutOpenPair (s : State) (b site : Nat) (sl : Slot) : State :=
  let c := (s.drawer b sl.ctx).fncCfg site
  let f := s.fx b site sl.ctx
  let w := (sl.on c.in1).pay.toNat
  let count := bits w 16 8
  let k := bits w 24 24
  let l := f.lut k
  if !sl.live then s.fncFired b site sl f
  else if c.op == 0 || bits w 23 17 != 0 || w / 2 ^ 25 != 0 || count == 0 || 256 < count || lutEntry c.lutKind == 0
      || l.st == .live || l.st == .filling || (f.lut (1 - k)).st == .filling then
    s.faultCtx b site sl.ctx stProtocol
  else if l.st == .draining then s
  else s.fncFired b site sl (f.putLut k { st := .filling, gen := bits w 7 0, count := count, toks := [] })

/-- A LUT_WRITE pair (R165). -/
def lutWritePair (s : State) (b site : Nat) (sl : Slot) (j : Nat) : State :=
  let c := (s.drawer b sl.ctx).fncCfg site
  let f := s.fx b site sl.ctx
  let k := if f.lut0.st == .filling then 0 else 1
  let l := f.lut k
  let need := cdiv (l.count * lutEntry c.lutKind) 32
  if !sl.live then s.fncFired b site sl f
  else if c.op == 0 || l.st != .filling || need ≤ j then s.faultCtx b site sl.ctx stProtocol
  else
    let toks := tset l.toks j (sl.on c.in1).pay
    s.fncFired b site sl (f.putLut k { l with toks := toks, st := if toks.length == need then .ready else .filling })

/-- The chosen pair of a function cell, if it is a GO pair of a kind (R148). -/
def State.fncKind (s : State) (bay row col kind : Nat) : Option (Slot × Nat) :=
  match s.goPair bay (siteNo row col) with
  | some (sl, arg) => if siteKind row col == .fnc && bits arg 11 10 == kind then some (sl, arg) else none
  | none => none

def opLutOpen (bay row col : Nat) (s : State) : State :=
  match s.fncKind bay row col 3 with
  | some (sl, _) => lutOpenPair s bay (siteNo row col) sl
  | none => s

def execLutOpen (bay row col : Nat) (s : State) : Outcome := onUnit (siteOk bay row col) (opLutOpen bay row col) s

def opLutWrite (bay row col : Nat) (s : State) : State :=
  match s.fncKind bay row col 2 with
  | some (sl, arg) => lutWritePair s bay (siteNo row col) sl (bits arg 6 0)
  | none => s

def execLutWrite (bay row col : Nat) (s : State) : Outcome := onUnit (siteOk bay row col) (opLutWrite bay row col) s

/-- LUT_BANK_DRAINED: the last lookup of a DRAINING bank leaves (R166). -/
def opLutBankDrained (bay row col d bank : Nat) (s : State) : State :=
  let site := siteNo row col
  let f := s.fx bay site d
  let l := f.lut bank
  if siteKind row col == .fnc && l.st == .draining then s.putFx bay site d (f.putLut bank { l with st := .ready }) else s

def execLutBankDrained (bay row col d bank : Nat) (s : State) : Outcome :=
  onUnit (siteOk bay row col && d < 4 && bank < 2) (opLutBankDrained bay row col d bank) s

/-- LUTFLIP: the token at the head of a control queue takes effect, or waits (R44, R166). -/
def opLutflip (bay row col input : Nat) (s : State) : State :=
  let site := siteNo row col
  match s.headC bay site input with
  | none => s
  | some t =>
    let ctx := cCtx t
    if cOpc t != opcFlip || siteKind row col != .fnc || !s.seqDue bay site input t then s
    else
      let k := bits (cArg t) 3 0
      let g := bits (cArg t) 11 4
      let f := s.fx bay site ctx
      let l := f.lut k
      let done := fun (st : State) =>
        let x := st.site bay site
        (st.putSite bay site { x with flipAt := tdel x.flipAt ctx }).popC bay site input
      if 1 < k || l.st == .empty || l.gen != g then s.faultCtx bay site ctx stProtocol
      else match l.st with
        | .live => done s
        | .ready =>
          let o := f.lut (1 - k)
          let f1 := f.putLut (1 - k) { o with st := if o.st == .live then .draining else o.st }
          done (s.putFx bay site ctx (f1.putLut k { l with st := .live }))
        | _ =>
          let x := s.site bay site
          (s.putSite bay site { x with flipAt := tset x.flipAt ctx (tgetD x.flipAt ctx s.fclkNow) }).bump 0x3114
            (bay + 1) 1

def execLutflip (bay row col input : Nat) (s : State) : Outcome :=
  onUnit (siteOk bay row col && input < 5) (opLutflip bay row col input) s

/-- LUTFLIP_WAIT_TIMEOUT: a flip that waits has waited beyond PAIR_WATCHDOG (R166). -/
def opLutflipWaitTimeout (bay row col ctx : Nat) (s : State) : State :=
  let site := siteNo row col
  match tfind (s.site bay site).flipAt ctx with
  | some t =>
    if (s.bay bay).frozen.isNone && s.obj 0x2C01 1 < s.fclkNow - t then s.faultCtx bay site ctx stTimeout else s
  | none => s

def execLutflipWaitTimeout (bay row col ctx : Nat) (s : State) : Outcome :=
  onUnit (siteOk bay row col && ctx < 4) (opLutflipWaitTimeout bay row col ctx) s

/-! ### The edging chain's register (R175) -/

/-- One bit of EDGE_MODE as written. -/
def edgeBit (s : State) (value n : Nat) : State :=
  let old := s.obj 0x2C10 1
  let y := s.bay n
  if bitOf value n then
    if bitOf old n then s.putBay n { y with edgeClear := false }
    else if (List.range 4).all (fun d => (s.drawer n d).st == .empty) && (tget s.jig.held n).isNone then
      s.putObj 0x2C10 1 (setBit old n)
    else s.logErr 0x2C1001 stProtocol 0 n n
  else if bitOf old n then s.putBay n { y with edgeClear := true }
  else s

/-- A write of EDGE_MODE, bay by bay. -/
def State.writeEdgeMode (s : State) (value : Nat) : State := (List.range 32).foldl (fun st n => edgeBit st value n) s

def execEdgeModeWrite (value : Nat) (s : State) : Outcome := .next (s.writeEdgeMode (value % 2 ^ 32))

/-- EDGE_MODE_CLEAR_EFFECT: the chain's last drain token has reached the service buffer (R175). -/
def opEdgeModeClearEffect (bay : Nat) (s : State) : State :=
  let y := s.bay bay
  if y.edgeClear then (s.putBay bay { y with edgeClear := false }).putObj 0x2C10 1 (clrBit (s.obj 0x2C10 1) bay) else s

def execEdgeModeClearEffect (bay : Nat) (s : State) : Outcome := onUnit (bay < 32) (opEdgeModeClearEffect bay) s

end Sys2Proof.Machine
end

