-- ==== Sys2Proof/Machine/Domains.lean ====
section
/-!
DEFINITION. The power domains that other meanings look at or wake (18_power_domains_and_caps.md): their states, the
carcass routes that keep a panel uncore on (R53, R470), and the start of a wake (R472, R474, R475).
-/
namespace Sys2Proof.Machine

/-- A power domain (R468). -/
def State.dom (s : State) (d : Nat) : Domain := tget s.pwr.doms d

/-- The state with a domain replaced. -/
def State.putDom (s : State) (d : Nat) (x : Domain) : State :=
  { s with pwr := { s.pwr with doms := tset s.pwr.doms d x } }

/-- A domain is in service (R469). -/
def State.domOn (s : State) (d : Nat) : Bool := (s.dom d).st == .on

/-- A domain is in retention or off (R468). -/
def State.domDown (s : State) (d : Nat) : Bool := (s.dom d).st == .retention || (s.dom d).st == .off

/-- The code DOMAIN_STATE reads (R469). -/
def DomSt.code : DomSt → Nat
  | .off => 0 | .retention => 1 | .waking => 2 | .on => 3 | .sleeping => 4

/-- The domains that enter and leave retention with a domain: the groups of its tier (R468). -/
def domGroup (d : Nat) : List Nat :=
  if 40 ≤ d && d < 45 then [40, 41, 42, 43, 44]
  else if 45 ≤ d && d < 48 then [45, 46, 47]
  else if 48 ≤ d && d < 52 then [48, 49, 50, 51]
  else [d]

/-- Tier that a group or port domain belongs to, 0 for another domain. -/
def domTier (d : Nat) : Nat :=
  if 40 ≤ d && d < 45 then 1 else if 45 ≤ d && d < 48 then 2 else if 48 ≤ d && d < 52 then 3 else 0

/-- The groups or ports of a tier that the part and the tray enable: never one whose channels or expanders are not in
the set (R26, R468). -/
def State.tierDoms (s : State) (t : Nat) : List Nat :=
  if t == 1 then [40, 41, 42, 43, 44]
  else if t == 2 then [45, 46, 47].filter (fun d => bitOf s.tier.channels (d - 45))
  else [48, 49, 50, 51].filter (fun d => bitOf s.tier.expanders (2 * (d - 48)) || bitOf s.tier.expanders (2 * (d - 48) + 1))

/-! ### PLLs (R473) -/

/-- I/O dies on which a domain is clocked by the iclk PLL: a controller group has a member on each (R23, R24). -/
def diesOf (d : Nat) : List Nat :=
  if d < 40 || 64 ≤ d then []
  else if 48 ≤ d && d < 52 then [d - 48]
  else if d == 52 then [0]
  else if 53 ≤ d && d < 61 then [(d - 53) / 2]
  else [0, 1, 2, 3]

/-- A domain needs its PLL: from step 2 of its wake until its clock gate is closed again (R472, R473). -/
def Domain.clocked (x : Domain) : Bool :=
  match x.st with
  | .on => true
  | .waking => 1 ≤ x.step
  | .sleeping => 2 ≤ x.step
  | _ => false

/-- A PLL runs: 0 to 7 those of the panels, 8 the master of fclk, 9 to 12 the iclk PLLs of the I/O dies. A trip stops them
all (R473, R487, R488). -/
def State.pllRuns (s : State) (n : Nat) : Bool :=
  let on := fun (d : Nat) => (s.dom d).clocked
  s.clk.vin12 && !s.pwr.trip &&
  (if n < 8 then on (32 + n) || (List.range 4).any (fun j => on (4 * n + j))
   else if n == 8 then (List.range 40).any on
   else (List.range 24).any (fun i => (diesOf (40 + i)).contains (n - 9) && on (40 + i)))

/-! ### Carcass routes (R53) -/

/-- Panels from panel `a` to panel `b`, in order: along the row of `a`, then along the column of `b`. -/
def panelPath (a b : Nat) : List Nat :=
  let row := if a % 4 ≤ b % 4 then (List.range (b % 4 - a % 4 + 1)).map (a + ·)
    else (List.range (a % 4 - b % 4 + 1)).map (a - ·)
  if a / 4 == b / 4 then row else row ++ [b]

/-- Panel at which a packet of I/O die `i` enters or leaves the carcass for column `c`. -/
def diePanel (i c : Nat) : Nat :=
  let c0 := i % 2 * 2
  let dist := fun x => if x ≤ c then c - x else x - c
  i / 2 * 4 + (if dist c0 ≤ dist (c0 + 1) then c0 else c0 + 1)

/-- Panels on the routes between two ends; ends 0 to 7 are panels, 8 to 11 I/O dies. Two I/O dies of one edge are
joined without a panel (R23). -/
def endPath (x y : Nat) : List Nat :=
  if x < 8 && y < 8 then panelPath x y
  else if x < 8 then panelPath x (diePanel (y - 8) (x % 4))
  else if y < 8 then panelPath (diePanel (x - 8) (y % 4)) y
  else if (x - 8) / 2 == (y - 8) / 2 then []
  else
    let entry := diePanel (x - 8) ((y - 8) % 2 * 2)
    panelPath entry (diePanel (y - 8) (entry % 4))

/-- Ends that are on: panels with a bay that is on, and the I/O dies while the domain of their shared blocks is. -/
def State.endsOn (s : State) : List Nat :=
  (List.range 8).filter (fun p => (List.range 4).any (fun j => s.domOn (4 * p + j))) ++
  (if s.domOn 63 then [8, 9, 10, 11] else [])

/-- A route between two domains that are on runs through panel `p` (R470). -/
def State.routeThrough (s : State) (p : Nat) : Bool :=
  s.endsOn.any (fun x => s.endsOn.any (fun y => (x != y || x < 8) && (endPath x y).contains p))

/-! ### Waking (R472 to R475) -/

/-- One domain takes a wake source: from RETENTION or OFF its ready chain begins, a SLEEPING one turns at its next step
boundary. WAKES counts the wake as it begins. -/
def State.wakeOne (s : State) (d : Nat) : State :=
  let x := s.dom d
  match x.st with
  | .off => (s.putDom d { x with st := .waking, step := 0, deep := true, turn := false }).bump 0x3701 (d + 1) 1
  | .retention => (s.putDom d { x with st := .waking, step := 0, deep := false, turn := false }).bump 0x3701 (d + 1) 1
  | .sleeping => s.putDom d { x with turn := true }
  | _ => s

/-- A wake of a domain: the groups of a tier wake together (R468), and a bay wakes its panel's uncore, over which every
route of it runs (R470). Domains whose supply or partition is absent do not wake. -/
def State.wakeDom (s : State) (d : Nat) : State :=
  if s.clk.phase != .service || 64 ≤ d then s
  else
    let ds := if domTier d != 0 then s.tierDoms (domTier d) else if d < 32 then [32 + d / 4, d] else [d]
    ds.foldl (fun st x => st.wakeOne x) s

end Sys2Proof.Machine
end

