-- ==== Sys2Proof/Machine/Partitions.lean ====
section
/-!
DEFINITION. How a partition leaves service (R494, R495): PART_STATE, incarnations, drain bounds, the abandoning of
outstanding requests, and the leaving of a bay or an uncore that had to wait for saves (R496, R498).
-/
namespace Sys2Proof.Machine

/-- The state with the renewal unit replaced. -/
def State.putRen (s : State) (r : Ren) : State := { s with ren := r }

/-- PART_STATE of a partition without its standby bit (R502). -/
def State.part (s : State) (p : Nat) : Nat := s.obj 0x2012 (p + 1) % 128

/-- GONE completions that a partition owes (R502). -/
def State.owe (s : State) (p n : Nat) : State := s.bump 0x3721 (p + 1) n

/-- PART_STATE is set; bit 7 of partitions 101 to 104 stays (R502). -/
def State.setPart (s : State) (p v : Nat) : State := s.putObj 0x2012 (p + 1) (s.obj 0x2012 (p + 1) / 128 * 128 + v)

/-- The renewal that runs on a partition (R496), 0 for none. -/
def State.setAction (s : State) (p a : Nat) : State := s.putRen { s.ren with action := tset s.ren.action p a }

/-- Drain bound of a partition in ns (R494). ACCESS_LIMIT is in ns. -/
def State.drainBound (s : State) (p : Nat) : Nat :=
  let acc := s.obj 0x2402 3
  if p < 32 then acc + 32000
  else if p < 40 then 40000
  else if p < 52 then acc
  else if p < 84 then 5000
  else if p < 88 then 10000
  else if p < 100 then 20000
  else if p == 100 then acc + 200000
  else if p < 103 then acc + 100000
  else 50000000

/-- A partition leaves service: its incarnation increments, wrapping (R17, R495), and group 11 reports it (R379). -/
def State.leave (s : State) (p : Nat) : State :=
  let s1 := s.putObj 0x2011 (p + 1) ((s.obj 0x2011 (p + 1) + 1) % 256)
  (s1.putRen { s1.ren with leftAt := tset s1.ren.leftAt p s1.clk.dcount }).raiseCause 0 11 1

/-- RESULT of the last command, where it named this partition (R496, R502). -/
def State.renewResult (s : State) (p r : Nat) : State :=
  let v := s.obj 0x2010 3
  if v % 256 == p && v / 4096 % 16 == 1 then s.putObj 0x2010 3 (v % 4096 + r * 4096) else s

/-- BAYS_IN_SERVICE of a bay (R32, R273). -/
def State.setBayIn (s : State) (b : Nat) (on : Bool) : State :=
  s.putObj 0x2C30 2 (if on then setBit (s.obj 0x2C30 2) b else clrBit (s.obj 0x2C30 2) b)

/-- A bay's outstanding requests are abandoned; the replies still to come will be dropped and count as STALE (R495). -/
def State.abandonBay (s : State) (b : Nat) : State :=
  let mine := fun (a : Acc) => match a.who with
    | .ftu bay _ _ => bay == b
    | _ => false
  let ids := (s.tier.accs.filter mine).map (fun a => a.id)
  let out := fun (a : Acc) => a.st == .held || a.st == .flight || a.st == .reread
  { s with
    tier := { s.tier with accs := (s.tier.accs.filter (fun a => !mine a || out a)).map (fun a => if mine a then { a with who := .gone b } else a) }
    xfers := s.xfers.filter (fun x => !ids.contains x.acc) }

/-- Bays of a panel. -/
def panelBays (p : Nat) : List Nat := (List.range 4).map (fun j => 4 * p + j)

/-- An uncore that waits for its bays leaves once they are out: for good under OUT, to be reset and tested under RESET
(R494, R496). -/
def State.settlePanel (s : State) (p : Nat) : State :=
  let a := tget s.ren.action (32 + p)
  if s.part (32 + p) == 1 && (panelBays p).all (fun b => s.part b == 2 || s.part b == 5) then
    let s1 := s.leave (32 + p)
    if a == 2 then ((s1.setPart (32 + p) 2).setAction (32 + p) 0).renewResult (32 + p) 2 else s1.setPart (32 + p) 3
  else s

/-- A bay that no task holds leaves service (R496). -/
def State.bayLeaves (s : State) (b : Nat) : State :=
  ((((((s.leave b).abandonBay b).setBayIn b false).setPart b 2).setAction b 0).renewResult b 2).settlePanel (b / 4)

/-- A bay that is to go OUT leaves once its tasks are saved (R498). -/
def State.settleBay (s : State) (b : Nat) : State :=
  if s.part b == 1 && tget s.ren.action b == 2 && (tget s.jig.held b).isNone then s.bayLeaves b else s

/-- OUT begins at a bay: it takes no new task, and the task that holds it is saved first (R274, R494). -/
def State.bayOut (s : State) (b : Nat) : State :=
  let s1 := ((s.setPart b 1).setAction b 2).setBayIn b false
  match tget s1.jig.held b with
  | none => s1.bayLeaves b
  | some k => { s1 with jig := { s1.jig with
      preempt := if s1.jig.preempt.contains k then s1.jig.preempt else s1.jig.preempt ++ [k]
      reserved := tset s1.jig.reserved b none } }

/-- Every panel on the route between two ends is in service; traffic through one that is not is held (R53, R494). Ends 0
to 7 are panels, 8 to 11 I/O dies. -/
def State.carcassUp (s : State) (x y : Nat) : Bool := (endPath x y).all (fun p => s.partUp (32 + p))

/-- A memory unit (near sets 0 to 15, DDR5 channels from 16, expanders from 28) belongs to a group or port that is being
recalibrated: its accesses are held (R232, R496). -/
def State.unitHeld (s : State) (u : Nat) : Bool :=
  if u < 16 then (List.range 5).any (fun g => s.part (40 + g) == 4)
  else if u < 28 then s.part (45 + (u - 16) % 3) == 4
  else s.part (48 + (u - 28) / 2) == 4

end Sys2Proof.Machine
end

