-- ==== Sys2Proof/Machine/Tasks.lean ====
section
/-!
DEFINITION. Tasks and graphs as other meanings see them: the task behind an operation, the bays and handles it holds
(R259, R291), and how it and its graph end (R268 to R270, R276).
-/
namespace Sys2Proof.Machine

/-- A task of the jig. -/
def State.task (s : State) (k : Nat) : Option Task := tfind s.jig.tasks k
/-- The state with a task replaced, if it is known. -/
def State.modTask (s : State) (k : Nat) (f : Task → Task) : State :=
  match tfind s.jig.tasks k with
  | none => s
  | some t => { s with jig := { s.jig with tasks := tset s.jig.tasks k (f t) } }

/-- A failure is put to a task: the status that R13 picks with what it has already (R78, R86). -/
def State.blame (s : State) (k status : Nat) : State := s.modTask k (fun t => { t with status := worst t.status status })

/-- The layout of a task and what the jig recorded of one of its sections. -/
def State.sectOf (s : State) (k sect : Nat) : Option (Layout × Sect) :=
  match tfind s.jig.tasks k with
  | none => none
  | some t => match tfind s.jig.layouts t.layout with
    | none => none
    | some l => match l.sects[sect]? with
      | none => none
      | some q => some (l, q)

/-- Key of a task. -/
def taskKey (g t : Nat) : Nat := g * 65536 + t

/-- Replaces the jig. -/
def State.putJig (s : State) (j : Jig) : State := { s with jig := j }

/-- Tasks of a graph. -/
def State.tasksOf (s : State) (g : Nat) : Tbl Task := s.jig.tasks.filter (fun e => e.1 / 65536 == g)

/-! ### Layout handles (R259) -/

/-- Tasks that use a layout handle. -/
def State.usesLayout (s : State) (h : Nat) : Bool :=
  s.jig.tasks.any (fun e => e.2.layout == h &&
    (match e.2.st with | .counting => false | .reading => false | .done => false | .notRun => false | _ => true))

/-- A handle that is unregistered becomes free once no task uses it (R259). -/
def State.reapLayouts (s : State) : State :=
  { s with jig := { s.jig with layouts := s.jig.layouts.filter (fun e => !(e.2.gone && !s.usesLayout e.1)) } }

/-! ### Completion of tasks and graphs (R268 to R270) -/

/-- A task has reached its end. -/
def TaskSt.isOver (t : TaskSt) : Bool := t == .done || t == .notRun

/-- The tasks that depend on failed ones, directly or through others, become NOT_RUN (R269; fuel: tasks). -/
def spreadNotRun (edges : List (Nat × Nat)) (g : Nat) : Nat → List Nat → Tbl Task → Tbl Task
  | 0, _, ts => ts
  | _ + 1, [], ts => ts
  | f + 1, bad, ts =>
    let hit := dedup' ((edges.filter (fun e => bad.contains e.1)).map (fun e => e.2))
    let next := hit.filter (fun i => match tfind ts (taskKey g i) with
      | some t => t.st == .counting || t.st == .reading
      | none => false)
    spreadNotRun edges g f next (next.foldl (fun t i => tmod t (taskKey g i) (fun x => { x with st := .notRun })) ts)

/-- No task of the graph can be released any more: those left COUNTING become NOT_RUN (R270). -/
def State.stuckGraph (s : State) (g : Nat) : Bool :=
  let ts := s.tasksOf g
  (match tfind s.jig.graphs g with | some gr => gr.counted | none => false) &&
  ts.all (fun e => e.2.st.isOver || (e.2.st == .counting && e.2.count != 0)) && ts.any (fun e => e.2.st == .counting)

/-- A graph whose tasks are all DONE or NOT_RUN completes and its entry is free (R270). A graph of the engine port
stays for the batcher. -/
def State.endGraph (s : State) (g : Nat) : State :=
  match tfind s.jig.graphs g with
  | none => s
  | some gr =>
    let stuck := s.stuckGraph g
    let s1 := if stuck then
        s.putJig { s.jig with tasks := tmap s.jig.tasks (fun k t =>
          if k / 65536 == g && t.st == .counting then { t with st := .notRun } else t) }
      else s
    let ts := (s1.tasksOf g).map (fun e => e.2)
    if !ts.all (fun t => t.st.isOver) then s1
    else match gr.ring with
      | none => s1
      | some ring =>
        let done := ts.filter (fun t => t.st == .done)
        let ok := (done.filter (fun t => t.status == stOk)).length
        let status := worst (worstOf (done.map (fun t => t.status))) (if stuck then stProtocol else stOk)
        let d0 := ok + (done.length - ok) * 2 ^ 32
        let d1 := (ts.length - done.length) + g * 2 ^ 32
        let s2 := s1.queueCpl ring (cplBytes 4 status 0 0 gr.user d0 d1)
        s2.putJig { s2.jig with
          graphs := tdel s2.jig.graphs g
          tasks := s2.jig.tasks.filter (fun e => e.1 / 65536 != g) }

/-- A bay is held by no task any more (R291); one that is to go OUT leaves service (R498). -/
def State.freeBay (s : State) (b : Nat) : State :=
  match tget s.jig.held b with
  | none => s
  | some _ =>
    ((s.putJig { s.jig with held := tset s.jig.held b none }).bump 0x3130 (b + 1)
      (s.clk.dcount - tget s.jig.heldAt b)).settleBay b

/-- A task is DONE under a status, or that of a record it could not write (R114): its bays and slots are free, its
completion is written, its successors are released or become NOT_RUN (R266, R269, R276, R287). -/
def State.finishTask (s : State) (k own : Nat) : State :=
  match s.task k with
  | none => s
  | some t =>
    let status := worst own t.recSt
    let g := k / 65536
    let f := t.func
    let s1 := ((List.range 32).filter (fun b => tget s.jig.held b == some k)).foldl (fun st b => st.freeBay b) s
    let pool := tget s1.jig.pools f
    let s2 := s1.putJig { s1.jig with
      order := s1.jig.order.filter (· != k)
      preempt := s1.jig.preempt.filter (· != k)
      reserved := tmap s1.jig.reserved (fun _ r => if r == some k then none else r)
      pools := if t.slots.isEmpty then s1.jig.pools
        else tset s1.jig.pools f { pool with held := pool.held.filter (fun i => !t.slots.contains i) }
      saves := s1.jig.saves.filter (fun e => !(e.1 / 65536 == f && t.slots.contains (e.1 % 65536)))
      tasks := tset s1.jig.tasks k { t with st := .done, status := status, slots := [], nb := 0 } }
    let s3 := if status == stOk then s2.bump 0x3133 (f + 1) 1 else s2.bump 0x3134 (f + 1) 1
    match tfind s3.jig.graphs g with
    | none => s3
    | some gr =>
      let s4 := match gr.ring with
        | some ring => if t.notify then
            s3.queueCpl ring (cplBytes 3 status 0 0 t.user (k % 65536) g) else s3
        | none => s3
      let ts := if status == stOk then
          gr.edges.foldl (fun (m : Tbl Task) e => if e.1 == k % 65536 then
            tmod m (taskKey g e.2) (fun x => { x with count := x.count - 1 }) else m) s4.jig.tasks
        else
          let m := spreadNotRun gr.edges g (gr.tasks + 1) [k % 65536] s4.jig.tasks
          if gr.halt then tmap m (fun j x =>
            if j / 65536 == g && (x.st == .counting || x.st == .reading || x.st == .issued) then { x with st := .notRun } else x)
          else m
      let s5 := s4.putJig { s4.jig with
        tasks := ts
        order := s4.jig.order.filter (fun j => match tfind ts j with | some x => !x.st.isOver | none => true)
        reserved := tmap s4.jig.reserved (fun _ r => r.filter (fun j => match tfind ts j with | some x => !x.st.isOver | none => true)) }
      (s5.reapLayouts).endGraph g

end Sys2Proof.Machine
end

