-- ==== Sys2Proof/Machine/WordCode.lean ====
section
/-!
DEFINITION. The word code (R237 to R241, R255 to R257): arithmetic over GF(2^8), check symbols, decoding with the
reserve unused or spent, the poison mark, and the counts by memory unit and symbol position.
-/
namespace Sys2Proof.Machine

/-! ### GF(2^8) with 0x11D (R238) -/

/-- a times α = 0x02. -/
def gfTwice (a : Nat) : Nat := if 128 ≤ a then (2 * a) ^^^ 0x11D else 2 * a

/-- Product of two field elements: the low `n` bits of b, from the highest down. -/
def gfMulLoop (a b : Nat) : Nat → Nat
  | 0 => 0
  | n + 1 => gfTwice (gfMulLoop a (b / 2) n) ^^^ (if b % 2 == 1 then a else 0)

/-- Product of two field elements. -/
def gfMul (a b : Nat) : Nat := gfMulLoop a b 8

/-- α^n. -/
def gfAlpha : Nat → Nat
  | 0 => 1
  | n + 1 => gfTwice (gfAlpha n)

/-- The locator of symbol position k: B_k is the coefficient of x^(35 − k). -/
def locator (k : Nat) : Nat := gfAlpha (35 - k)

/-- x to the power n. -/
def gfPow (x : Nat) : Nat → Nat
  | 0 => 1
  | n + 1 => gfMul x (gfPow x n)

/-- Sum over the field. -/
def gfSum (l : List Nat) : Nat := l.foldl (· ^^^ ·) 0

/-- One step of the division of the message polynomial by g(x): the remainder so far, highest power first, and the
next byte. -/
def checkStep (g : List Nat) (r : List Nat) (b : Nat) : List Nat :=
  let f := r.headD 0 ^^^ b
  List.zipWith (fun x c => x ^^^ gfMul f c) (r.drop 1 ++ [0]) g

/-- g(x) = (x − 1)(x − α)(x − α^2)(x − α^3) without its leading 1, highest power first. -/
def codeGen : List Nat :=
  let step := fun (p : List Nat) (c : Nat) => List.zipWith (· ^^^ ·) (p ++ [0]) (0 :: p.map (gfMul c))
  (([0, 1, 2, 3].map gfAlpha).foldl step [1]).drop 1

/-- Check symbols C0 to C3 over 32 data bytes (R238). -/
def checkSymbols (data : List Nat) : List Nat := data.foldl (checkStep codeGen) [0, 0, 0, 0]

/-- Syndrome j of the symbols (position, bits that differ). -/
def syndrome (es : List (Nat × Nat)) (j : Nat) : Nat :=
  gfSum (es.map (fun (e : Nat × Nat) => gfMul e.2 (gfPow (locator e.1) j)))

/-- The poison mark: the check symbols XOR P (R240). -/
def poisonMark : List (Nat × Nat) := [(32, 0xA5), (33, 0x3C), (34, 0xC3), (35, 0x5A)]

/-- What a decode gives (R239, R240, R256): no error, symbols corrected (position, bits), the poison mark, or
uncorrectable. -/
inductive Decoded where
  | clean
  | fixed (cs : List (Nat × Nat))
  | marked
  | bad
deriving DecidableEq, Repr

/-- The position other than `q` at which one symbol explains a run of syndromes that starts with `t0`. -/
def oneSymbol (ts : List Nat) (q : Option Nat) : Option Nat :=
  (List.range 36).find? (fun k => q != some k && ts.headD 0 != 0 &&
    (List.zip ts (ts.drop 1)).all (fun (p : Nat × Nat) => p.2 == gfMul (locator k) p.1))

/-- Decode of a word whose stored bytes differ from a codeword by `es`, with the unit's reserve unused (R239) or
spent on position q (R256). -/
def decodeWord (es : List (Nat × Nat)) (q : Option Nat) : Decoded :=
  let sy := [0, 1, 2, 3].map (syndrome es)
  let mk := [0, 1, 2, 3].map (syndrome poisonMark)
  match q with
  | none =>
    if sy.all (· == 0) then .clean
    else if sy == mk then .marked
    else match oneSymbol sy none with
      | some k => .fixed [(k, sy.headD 0)]
      | none => .bad
  | some q =>
    -- the syndromes with the erased position taken out
    let out := fun (l : List Nat) => List.zipWith (fun a b => b ^^^ gfMul (locator q) a) l (l.drop 1)
    let ts := out sy
    if ts.all (· == 0) then (if sy.headD 0 == 0 then .clean else .fixed [(q, sy.headD 0)])
    else if ts == out mk then .marked
    else match oneSymbol ts (some q) with
      | some k =>
        let x := locator k ^^^ locator q
        let v := ((List.range 256).find? (fun v => gfMul v x == ts.headD 0)).getD 0
        .fixed ((k, v) :: (if sy.headD 0 ^^^ v == 0 then [] else [(q, sy.headD 0 ^^^ v)]))
      | none => .bad

/-- The bits by which the data bytes still differ after a correction. -/
def residual (es cs : List (Nat × Nat)) : Bool :=
  (List.range 32).any (fun k => gfSum ((es ++ cs).filterMap (fun (e : Nat × Nat) => if e.1 == k then some e.2 else none)) != 0)

/-! ### Memory units (R212 to R214, R255) -/

/-- The members of a set, by the bits of a mask, rising. -/
def member (mask n i : Nat) : Nat := (bitsSet mask n).getD i 0

/-- The memory unit that holds granule k of frame f of a tier. -/
def State.unitOf (s : State) (t f k : Nat) : Nat :=
  match t with
  | 1 => (f + k) % 16
  | 2 => let w := popcount s.tier.channels 12
         16 + member s.tier.channels 12 ((256 * f + k) % (max w 1))
  | _ => let x := popcount s.tier.expanders 8
         28 + member s.tier.expanders 8 ((256 * f + k) % (max x 1))

/-- Granule slot of granule k of frame f, in its near set, on its DDR5 channel, or on its expander (R212 to R214). -/
def State.granuleSlot (s : State) (t f k : Nat) : Nat :=
  match t with
  | 1 => 16 * f + k / 16
  | 2 => (256 * f + k) / max 1 (popcount s.tier.channels 12)
  | _ => (256 * f + k) / max 1 (popcount s.tier.expanders 8)

/-- The five GDDR7 devices of a near set, and its channel on each of them (R212, R242). -/
def setDevices (u : Nat) : List Nat × Nat := ((List.range 5).map (fun m => 5 * (u / 4) + m), u % 4)

/-- Byte offset in an expander of a granule slot: 320 raw bytes each (R214, R251). -/
def expanderOffset (slot : Nat) : Nat := 320 * slot

/-- The unit of the word at device word address `w` in a frame. -/
def State.wordUnit (s : State) (t f w : Nat) : Nat := s.unitOf t f (w % 2048 / 8)

/-! ### Counts and the reserve (R255 to R257) -/

/-- The unit is reported for renewal (R257). -/
def State.reportUnit (s : State) (unit pos : Nat) : State :=
  (({ s with code := { s.code with renew := tset s.code.renew unit true } }).logErr
    (objKey 0x2424 (unit + 1)) 0 0xFF unit pos).raiseCause 0 11 0

/-- The reserve of a unit is spent on a position (R256, R379). -/
def State.spendReserve (s : State) (unit pos : Nat) : State :=
  ({ s with code := { s.code with spent := tset s.code.spent unit (some pos) } }).raiseCause 0 12 1

/-- A position is declared failing (R255, R257). -/
def State.symbolFailing (s : State) (unit pos : Nat) : State :=
  if pos == 36 then s.reportUnit unit 36
  else match tget s.code.spent unit with
    | some q => if q == pos then s else s.reportUnit unit pos
    | none =>
      let s1 := s.logErr (objKey 0x2424 (unit + 1)) 0 0xFF unit pos
      if s.obj 0x2010 1 == 2 then s1.raiseCause 0 11 0 else s1.spendReserve unit pos

/-- A correction at a position of a unit, or a failed tag check (position 36), is counted in the present interval, and
the position declared failing in the event that reaches SYMBOL_THRESHOLD (R255, R520). -/
def State.countSymbol (s : State) (unit pos : Nat) : State :=
  let n := tget s.code.sym (unit * 64 + pos) + 1
  let s1 := { s with code := { s.code with sym := tset s.code.sym (unit * 64 + pos) n } }
  if n == s.obj 0x2423 4 then s1.symbolFailing unit pos else s1

/-- RESERVE_STATE of a unit (0x2424). -/
def State.reserveState (s : State) (unit : Nat) : Nat :=
  (match tget s.code.spent unit with | some q => 0x8000 + q | none => 0) + (if tget s.code.renew unit then 0x4000 else 0)

/-! ### Reading one word (R239, R240, R256) -/

/-- A word is poisoned in place: written back with its data bytes as read (R240). -/
def State.poisonWord (s : State) (w : Nat) : State :=
  { s with
    tier := { s.tier with poison := tset s.tier.poison w true }
    code := { s.code with bad := tdel s.code.bad w, flips := tdel s.code.flips w } }

/-- What one read of a word gives: it answers POISON, or its data bytes are wrong after a miscorrection. -/
structure WordRead where
  poison : Bool
  wrong : Bool
deriving DecidableEq, Repr

/-- A symbol in error is put to those of a stored word; two errors at one position add up. -/
def addFlip (l : List (Nat × Nat)) (pos x : Nat) : List (Nat × Nat) :=
  let old := gfSum ((l.filter (fun e => e.1 == pos)).map (fun e => e.2))
  l.filter (fun e => e.1 != pos) ++ (if old ^^^ x == 0 then [] else [(pos, old ^^^ x)])

/-- Symbols of stored words go into error, words counted from `w0`; they stay so until the word is written (R239; DESIGN
CHOICE, log 97). -/
def State.harm (s : State) (w0 : Nat) (errs : List SymErr) : State :=
  let one := fun (t : Tbl (List (Nat × Nat))) (e : SymErr) =>
    if e.pos < 36 && e.xor % 256 != 0 then tmod t (w0 + e.word) (fun l => addFlip l e.pos (e.xor % 256)) else t
  { s with code := { s.code with flips := errs.foldl one s.code.flips } }

/-- A word is read and decoded at its unit; `q` is the position decoded as an erasure, `lost` says that the expander
returned it with poison (R239, R240, R252). -/
def State.decodeAt (s : State) (w unit : Nat) (q : Option Nat) (lost : Bool) : WordRead × State :=
  let es := tget s.code.flips w
  let all := es ++ (if tget s.tier.poison w then poisonMark else [])
  if lost || tget s.code.bad w then ({ poison := true, wrong := false }, (s.bump 0x3311 (unit + 1) 1).poisonWord w)
  else match decodeWord all q with
    | .clean => ({ poison := false, wrong := residual all [] }, s)
    | .fixed cs =>
      let counted := cs.filter (fun (c : Nat × Nat) => q != some c.1)
      let s1 := if counted.isEmpty then s else s.bump 0x3310 (unit + 1) 1
      ({ poison := false, wrong := residual all cs }, counted.foldl (fun st (c : Nat × Nat) => st.countSymbol unit c.1) s1)
    | .marked => ({ poison := true, wrong := false }, s.bump 0x3312 (unit + 1) 1)
    | .bad => ({ poison := true, wrong := false }, (s.bump 0x3311 (unit + 1) 1).poisonWord w)

/-- A word is not plainly good: it carries the poison mark, an expander has named it, or symbols of it are in error. Any
other word decodes as it was written. -/
def State.sick (s : State) (w : Nat) : Bool := s.wordBad w || !(tget s.code.flips w).isEmpty

/-- The words that are not plainly good among those that `n` bytes from `addr` touch. -/
def State.sickIn (s : State) (addr n : Nat) : List Nat :=
  (dedup' (s.tier.poison.map (fun e => e.1) ++ s.code.bad.map (fun e => e.1) ++ s.code.flips.map (fun e => e.1))).filter
    (fun w => addr / 32 ≤ w && w ≤ (addr + max n 1 - 1) / 32 && s.sick w)

/-- A word that the mover copies, or the scrub writes back, is written as it decodes: what is left of its symbols in error
is a miscorrection, which only its tag can show (R226, R239, R253). -/
def State.writeBack (s : State) (w : Nat) (q : Option Nat) : State :=
  match decodeWord (tget s.code.flips w ++ (if tget s.tier.poison w then poisonMark else [])) q with
  | .fixed cs => { s with code := { s.code with flips := tmod s.code.flips w (fun l => cs.foldl (fun m c => addFlip m c.1 c.2) l) } }
  | _ => s

/-- The symbols in error that strike one word of a range. -/
def errsOf (errs : List SymErr) (i : Nat) : List (Nat × Nat) :=
  (errs.filter (fun e => e.word == i && e.pos < 36)).foldl (fun l e => addFlip l e.pos (e.xor % 256)) []

/-- A word that stands in an old frame is decoded: what it does to the word's present home is nothing (R227). -/
def State.decodeOld (s : State) (w unit : Nat) (q : Option Nat) (marked : Bool) (es : List (Nat × Nat)) (lost : Bool) :
    WordRead × State :=
  let t := { s with
    tier := { s.tier with poison := tset s.tier.poison w marked }
    code := { s.code with flips := tset s.code.flips w es, bad := tdel s.code.bad w } }
  let (d, s1) := t.decodeAt w unit q lost
  (d, { s1 with tier := { s1.tier with poison := s.tier.poison }, code := { s1.code with flips := s.code.flips, bad := s.code.bad } })

end Sys2Proof.Machine
end

