-- ==== Sys2Proof/Machine/Generations.lean ====
section
/-!
DEFINITION. Model slots, adapters and their generation records (R294, R300 to R303), and what befalls them when an
object is freed or damaged.
-/
namespace Sys2Proof.Machine

/-- The state with an object replaced. -/
def State.putObject (s : State) (n : Nat) (o : Obj) : State := { s with tier := { s.tier with objs := tset s.tier.objs n o } }

/-- The state with an object FREEING (R217). -/
def State.beginFree (s : State) (n : Nat) (o : Obj) (q : Option Req) : State :=
  let s1 := s.putObject n { o with st := .freeing }
  { s1 with tier := { s1.tier with frees := s1.tier.frees ++ [(n, q)] } }

/-- The object of a generation is freed, if it is still there. -/
def State.freeGenObject (s : State) (n : Nat) : State :=
  match tfind s.tier.objs n with
  | some o => if o.st == .live || o.st == .damaged then s.beginFree n o none else s
  | none => s

/-- Key of a slot (adapter 0) or an adapter. -/
def modelKey (slot adapter : Nat) : Nat := if adapter == 0 then slot else 65536 + adapter

/-- Adapter number of a key, 0 for a base model. -/
def keyAdapter (k : Nat) : Nat := if k < 65536 then 0 else k - 65536

/-- The state with the slot manager replaced. -/
def State.putWgt (s : State) (w : Weights) : State := { s with wgt := w }

/-- The state with the bureau replaced. -/
def State.putSrv (s : State) (v : Serving) : State := { s with srv := v }

/-- Requests of a kind end with a status, as a failed batch does: one that waits goes to FINISHING; a member of a batch
ends with its task (R318, R402, R493). -/
def State.endRequests (s : State) (p : Entry → Bool) (status : Nat) : State :=
  s.putSrv { s.srv with entries := tmap s.srv.entries (fun _ e =>
    if p e && (e.st == .walking || e.st == .waitPrefill || e.st == .waitDecode) then
      { e with st := .finishing, code := 6, status := status } else e) }

/-- A generation record of a slot has become NONE: its leaves are to be purged (R327). -/
def State.purgeGen (s : State) (key gen : Nat) : State :=
  if key < 65536 then s.putSrv { s.srv with purge := s.srv.purge ++ [((tget s.wgt.models key).func, key, gen)] } else s

/-- The state with a model replaced. -/
def State.putModel (s : State) (k : Nat) (m : Model) : State := s.putWgt { s.wgt with models := tset s.wgt.models k m }

/-- The record of a model in some state. -/
def Model.recIn (m : Model) (st : GenSt) : Option GenRec := m.recs.find? (fun r => r.st == st)

/-- The record of a generation number. -/
def Model.recOf (m : Model) (gen : Nat) : Option GenRec := m.recs.find? (fun r => r.gen == gen)

/-- REFS (R301). -/
def GenRec.refs (r : GenRec) : Nat := r.pins + r.holds

/-- A record replaced. -/
def Model.putRec (m : Model) (r : GenRec) : Model := { m with recs := m.recs.map (fun x => if x.gen == r.gen then r else x) }

/-- A record that becomes NONE. -/
def Model.dropRec (m : Model) (gen : Nat) : Model := { m with recs := m.recs.filter (fun x => x.gen != gen) }

/-- DATA0 of a notice (R374). -/
def noticeData (slot key gen shard : Nat) : Nat := slot + keyAdapter key * 2 ^ 16 + gen * 2 ^ 32 + shard * 2 ^ 48

/-- A build or a staged generation ends as FAILED: its INTAKE and COMMITs complete, its shards leave the planers, its
object is freed (R296, R297, R379). -/
def State.failGen (s : State) (key gen status : Nat) : State :=
  match tfind s.wgt.models key with
  | none => s
  | some m =>
    match m.recOf gen with
    | none => s
    | some r =>
      let s1 := s.putModel key (m.putRec { r with st := .failed, status := status, waits := false, commits := [] })
      let s2 := s1.putWgt { s1.wgt with
        queue := s1.wgt.queue.filter (fun j => !(j.key == key && j.gen == gen))
        planers := tmap s1.wgt.planers (fun _ p => match p with
          | some x => if x.job.key == key && x.job.gen == gen then none else some x
          | none => none) }
      let s3 := if r.waits then s2.complete r.q status 0 else s2
      let s4 := r.commits.foldl (fun st q => st.complete q status 0) s3
      let s5 := if r.st == .staged then s4.raiseCause m.func 2 1 else s4
      match tfind s5.tier.objs r.object with
      | none => s5.putModel key (((tget s5.wgt.models key)).dropRec gen)
      | some _ => s5.freeGenObject r.object

/-- A DRAINING record whose REFS is 0 becomes NONE and its object is freed (R300). -/
def State.reapGen (s : State) (key gen : Nat) : State :=
  match tfind s.wgt.models key with
  | none => s
  | some m =>
    match m.recOf gen with
    | none => s
    | some r =>
      if r.st == .draining && r.refs == 0 then ((s.purgeGen key gen).putModel key (m.dropRec gen)).freeGenObject r.object else s

/-- A LIVE record becomes DRAINING (R300). -/
def State.drainGen (s : State) (key gen : Nat) : State :=
  match tfind s.wgt.models key with
  | none => s
  | some m =>
    match m.recOf gen with
    | none => s
    | some r => (s.putModel key (m.putRec { r with st := .draining })).reapGen key gen

/-- The generations that rest on an object, as (key, record). -/
def State.gensOf (s : State) (n : Nat) : List (Nat × GenRec) :=
  s.wgt.models.flatMap (fun e => (e.2.recs.filter (fun r => r.object == n && r.st != .cold)).map (fun r => (e.1, r)))

/-- An object has become DAMAGED: a build on it fails with TIER_FAIL, a LIVE generation drains (R296, R300, R302). -/
def State.gensDamaged (s : State) (n : Nat) : State :=
  (s.gensOf n).foldl (fun st (p : Nat × GenRec) => match p.2.st with
    | .building => st.failGen p.1 p.2.gen stTier
    | .live => st.drainGen p.1 p.2.gen
    | _ => st) s

/-- An object is free: a FAILED record on it becomes NONE (R300). -/
def State.gensFreed (s : State) (n : Nat) : State :=
  s.putWgt { s.wgt with models := tmap s.wgt.models (fun _ m =>
    { m with recs := m.recs.filter (fun r => !(r.object == n && r.st == .failed)) }) }

end Sys2Proof.Machine
end

