-- ==== Sys2Proof/Machine/Alarm.lean ====
section
/-!
DEFINITION. What ends tasks, requests and objects of many kinds at once: a function's zeroisation and the tag alarm (R398,
R402, R408), and objects that become DAMAGED (R234).
-/
namespace Sys2Proof.Machine

/-! ### Tasks of a kind (R287, R288) -/

/-- Every task of a kind ends with a status: one that holds bays or is saved is torn down, one that waits is done
(R287, R288). -/
def State.endTasks (s : State) (p : Task → Bool) (status : Nat) : State :=
  (s.jig.tasks.map (fun e => e.1)).foldl (fun st k => match st.task k with
    | none => st
    | some t =>
      if !p t || t.st.isOver then st
      else match t.st with
        | .counting | .reading | .issued => st.finishTask k status
        | _ => st.blame k status) s

/-! ### Zeroisation and the tag alarm (R398, R402) -/

/-- Every LIVE object of a kind becomes DAMAGED (R234, R379, R402). -/
def State.damage (s : State) (p : Nat → Obj → Bool) : State :=
  let hit := s.tier.objs.filter (fun e => e.2.st == .live && p e.1 e.2)
  hit.foldl (fun st e => ((st.putObject e.1 { e.2 with st := .damaged }).raiseCause e.2.owner 1 2).gensDamaged e.1) s

/-- The iclk of the present dcount (R384, R402). -/
def State.iclkNow (s : State) : Nat := iclkOf s.clk.dcount

/-- Zeroisation of a function's key set (R402). A roll that runs ends with it: its KEY_LOAD completes with GONE. -/
def State.zeroise (s : State) (f : Nat) : State :=
  let s1 := { s with trust := { s.trust with
    zeroAt := tset s.trust.zeroAt f (some s.iclkNow)
    keys := tset s.trust.keys f none, old := tset s.trust.old f none, locked := tset s.trust.locked f false } }
  let s2 := match tget s1.trust.rollCmd f with
    | none => s1
    | some q => ({ s1 with trust := { s1.trust with rollCmd := tset s1.trust.rollCmd f none } }).complete q stGone 0
  let s3 := ((s2.endTasks (fun t => t.func == f) stGone).endRequests (fun e => e.func == f) stGone).damage (fun _ o => o.owner == f)
  (s3.raiseCause f 3 1).notice f none 0x41 stGone 0

/-- A tag failure of a word on both reads counts for its function; at ALARM_LIMIT the alarm is raised and the count
starts again (R398, R408). -/
def State.tagAlarm (s0 : State) (f : Nat) : State :=
  let s := s0.bump 0x3601 (f + 1) 1
  match tget s.trust.keys f with
  | none => s
  | some k =>
    let n := tget s.trust.tagFails f + 1
    if k.alarm ≤ n then
      let s1 := ({ s with trust := { s.trust with tagFails := tset s.trust.tagFails f 0 } }).raiseCause f 3 0
      let s2 := s1.notice f none 0x40 stPoison 0
      if bitOf k.tflags 1 then s2.zeroise f else s2
    else { s with trust := { s.trust with tagFails := tset s.trust.tagFails f n } }

end Sys2Proof.Machine
end

