-- ==== Sys2Proof/Machine/Access.lean ====
section
/-!
DEFINITION. Accesses of the device's own engines, of software's commands and of the host to the device range, decoded word
by word (R211, R224, R226, R232, R239 to R241). They are made in one step; a fetch unit's and a peer's accesses, which take
several, are in Directory.lean.
-/
namespace Sys2Proof.Machine

/-! ### Reading words (R239 to R241) -/

/-- A word has failed its tag on both reads: both count at its unit, and it is poisoned (R239, R240, R398). -/
def State.tagLost (s : State) (w : Nat) : State :=
  let l := s.leaf (w / 2048)
  let u := s.wordUnit l.home l.frame w
  ((((s.countSymbol u 36).countSymbol u 36).bump 0x3314 (u + 1) 1).poisonWord w).tagAlarm (partOf (32 * w))

/-- One read of a word at its unit, tag included: whether it answers POISON. A miscorrected word fails its tag on both
reads, the second of which decodes it again (R239; DESIGN CHOICE, log 97). -/
def State.readWord (s : State) (w : Nat) : Bool × State :=
  let l := s.leaf (w / 2048)
  let u := s.wordUnit l.home l.frame w
  let (d, s1) := s.decodeAt w u (tget s.code.spent u) false
  if d.poison then (true, s1)
  else if d.wrong then
    let (_, s2) := (s1.countSymbol u 36).decodeAt w u (tget s1.code.spent u) false
    (true, ((((s2.countSymbol u 36).bump 0x3314 (u + 1) 1)).poisonWord w).tagAlarm (partOf (32 * w)))
  else (false, s1)

/-- Words are read in order: those that answer POISON. -/
def State.readWords : List Nat → State → List Nat × State
  | [], s => ([], s)
  | w :: r, s =>
    let (bad, s1) := s.readWord w
    let (bs, s2) := State.readWords r s1
    (if bad then w :: bs else bs, s2)

/-- A word is not written whole by codes that start at `addr`. -/
def partlyIn (addr : Nat) (bs : List Nat) (w : Nat) : Bool :=
  let codes := (bs.drop (w * 32 - addr)).take (w * 32 + 32 - max addr (w * 32))
  codes.any (· != 256) && !(codes.length == 32 && codes.all (· < 256))

/-- The codes of a write without those of some words. -/
def without (addr : Nat) (bs : List Nat) (bad : List Nat) : List Nat :=
  (List.range bs.length).map (fun i => if bad.contains ((addr + i) / 32) then 256 else byteAt bs i)

/-- A write of codes is applied: the words that it covers in part are read first, and those that answer POISON stay as they
are (R241). -/
def State.mergeWrite (s : State) (addr : Nat) (bs : List Nat) : List Nat × State :=
  let part := (s.sickIn addr bs.length).filter (partlyIn addr bs)
  let (bad, s1) := State.readWords part s
  (bad, s1.store addr (if bad.isEmpty then bs else without addr bs bad))

/-! ### Holds and wakes (R226, R228, R232) -/

/-- A translation has been held on a MOVING tile for a time: MOVE_HOLD, and MOVE_OVERRUN beyond 2.5 µs (R228). -/
def State.countHold (s : State) (ns : Nat) : State :=
  let s1 := s.bump 0x3303 1 (iclkOf ns)
  if 2500 < ns then s1.bump 0x3303 2 1 else s1

/-- An engine's access to a tile that is MOVING is held until the commit; how long it has been held by the time this step
makes it is open (R226, R228; DESIGN CHOICE, log 31). -/
def State.holdOpen (s : State) (addr n : Nat) : State :=
  if (tilesOf addr n).any (fun t => (s.leaf t).moving) then s.tick.countHold (Config.freeNat s.free) else s

/-- An access wakes the groups of its tiers that are in retention (R232, R474). -/
def State.wakeTiers (s : State) (addr n : Nat) : State :=
  (tilesOf addr n).foldl (fun st t => if st.tierSt (st.leaf t).home == 2 then st.wakeDom (tierDom (st.leaf t).home) else st) s

/-- What every access of an engine does on its way to the tiers. -/
def State.engineAccess (s : State) (addr n : Nat) : State :=
  (((s.touch addr n).invalidate addr n).holdOpen addr n).wakeTiers addr n

/-! ### Reads and writes (R211, R224, R239, R241) -/

/-- A device read of the range under a function: status, bytes (empty unless OK), state after. -/
def State.readDev (s : State) (f addr n : Nat) : Nat × List Nat × State :=
  let st := s.transStatus f addr n
  if st != stOk then (st, [], s.windowCause f st)
  else
    let s1 := s.engineAccess addr n
    let (bad, s2) := State.readWords (s1.sickIn addr n) s1
    if bad.isEmpty then (stOk, memBytes s2.mem addr n, s2.countRead addr n) else (stPoison, [], s2)

/-- A device write of the range under a function: status and state after. -/
def State.writeDev (s : State) (f addr : Nat) (bs : List Nat) : Nat × State :=
  let st := s.transStatus f addr bs.length
  if st != stOk then (st, s.windowCause f st)
  else
    let (bad, s1) := (s.engineAccess addr bs.length).mergeWrite addr bs
    (if bad.isEmpty then stOk else stPoison, s1)

end Sys2Proof.Machine
end

