-- ==== Sys2Proof/Machine/LinkQueue.lean ====
section
/-!
DEFINITION. Messages of the spline links: their segments, the choice of a link, the queues to send from, and the
requests that this device issues (R420 to R423, R427, R430).
-/
namespace Sys2Proof.Machine

/-! ### Messages and segments (R420, R422) -/

/-- Pool of a message type (R422). -/
def poolOf (type : Nat) : Nat :=
  if type == 1 || type == 2 then 3 else if type == 3 || type == 4 || type == 6 then 1 else if type == 5 then 2
  else if type == 0x10 then 4 else 0

/-- Segments of a pool (R420). -/
def poolSize (p : Nat) : Nat := match p with | 0 => 64 | 1 => 512 | 2 => 1024 | 3 => 2048 | _ => 4096

/-- A message type has an extension segment (R422). -/
def hasExt (type : Nat) : Bool := type == 1 || type == 2 || type == 3 || type == 6

/-- A message type is a request, which is answered by a RESP. -/
def isRequest (type : Nat) : Bool := type == 1 || type == 2 || type == 3 || type == 4 || type == 6

/-- Segments of a message. -/
def Msg.size (m : Msg) : Nat := 1 + (if hasExt m.type then 1 else 0) + m.len

/-- The 256 bits of a message header (R422). -/
def Msg.header (m : Msg) : Nat :=
  m.type % 64 + m.dest % 2 ^ 18 * 2 ^ 8 + m.src % 2 ^ 18 * 2 ^ 26 + m.incarn % 256 * 2 ^ 44 + m.status % 256 * 2 ^ 52
  + m.len % 256 * 2 ^ 60 + m.ttl % 16 * 2 ^ 68 + m.xid % 2 ^ 32 * 2 ^ 72 + m.addr % 2 ^ 52 * 2 ^ 104 + m.arg % 2 ^ 100 * 2 ^ 156

/-- The segments of a message, 32 bytes each. -/
def Msg.segments (m : Msg) : List (List Nat) :=
  let ext := if hasExt m.type then [leBytes (m.tenant % 2 ^ 128 + m.cmp % 2 ^ 64 * 2 ^ 128) 32] else []
  [leBytes m.header 32] ++ ext
  ++ (List.range m.len).map (fun i => (List.range 32).map (fun j => byteAt m.data (32 * i + j)))

/-- The fields of a header segment (R422). -/
def headerOf (seg : List Nat) : Msg :=
  let h := fieldAt seg 0 32
  { type := bits h 5 0, dest := bits h 25 8, src := bits h 43 26, incarn := bits h 51 44, status := bits h 59 52
    len := bits h 67 60, ttl := bits h 71 68, xid := bits h 103 72, addr := bits h 155 104, arg := bits h 255 156 }

/-! ### Links (R412, R430) -/

/-- A link. -/
def State.lnk (s : State) (l : Nat) : Link := tgetD s.link.links l {}

/-- The state with a link replaced. -/
def State.putLnk (s : State) (l : Nat) (x : Link) : State := { s with link := { s.link with links := tset s.link.links l x } }

/-- This device's fabric address, in force since start-up (R430, R448). -/
def State.faddr (s : State) : Nat := s.objIn 0x2600 2 % 2 ^ 18

/-- The links that the tables name for a destination and that are UP; where none is, those that sleep or wake, which a payload
wakes (R430, R439; DEDUCED, log 101). -/
def State.routeLinks (s : State) (dest : Nat) : List Nat :=
  let mask := if dest / 256 != s.faddr / 256 then s.obj 0x2610 1 / 2 ^ (32 * (dest / 256)) % 2 ^ 32
    else s.obj 0x2610 2 / 2 ^ (32 * (dest % 256)) % 2 ^ 32
  let named := (List.range 32).filter (bitOf mask)
  let up := named.filter (fun l => (s.lnk l).st == .up)
  if up.isEmpty then named.filter (fun l => (s.lnk l).st == .sleep || (s.lnk l).st == .waking) else up

/-- The link of a message, by the fixed hash of DEST, SRC and stream or tile; none where no link can be chosen (R430). -/
def State.route (s : State) (dest src key : Nat) : Option Nat :=
  let ls := s.routeLinks dest
  if ls.isEmpty then none else ls[Config.linkHash dest src key % ls.length]?

/-- A message joins the queue of a link. -/
def State.queueMsg (s : State) (l : Nat) (m : Msg) : State :=
  let x := s.lnk l
  s.putLnk l { x with outq := x.outq ++ [m] }

/-! ### Requests of this device (R421, R422, R427) -/

/-- Incarnation of a partition (R495). -/
def State.incarn (s : State) (p : Nat) : Nat := s.obj 0x2011 (p + 1)

/-- Response room of a link that outstanding requests hold (R421). -/
def State.roomHeld (s : State) (l : Nat) : Nat := ((s.link.reqs.filter (fun r => r.link == l)).map (fun r => r.room)).foldl (· + ·) 0

/-- A request goes to a link's queue: none where no link can be chosen; the state alone where it must wait for room or
for one of the 4,096 places (R421, R427). -/
def State.sendReq (s : State) (m : Msg) (key : Nat) (who : LWho) (part room : Nat) : Option State :=
  match s.route m.dest s.faddr key with
  | none => none
  | some l =>
    if 4096 ≤ s.link.reqs.length || poolSize 4 < s.roomHeld l + room then some s
    else
      let r : LReq := {
        xid := s.link.nextXid, link := l, who := who, part := part, incarn := s.incarn part, since := s.clk.dcount, room := room }
      let s1 := { s with link := { s.link with reqs := s.link.reqs ++ [r], nextXid := (s.link.nextXid + 1) % 2 ^ 32 } }
      some (s1.queueMsg l { m with src := s.faddr, incarn := r.incarn, xid := r.xid, ttl := 15 })

/-! ### Fabric windows (R423) -/

/-- The fabric window that an access of a function falls in. -/
def State.fabWin (s : State) (f addr len : Nat) : Option FabWin :=
  (s.link.wins.map (fun e => e.2)).find? (fun w =>
    w.len != 0 && w.func == f && w.local_ ≤ addr && addr + len ≤ w.local_ + w.len)

/-- TENANT_ID of a function's key set (R395). -/
def State.tenantId (s : State) (f : Nat) : Nat := ((tget s.trust.keys f).getD default).tenant

/-- The message of an access through a fabric window: a DOORBELL for an 8-byte write to its offset 0 where it has DOORBELL
set, else a READ or WRITE. A READ asks for the whole words; a WRITE within one word names its bytes (R422, R423, R425). -/
def State.windowMsg (s : State) (w : FabWin) (a : Acc) : Msg :=
  let at_ := w.remote + (a.addr - w.local_)
  let t := s.tenantId a.func
  if a.write && bitOf w.flags 2 && a.addr == w.local_ && a.len == 8 then
    { type := 6, dest := w.faddr, src := 0, addr := w.remote, arg := fieldAt a.data 0 8, tenant := t }
  else if a.write then
    let off := a.addr % 32
    if off + a.len ≤ 32 && a.len < 32 then
      { type := 2, dest := w.faddr, src := 0, addr := at_ - off, arg := 32 + (2 ^ a.len - 1) * 2 ^ off * 2 ^ 13, tenant := t, len := 1
        data := List.replicate off 0 ++ a.data }
    else { type := 2, dest := w.faddr, src := 0, addr := at_, arg := a.len, tenant := t, len := cdiv a.len 32, data := a.data }
  else
    let lo := at_ / 32 * 32
    { type := 1, dest := w.faddr, src := 0, addr := lo, arg := cdiv (at_ + a.len) 32 * 32 - lo, tenant := t }

/-- An access goes out through a fabric window, or waits, or ends with WINDOW_VIOLATION or GONE (R423, R430). -/
def State.sendAccess (s : State) (w : FabWin) (a : Acc) (part : Nat) : Nat × State :=
  let m := s.windowMsg w a
  if m.type == 2 && !bitOf w.flags 0 then (stWindow, s)
  else match s.sendReq m (tileOf a.addr) (.acc a.id) part (1 + (if m.type == 1 then m.arg / 32 else 0)) with
    | none => (stGone, s)
    | some s1 => (stOk, s1)

end Sys2Proof.Machine
end

