-- ==== Sys2Proof/Machine/Tiles.lean ====
section
/-!
DEFINITION. Tiles: the shape map and tile numbers (R177 to R181), the streams of a fetch unit and the forms of their
tokens (R125 to R127, R194, R195), and what a unit does with a token routed to it alone: scratch fill (R200), pleach
chain (R202, R203) and write streams (R194).
-/
namespace Sys2Proof.Machine

/-! ### The tile space (R177 to R180) -/

/-- Shape-map entry e of an image (R178). -/
def Drawer.shape (x : Drawer) (e : Nat) : ShapeEnt :=
  let o := 320 + 16 * e
  { plan := x.imgField o 4, tile := x.imgField (o + 4) 4, src := x.imgByte (o + 8), index := x.imgByte (o + 9),
    kind := x.imgByte (o + 10), order := x.imgByte (o + 11) }

/-- The shape map of an image: ENTRIES entries (R177). -/
def Drawer.shapes (x : Drawer) : List ShapeEnt := (List.range (min 32 x.entries)).map x.shape

/-- KIND bits (R178). -/
def ShapeEnt.tiled (e : ShapeEnt) : Bool := bitOf e.kind 0
def ShapeEnt.reduce (e : ShapeEnt) : Bool := bitOf e.kind 1
def ShapeEnt.trip (e : ShapeEnt) : Bool := bitOf e.kind 2

/-- Tile count of a tiled entry at an extent (R179). -/
def ShapeEnt.count (e : ShapeEnt) (ext : Nat) : Nat :=
  let n := cdiv ext (max 1 e.tile)
  if e.reduce then max 1 n else n

/-- Tile counts by loop position, outermost first (R178, R179). -/
def tileCounts (sh : List ShapeEnt) (ext : List Nat) : List Nat :=
  let t := ((List.range sh.length).zip sh).filter (fun e => e.2.tiled)
  (List.range t.length).map (fun p => match t.find? (fun e => e.2.order == p) with
    | some (i, e) => e.count (ext.getD i 0)
    | none => 1)

/-- Tile count T of a section (R179). -/
def tileTotal (sh : List ShapeEnt) (ext : List Nat) : Nat := (tileCounts sh ext).foldl (· * ·) 1

/-- Indices of a tile number by mixed radix, the counts given innermost first (R180). -/
def mixedRadix : List Nat → Nat → List Nat
  | [], _ => []
  | n :: r, c => c % max 1 n :: mixedRadix r (c / max 1 n)

/-- Indices of tile c by loop position (R180). -/
def tileIndices (sh : List ShapeEnt) (ext : List Nat) (c : Nat) : List Nat :=
  (mixedRadix (tileCounts sh ext).reverse c).reverse

/-! ### Units, sources and instances -/

/-- What a unit holds of shapes, claims and streams for a drawer. -/
def State.srcOf (s : State) (b site d : Nat) : Src := tget s.src (unitKey b site d)
/-- The state with it replaced. -/
def State.putSrc (s : State) (b site d : Nat) (x : Src) : State := { s with src := tset s.src (unitKey b site d) x }

/-- Key of the section instance a drawer of a bay belongs to: base bay × 4 + drawer. -/
def State.instKey (s : State) (b d : Nat) : Nat := (s.drawer b d).b0 * 4 + d
/-- The instance, if it runs. -/
def State.inst (s : State) (b d : Nat) : Option Inst := tfind s.insts (s.instKey b d)
/-- The state with an instance replaced. -/
def State.putInst (s : State) (k : Nat) (x : Inst) : State := { s with insts := tset s.insts k x }

/-- Claims of a bay for a drawer, in the order of their release. -/
def State.claimsOf (s : State) (b d : Nat) : List Claim := tget s.claims (b * 4 + d)

/-- Units that read shapes: source units, function cells with ROW_SRC = 1 and the scratch cell at TALLY_SITE (R184). -/
def Drawer.readsShapes (x : Drawer) (site : Nat) : Bool :=
  x.isSource site || x.runRows site ||
  (kindOf site == .scc && x.bays ≤ 1 && siteOfByte (x.imgByte 260) == site)

/-- SEQ that a unit expects next for a context, as the stand-alone tokens of its local input see it (R44, R188). -/
def State.nextDue (s : State) (b site ctx : Nat) : Nat :=
  let x := s.site b site
  if (s.drawer b ctx).pairs site then tget x.expPair ctx else x.nextIn 4 ctx

/-- The configuration bus delivers control tokens into the local control queue of a unit. -/
def State.deliver (s : State) (b site : Nat) (ts : List CTok) : State :=
  let x := s.site b site
  s.putSite b site { x with owed := x.owed ++ ts.map (fun t => (4, t)) }

/-- The shape burst of a drawer for one unit (R184). -/
def shapeBurst (ctx : Nat) (ext : List Nat) : List CTok :=
  ext.flatMap (fun e => [mkC opcShape ctx 0 (e % 4096), mkC opcShape ctx 0 (e / 4096 % 4096),
    mkC opcShape ctx 0 (e / 2 ^ 24 % 256)])

/-! ### Streams (R194, R195) -/

/-- A stream descriptor of a fetch unit (R194). -/
structure Stream where
  write : Bool
  opnd : Nat
  fmt : Nat
  runAhead : Bool
  pleach : Bool
  chain : Nat
  lane : Nat
  runDim : Nat
  stepDim : Nat
  offset : Nat
  run : Nat
  runs : Nat
  stride : Int
  tstride : List Int
deriving DecidableEq, Repr, Inhabited

/-- Stream k of a fetch unit's record (R194). -/
def Drawer.stream (x : Drawer) (site k : Nat) : Stream :=
  let o := 1032 + 64 * k
  let f := x.cfg site (o + 3)
  { write := x.cfg site o == 1, opnd := x.cfg site (o + 1), fmt := x.cfg site (o + 2), runAhead := bitOf f 0,
    pleach := bitOf f 1, chain := bits f 4 2, lane := x.cfg site (o + 4) % 8, runDim := x.cfg site (o + 5),
    stepDim := x.cfg site (o + 6), offset := x.cfgN site (o + 8) 8, run := x.cfgN site (o + 16) 4,
    runs := x.cfgN site (o + 20) 4, stride := sext (x.cfgN site (o + 24) 8) 64,
    tstride := (List.range 4).map (fun p => sext (x.cfgN site (o + 32 + 8 * p) 8) 64) }

/-- The streams in use of a fetch unit. -/
def Drawer.streams (x : Drawer) (site : Nat) : List Stream :=
  (List.range (min 8 (x.cfg site 1024))).map (x.stream site)

/-- Bits per element and elements per fabric token of a stream's format; a format without elements moves 32-byte
words. -/
def streamForm (fmt : Nat) : Nat × Nat := if fmtWidth fmt == 0 then (256, 1) else (fmtWidth fmt, fmtElems fmt)

/-- Bytes of an MX group in a tier (R127). -/
def groupBytes (fmt : Nat) : Nat := 32 + 128 * fmtWidth fmt

/-- Bytes of a 64 KiB tile that hold groups of an MX format; the tail is RSV (R127). -/
def tileUse (fmt : Nat) : Nat := if isMx fmt then 65536 / groupBytes fmt * groupBytes fmt else 65536

/-- Bytes that hold elements before an address, counted from a tile boundary (R127). -/
def usedTo (fmt a : Nat) : Nat := a / 65536 * tileUse fmt + min (a % 65536) (tileUse fmt)

/-- Bytes from `a` to the end of `n` bytes of groups, the tails between them included (R127). -/
def spanOf (fmt a n : Nat) : Nat :=
  if n == 0 then 0
  else
    let u := usedTo fmt (a % 65536) + n - 1
    u / tileUse fmt * 65536 + u % tileUse fmt + 1 - a % 65536

/-- Bytes of groups laid out from an address: the tails of the tiles stay 0 (R127; fuel: bytes). -/
def layGroups (fmt : Nat) : Nat → Nat → List Nat → List Nat
  | 0, _, _ => []
  | f + 1, a, bs =>
    if bs.isEmpty then []
    else
      let room := tileUse fmt - min (a % 65536) (tileUse fmt)
      if bs.length ≤ room then bs
      else bs.take room ++ List.replicate (65536 - a % 65536 - room) 0 ++ layGroups fmt f 0 (bs.drop room)

/-- Elements that a run of `n` bytes from `a` holds, the tails of its tiles left out (R127). -/
def runElems (fmt a n : Nat) : Nat :=
  let u := usedTo fmt (a + n) - usedTo fmt a
  if isMx fmt then u / groupBytes fmt * 1024 + (u % groupBytes fmt - 32) * 8 / fmtWidth fmt
  else u * 8 / (streamForm fmt).1

/-- Bytes of a run from `a` that its first `live` elements need: whole groups for an MX format, with the tails of tiles
that lie between them (R127, R181). -/
def liveBytes (fmt a run live : Nat) : Nat :=
  let u := if isMx fmt then cdiv live 1024 * groupBytes fmt else cdiv (live * (streamForm fmt).1) 8
  let room := tileUse fmt - a % 65536
  min run (if u ≤ room then u else (65536 - a % 65536) + (u - room) + (u - room - 1) / tileUse fmt * (65536 - tileUse fmt))

/-- The bytes of a run from `a` that hold elements (R127). -/
def usedBytes (fmt a : Nat) (bs : List Nat) : List Nat :=
  (((List.range bs.length).zip bs).filter (fun e => (a + e.1) % 65536 < tileUse fmt)).map (fun e => e.2)

/-- Write codes laid out over a run from `a`: nothing is written in the tails of tiles (R127; fuel: bytes). -/
def layOut (fmt a : Nat) : Nat → List Nat → List Nat
  | 0, _ => []
  | n + 1, l =>
    if a % 65536 < tileUse fmt then l.headD 256 :: layOut fmt (a + 1) n (l.drop 1) else 256 :: layOut fmt (a + 1) n l

/-- Fabric tokens of `live` elements of a run. -/
def liveToks (fmt live : Nat) : Nat :=
  let e := (streamForm fmt).2
  if isMx fmt then cdiv live 1024 * (1 + 1024 / max 1 e) else cdiv live (max 1 e)

/-- Tokens of packed elements: `n` holds `count` elements of `w` bits; every token of `e` elements takes w × e of the
bits (R125, R126). -/
def elemTokens (n w e count : Nat) : List Payload :=
  let v := n % 2 ^ (w * count)
  (List.range (cdiv count (max 1 e))).map (fun i => BitVec.ofNat 256 ((v >>> (w * e * i)) % 2 ^ (w * e)))

/-- Fabric tokens of the bytes of a run with its first `live` elements live (R126, R127, R181). -/
def runTokens (fmt live : Nat) (bs : List Nat) : List Payload :=
  let (w, e) := streamForm fmt
  if isMx fmt then
    (List.range (cdiv live 1024)).flatMap (fun g =>
      let l := min 1024 (live - 1024 * g)
      let gb := (bs.drop (g * groupBytes fmt)).take (groupBytes fmt)
      let scale := ofLE (gb.take 32) % 2 ^ (8 * cdiv l 32)
      let el := ofLE (gb.drop 32) % 2 ^ (w * l)
      BitVec.ofNat 256 scale :: elemTokens el w e 1024)
  else elemTokens (ofLE bs) w e live

/-- Write codes of which only the first `n` bits are written: whole bytes, then the low bits of one (R181). -/
def liveBits (n : Nat) (bs : List Nat) : List Nat :=
  ((List.range bs.length).zip bs).map (fun e =>
    if 8 * (e.1 + 1) ≤ n then e.2
    else if n ≤ 8 * e.1 || 256 ≤ e.2 then 256
    else 1024 + 256 * (2 ^ (n - 8 * e.1) - 1) + e.2 % 256)

/-- Write codes for the tokens of a run with `live` live elements: nothing is written for an annulled token or at a dead
position (R41, R127, R181). -/
def tokenBytes (fmt live : Nat) (ts : List DTok) : List Nat :=
  let (w, e) := streamForm fmt
  let elem := fun (t : DTok) => if t.pv then leBytes (t.pay.toNat % 2 ^ (w * e)) (w * e / 8) else List.replicate (w * e / 8) 256
  let word := fun (t : DTok) => if t.pv then leBytes t.pay.toNat 32 else List.replicate 32 256
  let per := 1 + 1024 / max 1 e
  if isMx fmt then
    (List.range (cdiv live 1024)).flatMap (fun g =>
      let l := min 1024 (live - 1024 * g)
      let grp := (ts.drop (per * g)).take per
      liveBits (8 * cdiv l 32) ((grp.take 1).flatMap word) ++ liveBits (w * l) ((grp.drop 1).flatMap elem))
  else liveBits (w * live) (ts.flatMap elem)

/-! ### The transfers of a tile -/

/-- A piece of a run: first byte, length, live elements of the run where it ends (0 where it does not), run number. -/
structure Piece where
  addr : Int
  len : Nat
  runEnd : Nat
  run : Nat
deriving DecidableEq, Repr, Inhabited

/-- `n` bytes from an address cut at every 4 KiB boundary (fuel: pieces). -/
def cutRun (a : Int) (n live run : Nat) : Nat → List Piece
  | 0 => []
  | f + 1 =>
    let room := 4096 - (a % 4096).toNat
    if n ≤ room then [{ addr := a, len := n, runEnd := live, run := run }]
    else { addr := a, len := room, runEnd := 0, run := run } :: cutRun (a + room) (n - room) live run f

/-- Index of the tile along a shape entry, 0 for an untiled one. -/
def alongDim (sh : List ShapeEnt) (idx : List Nat) (e : Nat) : Nat :=
  let en := sh.getD e default
  if en.tiled then idx.getD en.order 0 * en.tile else 0

/-- Runs of a tile on a stream that lie within the extent they step along (R181, R195). -/
def liveSteps (st : Stream) (sh : List ShapeEnt) (ext idx : List Nat) : Nat :=
  min st.runs (ext.getD st.stepDim 0 - alongDim sh idx st.stepDim)

/-- First byte of run j of a tile (R195). -/
def runStart (st : Stream) (idx : List Nat) (base j : Nat) : Int :=
  base + st.offset + ((List.range idx.length).map (fun p => (idx.getD p 0 : Int) * st.tstride.getD p 0)).sum
    + (j : Int) * st.stride

/-- Live elements of run j of a tile (R181, R195). -/
def liveOf (st : Stream) (sh : List ShapeEnt) (ext idx : List Nat) (base j : Nat) : Nat :=
  min (runElems st.fmt (runStart st idx base j % 65536).toNat st.run) (ext.getD st.runDim 0 - alongDim sh idx st.runDim)

/-- The pieces of a tile on a stream, in order (R195). -/
def tilePieces (st : Stream) (sh : List ShapeEnt) (ext idx : List Nat) (base : Nat) : List Piece :=
  (List.range (liveSteps st sh ext idx)).flatMap (fun j =>
    let a := runStart st idx base j
    let live := liveOf st sh ext idx base j
    if live == 0 then [] else cutRun a (liveBytes st.fmt (a % 65536).toNat st.run live) live j 20)

/-- A stream that function cells of its drawer cut into rows: the extent along its runs is one that a function cell reads
as a run-time row length (R149, R181; DEDUCED, log 90). -/
def Drawer.rowCut (x : Drawer) (st : Stream) : Bool :=
  logicalSites.any (fun n => x.runRows n && bits (x.cfg n 1031) 5 1 == st.runDim)

/-- Tokens of a tile without a live position: a row of length zero occupies one token, whose lanes are all ignored
(R149); a stream that is not cut into rows carries one annulled token (R181). -/
def Drawer.emptyTile (x : Drawer) (st : Stream) (ext idx : List Nat) : Nat × Bool :=
  let rows := if x.rowCut st then liveSteps st x.shapes ext idx else 0
  if rows == 0 then (1, false) else (rows, true)

/-! ### Tokens routed to a unit alone -/

/-- The scratch buffer a token fills: the one that is filling, else a new one while fewer than BUFS are held (R200). -/
def fillBuf (bs : List Buf) (count : Nat) : Option (List Buf × Buf) :=
  match bs.reverse with
  | b :: r => if !b.last then some (r.reverse, b) else
      (if bs.length < count then
        some (bs, { ix := ((List.range count).find? (fun i => bs.all (fun x => x.ix != i))).getD 0, toks := 0, last := false, live := []
                    left := none })
       else none)
  | [] => if 0 < count then some ([], { ix := 0, toks := 0, last := false, live := [], left := none }) else none

/-- A token fills a scratch cell; none where no buffer is free (R200). -/
def State.scratchTake (s : State) (b site : Nat) (t : DTok) : Option State :=
  let d := s.drawer b t.ctx
  let k := unitKey b site t.ctx
  match fillBuf (tget s.bufs k) (d.cfg site 1025) with
  | none => none
  | some (rest, x) =>
    let per := d.cfgN site 1032 4 / 32
    let w := siteKey b site * 32768 + d.cfgN site 1028 4 / 32 + x.ix * per + x.toks
    some { s with
      bufs := tset s.bufs k (rest ++ [{ x with toks := x.toks + 1, last := t.last, live := x.live ++ [t.pv] }])
      sram := if t.pv && x.toks < per then tset s.sram w t.pay else s.sram }

/-- A pleach token reaches a member: it keeps the first m × b tokens of a fill and forwards the rest; none where the
fill must wait for the LAST of the tile two before (R202, R203). LAST ends the fill; where a short fill ends among the
tokens kept, an annulled LAST goes on to the next member (DESIGN CHOICE, log 91). -/
def State.pleachTake (s : State) (b site : Nat) (e : Member) (t : DTok) : Option State :=
  let d := s.drawer b t.ctx
  let m := s.mx b site t.ctx
  let c := mxcClass (d.cfg site 1025)
  let per := c.elemToks + c.scaleToks
  let keep := e.blocks * per
  if e.mode == 1 && m.tile + 2 ≤ m.fill then none
  else
    let m1 := { m with fill := if t.last then m.fill + 1 else m.fill, got := if t.last then 0 else m.got + 1 }
    if m.got < keep then
      let blk := e.half m.fill + m.got / per
      let m2 := { m1 with
        bank := if t.pv then tset m.bank (blk * 64 + m.got % per) t.pay else m.bank
        full := if m.got % per + 1 == per then tset m.full blk (m.fill + 1) else m.full }
      let s1 := s.putMx b site t.ctx m2
      some (if t.last && !e.isLast then s1.putSite b site ((s1.site b site).emitD e.outLane t.ctx 0 true false) else s1)
    else if e.isLast then some (s.putMx b site t.ctx m1)
    else
      let s1 := s.putMx b site t.ctx m1
      some (s1.putSite b site ((s1.site b site).emitD e.outLane t.ctx t.pay t.last t.pv))

/-- The write streams of a fetch unit that take an input lane. -/
def Drawer.writeStream (x : Drawer) (site lane : Nat) : Option Nat :=
  ((List.range (min 8 (x.cfg site 1024))).find? (fun k => (x.stream site k).write && (x.stream site k).lane == lane))

/-- A unit takes a token that is routed to it alone; none where it cannot take it now. -/
def State.unitTake (s : State) (b site lane : Nat) (t : DTok) : Option State :=
  let d := s.drawer b t.ctx
  match kindOf site with
  | .scc => if d.cfg site 1025 != 0 && d.cfg site 1036 % 8 == lane then s.scratchTake b site t else some s
  | .mxc => (match d.member site with
    | some e => if e.inLane == lane then s.pleachTake b site e t else some s
    | none => some s)
  | .ftu => (match d.writeStream site lane with
    | some k =>
      let x := s.srcOf b site t.ctx
      some (s.putSrc b site t.ctx { x with wbuf := tset x.wbuf k (tget x.wbuf k ++ [t]) })
    | none => some s)
  | _ => some s

end Sys2Proof.Machine
end

