-- ==== Sys2Proof/Machine/TileUnits.lean ====
section
/-!
DEFINITION. The commands of the tile space: shape and claim tokens (R184, R188), the pacer and the tally (R186 to
R193), the fetch units (R194 to R198), scratch read-out (R200), pleach waits (R204) and FENCE (R43).
-/
namespace Sys2Proof.Machine

/-! ### SHAPE, CLAIM and FENCE tokens -/

/-- The stand-alone token of an opcode at the head of a control queue that is due (R44). -/
def State.dueToken (s : State) (b site input opc : Nat) : Option CTok :=
  match s.headC b site input with
  | none => none
  | some t => if cOpc t == opc && s.seqDue b site input t then some t else none

/-- SHAPE: a fragment of an extent reaches the unit (R184). -/
def opShape (bay row col input : Nat) (s : State) : State :=
  let site := siteNo row col
  match s.dueToken bay site input opcShape with
  | none => s
  | some t =>
    let x := s.srcOf bay site (cCtx t)
    (s.putSrc bay site (cCtx t) { x with frags := x.frags ++ [cArg t] }).popC bay site input

def execShape (bay row col input : Nat) (s : State) : Outcome :=
  onUnit (siteOk bay row col && input < 5) (opShape bay row col input) s

/-- CLAIM: a source learns of a claim-window entry, or of exhaustion (R188). -/
def opClaim (bay row col input : Nat) (s : State) : State :=
  let site := siteNo row col
  match s.dueToken bay site input opcClaim with
  | none => s
  | some t =>
    let d := cCtx t
    let x := s.srcOf bay site d
    let s1 := s.popC bay site input
    if bitOf (cArg t) 11 then s1.putSrc bay site d { x with exhausted := true }
    else
      let cs := s.claimsOf bay d
      match ((List.range cs.length).zip cs).find? (fun e =>
          e.2.ix == cArg t % 4 && !e.2.freed && !x.claims.contains e.1) with
      | some (n, _) => s1.putSrc bay site d { x with claims := x.claims ++ [n] }
      | none => s1

def execClaim (bay row col input : Nat) (s : State) : Outcome :=
  onUnit (siteOk bay row col && input < 5) (opClaim bay row col input) s

/-- FENCE: the context is held at the unit until every earlier tier write of it is acknowledged (R43). -/
def opFence (bay row col input : Nat) (s : State) : State :=
  let site := siteNo row col
  match s.dueToken bay site input opcFence with
  | none => s
  | some t =>
    let d := cCtx t
    let x := s.site bay site
    if s.xfers.any (fun e => !e.read && e.unit / 480 == bay && e.unit % 4 == d) then
      s.putSite bay site { x with fence := tset x.fence d (tgetD x.fence d s.fclkNow) }
    else (s.putSite bay site { x with fence := tdel x.fence d }).popC bay site input

def execFence (bay row col input : Nat) (s : State) : Outcome :=
  onUnit (siteOk bay row col && input < 5) (opFence bay row col input) s

/-! ### Work that a bay's sources start (R75, R479) -/

/-- The cap gate lets sources start work in the present fclk: A of every 256 fclk, spread evenly (R479). Which fclk of the
256 they are is the model's (DESIGN CHOICE, log 94). -/
def State.gateOpen (s : State) : Bool :=
  (s.fclkNow + 1) * s.pwr.admitN / 256 != s.fclkNow * s.pwr.admitN / 256

/-- Sources of a bay may start work under a drawer: it is the bay's active one and not FAULTED, and the bay is not frozen
(R75, R77, R282). -/
def State.mayStart (s : State) (b d : Nat) : Bool :=
  (s.bay b).active == d && (s.drawer b d).st == .active && (s.bay b).frozen.isNone

/-! ### Pacer and tally (R105, R107, R186 to R193) -/

/-- Claims granted: the events but the closing claim (R105). -/
def Inst.grants (x : Inst) : Nat := if x.closed && !x.now then x.events - 1 else x.events

/-- Due value of the end of an instance: of the claims that it was granted (R105, R191). -/
def Inst.endDue (x : Inst) : Nat :=
  if x.grants == 0 then x.fill + x.drainEmpty else x.fill + x.grants * x.perTile + x.drain

/-- Due value of the next pacing event (R105). -/
def Inst.due (x : Inst) : Nat := if x.closed && !x.now then x.endDue else x.fill + x.events * x.perTile

/-- Unfinished tiles of a bay (R188). -/
def State.unfinished (s : State) (b d : Nat) : Nat := ((s.claimsOf b d).filter (fun c => !c.freed)).length

/-- Sites of a bay with ROLE SOURCE under a drawer. -/
def Drawer.sources (x : Drawer) : List Nat := logicalSites.filter x.isSource

/-- CLAIM tokens to every source unit of a bay (R188). -/
def State.tellSources (s : State) (b d arg : Nat) : State :=
  (s.drawer b d).sources.foldl (fun st n => st.deliver b n [mkC opcClaim d (st.nextDue b n d) arg]) s

/-- The CLAIMER of a bay has an ask to make: it knows its shapes, holds fewer than PREFETCH + 1 unfinished tiles, has not
been told that the tally is exhausted, and no ask of its bay waits (R75, R184, R188). -/
def State.claimReady (s : State) (b d : Nat) : Bool :=
  let dr := s.drawer b d
  let x := s.srcOf b (siteOfByte (dr.imgByte 261)) d
  match s.inst b d with
  | none => false
  | some i => s.mayStart b d && i.pre == .run && 3 * dr.entries ≤ x.frags.length && !x.exhausted
      && !i.waiting.contains (b - dr.b0) && s.unfinished b d ≤ dr.prefetch

/-- CLAIM_ASK: the bay's CLAIMER asks the pacer (R75, R187, R188, R479). After the closing claim it is answered at once. -/
def opClaimAsk (bay d : Nat) (s : State) : State :=
  match s.inst bay d with
  | none => s
  | some i =>
    if !s.claimReady bay d || !s.gateOpen then s
    else if i.closed then s.tellSources bay d 0x800
    else s.putInst (s.instKey bay d) { i with waiting := i.waiting ++ [bay - (s.drawer bay d).b0] }

def execClaimAsk (bay d : Nat) (s : State) : Outcome := onUnit (bay < 32 && d < 4) (opClaimAsk bay d) s

/-- The bay offset served next, round-robin after the one served last (R189). -/
def nextOffset (waiting : List Nat) (served : Nat) : Option Nat :=
  match (List.range 32).find? (fun k => waiting.contains ((served + 1 + k) % 32)) with
  | some k => some ((served + 1 + k) % 32)
  | none => none

/-- A free entry of a claim window: 4 entries a drawer (R188). -/
def freeEntry (cs : List Claim) : Option Nat :=
  (List.range 4).find? (fun i => cs.all (fun c => c.freed || c.ix != i))

/-- PACER_RELEASE: the claim due in the present fclk is released to an asking bay (R107, R187, R188); the closing claim
answers every bay that asks (R187). Nothing is released once a pre-emption has been accepted (R192). -/
def opPacerRelease (b0 d : Nat) (s : State) : State :=
  match tfind s.insts (b0 * 4 + d) with
  | none => s
  | some i =>
    if i.now || i.closed || i.pre != .run || i.p + 1 != i.due then s
    else match nextOffset i.waiting i.served with
      | none => s
      | some off =>
        let b := b0 + off
        let i1 := { i with now := true, waiting := i.waiting.filter (· != off), served := off }
        match i.lead with
        | c :: r =>
          let dr := s.drawer b d
          let cs := s.claimsOf b d
          (match freeEntry cs with
          | none => s
          | some ix =>
            let idx := tileIndices dr.shapes dr.extents c
            let s1 := s.putInst (b0 * 4 + d) { i1 with lead := r }
            let s2 := { s1 with
              claims := tset s1.claims (b * 4 + d)
                (cs ++ [({ ix := ix, tile := c, idx := idx, lastBy := [], freed := false } : Claim)]) }
            (s2.tellSources b d ix).bump 0x3120 (b0 + 1) 1)
        | [] =>
          if i.exhausted then
            (off :: i1.waiting).foldl (fun st o => st.tellSources (b0 + o) d 0x800)
              (s.putInst (b0 * 4 + d) { i1 with closed := true, waiting := [] })
          else s

def execPacerRelease (b0 d : Nat) (s : State) : Outcome := onUnit (b0 < 32 && d < 4) (opPacerRelease b0 d) s

/-- A pacer's lead is short: it asks its tally for another tile number (R187, R192). -/
def Inst.wants (i : Inst) : Bool := !i.asked && !i.exhausted && !i.closed && i.lead.length < 2 && i.pre == .run

/-- Ports with a request at the tally arbiter of an I/O die: 0 to 31 the pacers by base bay, 32 to 39 the spline links
(R190). -/
def State.tallyPorts (s : State) (die : Nat) : List Nat :=
  (s.insts.filter (fun e => e.2.wants && !e.2.away && e.2.tally / 64 == die && s.carcassUp (e.1 / 16) (8 + die))).map (fun e => e.1 / 4)
  ++ (s.link.links.filter (fun e => match e.2.inbox.find? (fun m => m.type == 4 && m.dest == s.faddr) with
      | some m => m.arg % 256 / 64 == die
      | none => false)).map (fun e => 32 + e.1 % 8)

/-- The jig serves: no hand-over holds the tally service (R190, R496). -/
def State.jigUp (s : State) : Bool := s.partUp s.ren.active

/-- A port is served next by the round-robin arbiter of an I/O die (R190). -/
def State.tallyTurn (s : State) (die port : Nat) : Bool :=
  s.jigUp && rrTurn (tget s.arb die) 40 (s.tallyPorts die) port

/-- A port has been served: the pointer moves on, and the requests that stay each wait one iclk (R190, R206). -/
def State.tallyServed (s : State) (die port : Nat) : State :=
  ({ s with arb := tset s.arb die ((port + 1) % 40) } : State).bump 0x3121 (die + 1)
    ((s.tallyPorts die).filter (· != port)).length

/-- Fetch-and-add on a tally: NEXT, or none where it is exhausted (R186). -/
def State.fetchAdd (s : State) (k : Nat) : Option Nat × State :=
  let t := tget s.tallies k
  if t.next < t.t then (some t.next, { s with tallies := tset s.tallies k { t with next := t.next + 1 } }) else (none, s)

/-- TALLY_REQUEST: a pacer whose lead is short asks its tally, which answers by an atomic fetch-and-add: a scratch cell's
at once, an I/O die's as its arbiter serves its ports; for a tally on another device, named by fabric address, number and
join key, a CLAIM goes out (R186, R187, R190, R191, R424, R430). -/
def opTallyRequest (b0 d : Nat) (remote : Option (Nat × Nat × Nat)) (s : State) : State :=
  let k := b0 * 4 + d
  match tfind s.insts k with
  | none => s
  | some i =>
    if !i.wants then s
    else match remote with
      | some (dest, num, key) =>
        let m : Msg := { type := 4, dest := dest, src := 0, arg := num % 256 + key % 65536 * 256 }
        let i1 := { i with asked := true, askedAt := s.fclkNow, away := true }
        if !(s.drawer b0 d).spanDev || (!i.away && 0 < (tget s.tallies i.tally).next) then s
        else
          let s0 := { s with tallies := tmod s.tallies i.tally (fun t => { t with used := t.used && i.away }) }
          match s0.sendReq m k (.claim k) b0 1 with
          | none => s0.putInst k { i1 with refused := some stGone }
          | some s1 => if s1.link.reqs.length == s.link.reqs.length then s else s1.putInst k i1
      | none =>
        let die := i.tally / 64
        if i.away then s
        else if i.tally < 256 && !(s.tallyTurn die b0 && s.carcassUp (b0 / 4) (8 + die)) then s
        else
          let (n, s1) := (if i.tally < 256 then s.tallyServed die b0 else s).fetchAdd i.tally
          s1.putInst k { i with asked := true, askedAt := s.fclkNow, answer := some n }

def execTallyRequest (b0 d : Nat) (remote : Option (Nat × Nat × Nat)) (s : State) : Outcome :=
  onUnit (b0 < 32 && d < 4) (opTallyRequest b0 d remote) s

/-- TALLY_ANSWER: the answer joins the pacer's lead (R187, R192); another status from another device ends the task with
it (R193, R424, R428). -/
def opTallyAnswer (b0 d : Nat) (s : State) : State :=
  match tfind s.insts (b0 * 4 + d) with
  | none => s
  | some i =>
    if !i.asked then s
    else
      let i1 := { i with asked := false, answer := none, refused := none }
      match i.refused with
      | some st =>
        let s1 := s.putInst (b0 * 4 + d) i1
        { s1 with
          jig := { s1.jig with
            tasks := tmap s1.jig.tasks (fun k t => if k == i.task then { t with status := worst t.status st } else t) } }
      | none => match i.answer with
        | none => s
        | some none => s.putInst (b0 * 4 + d) { i1 with exhausted := true }
        | some (some c) => s.putInst (b0 * 4 + d) { i1 with lead := i1.lead ++ [c] }

def execTallyAnswer (b0 d : Nat) (s : State) : Outcome :=
  onUnit (b0 < 32 && d < 4) (opTallyAnswer b0 d) s

/-! ### Fetch units (R194 to R198) -/

/-- A new tier access, presented at the directory port (R224): its number and the state. -/
def State.newAcc (s : State) (who : Who) (f addr len : Nat) (write : Bool) (data : List Nat) : Nat × State :=
  let n := s.tier.accNext
  (n, { s with tier := { s.tier with
    accNext := n + 1
    accs := s.tier.accs ++ [{
      id := n, who := who, func := f, addr := addr, len := len, write := write, data := data,
      st := .presented, tier := 0, frame := 0, since := s.clk.dcount, status := 0, again := [], bads := [], wrongs := [],
      more := [] }] } })

/-- Ceiling on a fetch unit's transfers outstanding (R196). -/
def State.ftuLimit (s : State) (dr : Drawer) (site : Nat) : Nat := min (dr.cfg site 1025) (s.obj 0x2C20 1)

/-- Transfers of a fetch unit whose reply has not come (R196). -/
def State.ftuOut (s : State) (b site : Nat) : Nat :=
  (s.xfers.filter (fun e => e.unit / 4 == siteKey b site && e.done.isNone)).length

/-- Extents as a fetch unit knows them: a source from its shape burst, another from the drawer (R184). -/
def State.ftuExtents (s : State) (b site d : Nat) : List Nat :=
  let dr := s.drawer b d
  if dr.isSource site then (List.range dr.entries).map (fragExtent (s.srcOf b site d).frags) else dr.extents

/-- A stream that feeds a chain of mode ONCE: one fill an instance (R201, R203). -/
def Drawer.once (x : Drawer) (st : Stream) : Bool := st.pleach && x.imgByte (832 + 200 * st.chain + 1) == 0

/-- Streams of a fetch unit by which a tile ends for it: those that read, or, where none reads, those that write (R188). -/
def Drawer.lastStreams (x : Drawer) (site : Nat) : List Nat :=
  let all := List.range (min 8 (x.cfg site 1024))
  let reads := all.filter (fun j => !(x.stream site j).write)
  if reads.isEmpty then all else reads

/-- Tiles whose LAST a fetch unit has emitted on every stream; a fill that is made once counts for every tile (R188, R203). -/
def Drawer.tilesSent (x : Drawer) (site : Nat) (y : Src) : Nat :=
  (x.lastStreams site).foldl (fun m j =>
    let n := tget y.sent j
    min m (if x.once (x.stream site j) && 1 ≤ n then y.claims.length else n)) y.claims.length

/-- A source has emitted LAST for one more tile on a stream; when it has on every stream the tile is finished for it, and
the window entry is freed once every source of the bay with streams has (R188). -/
def State.sourceLast (s : State) (b site d k : Nat) : State :=
  let dr := s.drawer b d
  let x := s.srcOf b site d
  if !(dr.lastStreams site).contains k then s
  else
    let x1 := { x with sent := tset x.sent k (tget x.sent k + 1) }
    let fin := x1.claims.take (dr.tilesSent site x1)
    let cs := ((List.range (s.claimsOf b d).length).zip (s.claimsOf b d)).map (fun e =>
      if fin.contains e.1 && !e.2.lastBy.contains site then
        let by_ := e.2.lastBy ++ [site]
        { e.2 with lastBy := by_, freed := dr.sources.all (fun n => by_.contains n || kindOf n != .ftu) }
      else e.2)
    { (s.putSrc b site d x1) with claims := tset s.claims (b * 4 + d) cs }

/-- The next step of a stream of a fetch unit: tile number, place in the tile, claim, transfers of the tile, and operand
slot. -/
structure FtuStep where
  tile : Nat
  place : Nat
  claim : Nat
  pieces : List Piece
  slot : Nat × Nat
deriving DecidableEq, Repr

/-- The step that a stream can take now, if it can take one (R181, R195 to R197, R203). -/
def State.ftuStep (s : State) (b site d k : Nat) : Option FtuStep :=
  let dr := s.drawer b d
  let u := s.site b site
  let x := s.srcOf b site d
  let st := dr.stream site k
  let src := dr.isSource site
  let cs := s.claimsOf b d
  let (n, i) := tget x.stream k
  let computed := (cs.filter (fun c => c.freed)).length
  let ready := kindOf site == .ftu && k < min 8 (dr.cfg site 1024) && s.mayStart b d
    && (match s.inst b d with | some q => q.pre == .run | none => false)
    && (tfind u.faulted d).isNone && (tfind u.fence d).isNone && !u.swOut.contains d
    && (!src || 3 * dr.entries ≤ x.frags.length)
    && (if src then n < x.claims.length else n < cs.length)
    && (st.write || n ≤ computed + (if st.runAhead then dr.prefetch else 0))
    && !(dr.once st && 1 ≤ n)
  if !ready then none
  else
    let cn := if src then x.claims.getD n 0 else n
    let cl := cs.getD cn default
    let slot := match tfind s.jig.tasks dr.task with | some t => t.opnds.getD st.opnd (0, 0) | none => (0, 0)
    let ps := tilePieces st dr.shapes (s.ftuExtents b site d) cl.idx slot.1
    let buf := tget x.wbuf k
    let held := match ps[i]? with
      | none => st.write && buf.all (fun t => !t.last)
      | some p => s.ftuLimit dr site ≤ s.ftuOut b site
          || (st.write && buf.length < liveToks st.fmt (liveOf st dr.shapes (s.ftuExtents b site d) cl.idx slot.1 p.run))
    if held then none else some { tile := n, place := i, claim := cn, pieces := ps, slot := slot }

/-- One step's tokens are due before another's: by tile, then by the run they belong to (R196; DEDUCED, log 95). -/
def FtuStep.before (x y : FtuStep) : Bool :=
  let run := fun (z : FtuStep) => match z.pieces[z.place]? with | some p => p.run | none => 0
  x.tile < y.tile || (x.tile == y.tile && run x < run y)

/-- No other stream of the unit has tokens due earlier, and none of a lower number at the same place (R196). -/
def State.ftuFirst (s : State) (b site d k : Nat) (x : FtuStep) : Bool :=
  (List.range 8).all (fun j => j == k || match s.ftuStep b site d j with
    | none => true
    | some y => !y.before x && (k < j || x.before y))

/-- The next step of a stream is taken: a transfer is issued, or a tile without a live position passes (R181, R195). -/
def State.ftuGo (s : State) (b site d k : Nat) (e : FtuStep) : State :=
  let dr := s.drawer b d
  let x := s.srcOf b site d
  let st := dr.stream site k
  let ext := s.ftuExtents b site d
  let cl := (s.claimsOf b d).getD e.claim default
  let i := e.place
  let next := fun (y : Src) => { y with
    stream := tset y.stream k (if e.pieces.length ≤ i + 1 then (e.tile + 1, 0) else (e.tile, i + 1)) }
  let buf := tget x.wbuf k
  match e.pieces[i]? with
  | none =>
    if st.write then
      let rest := (buf.dropWhile (fun t => !t.last)).drop 1
      (s.putSrc b site d (next { x with wbuf := tset x.wbuf k rest })).sourceLast b site d k
    else
      let (m, live) := dr.emptyTile st ext cl.idx
      let s1 := s.putSite b site ((s.site b site).emitMany st.lane d (List.replicate m 0) true live)
      (s1.putSrc b site d (next x)).sourceLast b site d k
  | some p =>
    if p.addr < e.slot.1 || (e.slot.1 + e.slot.2 : Int) < p.addr + p.len then s.faultCtx b site d stWindow
    else
      let live := liveOf st dr.shapes ext cl.idx e.slot.1 p.run
      let need := liveToks st.fmt live
      let a := (runStart st cl.idx e.slot.1 p.run % 65536).toNat
      let before := ((e.pieces.take i).filter (fun q => q.run == p.run)).foldl (fun m q => m + q.len) 0
      let data := if st.write then
          ((layOut st.fmt a (liveBytes st.fmt a st.run live) (tokenBytes st.fmt live (buf.take need))).drop before).take p.len
        else []
      let (id, s1) := s.newAcc (.ftu b (unitKey b site d) k) dr.func p.addr.toNat p.len st.write data
      let y := next (if st.write && p.runEnd != 0 then { x with wbuf := tset x.wbuf k (buf.drop need) } else x)
      let xf : Xfer := {
        acc := id, unit := unitKey b site d, stream := k, read := !st.write, addr := p.addr.toNat, len := p.len,
        claim := e.claim, runEnd := p.runEnd, last := e.pieces.length ≤ i + 1, since := s.fclkNow, done := none }
      let computed := ((s.claimsOf b d).filter (fun c => c.freed)).length
      let s2 := { s1 with xfers := s1.xfers ++ [xf] }
      (s2.putSrc b site d y).bump 0x3124 (b + 1) (if !st.write && computed < e.tile then p.len else 0)

/-- FTU_TRANSFER_ISSUE: the next transfer of a stream is issued, streams in the order their tokens are due, while the cap
gate lets sources start (R181, R195 to R197, R479). A tile with no live token takes no transfer: a read stream carries
what R181 and R149 give it, a write stream takes the tile's tokens. -/
def opFtuTransferIssue (bay row col d k : Nat) (s : State) : State :=
  let site := siteNo row col
  match s.ftuStep bay site d k with
  | none => s
  | some e => if s.gateOpen && s.ftuFirst bay site d k e then s.ftuGo bay site d k e else s

def execFtuTransferIssue (bay row col d k : Nat) (s : State) : Outcome :=
  onUnit (siteOk bay row col && d < 4 && k < 8) (opFtuTransferIssue bay row col d k) s

/-- The tokens of the replies at the front of a stream are emitted, in order (R196; fuel: transfers). -/
def State.ftuEmit (s : State) (b site d k : Nat) : Nat → State
  | 0 => s
  | f + 1 =>
    let key := unitKey b site d
    match takeFirst (fun (e : Xfer) => e.unit == key && e.stream == k) s.xfers with
    | none => s
    | some (e, rest) =>
      match e.done with
      | none => s
      | some bs =>
        let s1 := { s with xfers := rest }
        if !e.read then (if e.last then s1.sourceLast b site d k else s1).ftuEmit b site d k f
        else
          let st := (s.drawer b d).stream site k
          let x := s.srcOf b site d
          let buf := tget x.rbuf k ++ bs
          let s2 :=
            if e.runEnd == 0 then s1.putSrc b site d { x with rbuf := tset x.rbuf k buf }
            else
              let s3 := s1.putSrc b site d { x with rbuf := tdel x.rbuf k }
              let start := e.addr + e.len - buf.length
              s3.putSite b site ((s3.site b site).emitMany st.lane d
                (runTokens st.fmt e.runEnd (usedBytes st.fmt (start % 65536) buf)) e.last true)
          (if e.last then s2.sourceLast b site d k else s2).ftuEmit b site d k f

/-- FTU_TRANSFER_REPLY: the reply of access `acc` returns (R196, R198). -/
def opFtuTransferReply (acc : Nat) (s : State) : State :=
  match s.tier.accs.find? (fun a => a.id == acc && a.st == .done) with
  | none => s
  | some a =>
    match a.who, s.xfers.find? (fun e => e.acc == acc) with
    | .ftu b unit k, some _ =>
      let site := unit / 4 % 120
      let d := unit % 4
      let s1 := { s with tier := { s.tier with accs := s.tier.accs.filter (fun y => y.id != acc) } }
      if a.status != stOk then
        let s2 := ({ s1 with xfers := s1.xfers.filter (fun e => e.acc != acc) } : State).faultCtx b site d a.status
        match s.inst b d with
        | some i => s2.modTask i.task (fun t => if t.st == .saving then { t with status := worst t.status a.status } else t)
        | none => s2
      else
        let s2 := { s1 with xfers := mapFirst (fun (e : Xfer) => e.acc == acc) (fun e => { e with done := some a.data }) s1.xfers }
        if (tfind (s2.site b site).faulted d).isSome then
          { s2 with xfers := s2.xfers.filter (fun e => e.acc != acc) }
        else s2.ftuEmit b site d k s2.xfers.length
    | _, _ => s

def execFtuTransferReply (acc : Nat) (s : State) : Outcome := .next (opFtuTransferReply acc s)

/-! ### Scratch cells and pleach chains -/

/-- SCRATCH_BUFFER_READOUT: the oldest buffer, once its tile's LAST is in it, is read out; it is free when its last token
has left the cell (R200). -/
def opScratchBufferReadout (bay row col d : Nat) (s : State) : State :=
  let site := siteNo row col
  let dr := s.drawer bay d
  let k := unitKey bay site d
  match takeFirst (fun (x : Buf) => x.left.isNone) (tget s.bufs k) with
  | none => s
  | some (x, _) =>
    if siteKind row col != .scc || !x.last || !s.serves bay d then s
    else
      let per := dr.cfgN site 1032 4 / 32
      let w := siteKey bay site * 32768 + dr.cfgN site 1028 4 / 32 + x.ix * per
      let u := (List.range x.toks).foldl (fun y i =>
        let pay := if i < per then tget s.sram (w + i) else Config.freePayload (s.free + i)
        y.emitD (dr.cfg site 1037 % 8) d pay (i + 1 == x.toks) (x.live.getD i false)) (s.site bay site)
      { (s.putSite bay site u) with
        bufs := tmod s.bufs k (mapFirst (fun (y : Buf) => y.left.isNone) (fun y => { y with left := some y.toks }))
        free := s.free + x.toks }

def execScratchBufferReadout (bay row col d : Nat) (s : State) : Outcome :=
  onUnit (siteOk bay row col && d < 4) (opScratchBufferReadout bay row col d) s

/-- PLEACH_WAIT_TIMEOUT: the chosen pair of a matrix cell has waited for a block longer than PAIR_WATCHDOG since its last
half arrived (R204; DEDUCED, log 96). -/
def opPleachWaitTimeout (bay row col : Nat) (s : State) : State :=
  let site := siteNo row col
  match s.goPair bay site with
  | some (sl, arg) =>
    let d := s.drawer bay sl.ctx
    if siteKind row col == .mxc && bits arg 11 10 == 0 && sl.live
        && !blockReady (d.member site) (s.mx bay site sl.ctx) (bits arg 9 5) && s.obj 0x2C01 1 < s.fclkNow - sl.since then
      s.faultCtx bay site sl.ctx stTimeout
    else s
  | none => s

def execPleachWaitTimeout (bay row col : Nat) (s : State) : Outcome :=
  onUnit (siteOk bay row col) (opPleachWaitTimeout bay row col) s

end Sys2Proof.Machine
end

