-- ==== Sys2Proof/Machine/Accounting.lean ====
section
/-!
DEFINITION. Cycle accounting (R105 to R115): the stall causes as the state asserts them, the procedure of one fclk, the
end of an instance and its record, and the tallies that instances take (R186).
-/
namespace Sys2Proof.Machine

/-! ### Stall causes (R98, R108) -/

/-- Bays of an instance. -/
def Inst.bayList (x : Inst) (b0 : Nat) : List Nat := (List.range (max 1 x.bays)).map (b0 + ·)

/-- Transfers of a section that wait for their reply, each with its tier access. -/
def State.waitingXfers (s : State) (x : Inst) (k : Nat) : List (Xfer × Acc) :=
  (s.xfers.filter (fun e => e.done.isNone && e.unit % 4 == k % 4 && (x.bayList (k / 4)).contains (e.unit / 480))).filterMap
    (fun e => (s.tier.accs.find? (fun a => a.id == e.acc)).map (fun a => (e, a)))

/-- A wait has gone on beyond a figure of the section report: 0 to 2 the tiers, 3 the links (R103). -/
def State.beyond (s : State) (x : Inst) (i since : Nat) : Bool := x.lat.getD i 0 < s.fclkNow - since

/-- Requests of a section that are out on spline links. -/
def State.linkWaits (s : State) (x : Inst) (k : Nat) : List LReq :=
  s.link.reqs.filter (fun r => match r.who with
    | .acc id => (s.waitingXfers x k).any (fun e => e.2.id == id)
    | .claim i => i == k)

/-- A claim is due and its pacer holds no tile number for it (R190). -/
def Inst.starved (x : Inst) : Bool := x.p + 1 == x.due && !x.now && !x.closed && x.lead.isEmpty && !x.exhausted

/-- Code 0: a reply of a tier is late, or a FENCE is held, beyond the report's figure. -/
def State.tierLate (s : State) (x : Inst) (k : Nat) : Bool :=
  (s.waitingXfers x k).any (fun e =>
    let t := if e.2.tier == 0 then (s.leaf (tileOf e.2.addr)).home else e.2.tier
    e.1.read && e.2.st != .remote && e.2.st != .held && t != 0 && s.beyond x (t - 1) e.1.since)
  || s.sites.any (fun e => (x.bayList (k / 4)).contains (e.1 / 120) &&
      (match tfind e.2.fence (k % 4) with | some since => s.beyond x 0 since | none => false))

/-- Code 1: a message of the section waits for credit, or a remote reply is late. -/
def State.creditShort (s : State) (x : Inst) (k : Nat) : Bool :=
  (s.linkWaits x k).any (fun r => (s.lnk r.link).st == .up && (s.lnk r.link).outq.any (fun m =>
    m.xid == r.xid && isRequest m.type && tget (s.lnk r.link).cred (poolOf m.type) < m.size))
  || (s.waitingXfers x k).any (fun e => e.2.st == .remote && s.beyond x 3 e.1.since)
  || (x.away && x.asked && s.beyond x 3 x.askedAt)

/-- Code 2: a due claim waits at the tally arbiter while another section's request is ahead of it. -/
def State.tallyBusy (s : State) (x : Inst) (k : Nat) : Bool :=
  x.starved && x.wants && !x.away && x.tally < 256 && s.jigUp && !s.tallyTurn (x.tally / 64) (k / 4)

/-- Code 3: a transfer of the section is held on a tile in migration. -/
def State.moveHeld (s : State) (x : Inst) (k : Nat) : Bool := (s.waitingXfers x k).any (fun e => e.2.st == .held)

/-- Code 5: the cap gate is closed in this fclk to work that a source of the section could start. -/
def State.gateHeld (s : State) (x : Inst) (k : Nat) : Bool :=
  !s.gateOpen && (x.bayList (k / 4)).any (fun b =>
    s.claimReady b (k % 4) || (logicalSites.filter (fun n => kindOf n == .ftu)).any (fun n =>
      (List.range 8).any (fun j => (s.ftuStep b n (k % 4) j).isSome)))

/-- A token of one context stands in a queue behind a head that `other` names. -/
def behind {α : Type} (ctx : α → Nat) (d : Nat) (other : Nat → Bool) (q : List α) : Bool :=
  match q with
  | [] => false
  | t :: r => other (ctx t) && r.any (fun u => ctx u == d)

/-- A half of one context stands at the head of a queue. -/
def atHead {α : Type} (ctx : α → Nat) (d : Nat) (q : List α) : Bool :=
  match q with
  | [] => false
  | t :: _ => ctx t == d

/-- Code 6: in a section of several bays, a bay still runs another section of the chain while this one could start there,
or a token or half of it stands behind those of another section of the chain (R98). -/
def State.chainHeld (s : State) (x : Inst) (k : Nat) : Bool :=
  let d := k % 4
  1 < x.bays && (x.bayList (k / 4)).any (fun b =>
    let other := fun c => c != d && (s.drawer b c).st.holds && (s.drawer b c).task == x.task
    let st := (s.drawer b d).st
    ((st == .idle || st == .armed) && !x.quiet.contains b && other (s.bay b).active
      && (s.drawer b (s.bay b).active).st == .active)
    || s.sites.any (fun e => e.1 / 120 == b &&
        (e.2.dat.any (fun c => behind DTok.ctx d other c.2.queue)
        || e.2.ctl.any (fun c => behind cCtx d other c.2.queue)
        || (4 ≤ e.2.slots.length && e.2.slots.any (fun sl => other sl.ctx)
            && (e.2.dat.any (fun c => atHead DTok.ctx d c.2.queue) || e.2.ctl.any (fun c => atHead cCtx d c.2.queue))))))

/-- Code 7: the section waits on a partition that is being renewed: the jig in hand-over, a panel on the way to its tally,
a memory unit in recalibration, or a link that is not up (R190, R232, R494). -/
def State.renewalHeld (s : State) (x : Inst) (k : Nat) : Bool :=
  (x.starved && x.wants && !x.away && x.tally < 256 && (!s.jigUp || !s.carcassUp (k / 16) (8 + x.tally / 64)))
  || (s.waitingXfers x k).any (fun e => (e.2.st == .flight || e.2.st == .reread)
      && (wordsOf e.2.addr e.2.len).any (fun w => s.unitHeld (s.wordUnit e.2.tier e.2.frame w)))
  || (s.linkWaits x k).any (fun r => (s.lnk r.link).st != .up)

/-- The causes that the state asserts for the instance with key `k` (base bay × 4 + drawer). -/
def State.asserted (s : State) (k : Nat) (x : Inst) (c : Nat) : Bool :=
  match c with
  | 0 => s.tierLate x k
  | 1 => s.creditShort x k
  | 2 => s.tallyBusy x k
  | 3 => s.moveHeld x k
  | 4 => x.pre != .run
  | 5 => s.gateHeld x k
  | 6 => s.chainHeld x k
  | 7 => s.renewalHeld x k
  | _ => false

/-! ### The accounting unit (R105 to R114) -/

/-- `n` counts of a stall cause. -/
def Inst.stalled (x : Inst) (c n : Nat) : Inst :=
  { x with stall := (List.range 8).map (fun i => x.stall.getD i 0 + (if i == c then n else 0)) }

/-- One fclk of the accounting procedure, `top` being the highest-precedence cause asserted (R106 to R110). -/
def Inst.tick (x : Inst) (top : Option Nat) : Inst :=
  let y := { x with latch := match top with | some c => some c | none => x.latch }
  match y.pre with
  | .saved _ => x
  | .parked _ => x
  | .run =>
    if y.p + 1 == y.due && !y.now then
      match y.latch with
      | none => { y with residual := y.residual + 1, measured := y.measured + 1 }
      | some c => { y.stalled c 1 with measured := y.measured + 1 }
    else
      { y with p := y.p + 1, measured := y.measured + 1, events := y.events + (if y.now then 1 else 0), now := false }
  | _ =>
    let z := { y.stalled 4 1 with measured := y.measured + 1 }
    if y.now then { z with events := y.events + 1, now := false } else z

/-- ACCOUNTING_TICK. -/
def opAccountingTick (bay d : Nat) (s : State) : State :=
  match tfind s.insts (bay * 4 + d) with
  | none => s
  | some x => s.putInst (bay * 4 + d) (x.tick (topCause (s.asserted (bay * 4 + d) x)))

def execAccountingTick (bay d : Nat) (s : State) : Outcome :=
  onUnit (bay < 32 && d < 4) (opAccountingTick bay d) s

/-- The end of an instance occurs in the present fclk (R97, R106, R112). -/
def Inst.finish (x : Inst) : Inst :=
  let p := x.p + 1
  { x with p := p, measured := x.measured + 1,
           residual := if p < x.endDue then (p : Int) - x.endDue else x.residual }

/-- The 128-byte accounting record (R114). -/
def Inst.record (x : Inst) (b0 status : Nat) (faulted : Bool) : List Nat :=
  leBytes x.sect 2 ++ [b0, faulted.toNat + 2 * (x.residual != 0).toNat + 4 * (x.t == 0).toNat, status, 0, 0, 0]
  ++ leBytes x.began 8 ++ leBytes x.measured 8 ++ leBytes x.t 8
  ++ (List.range 8).flatMap (fun c => leBytes (x.stall.getD c 0) 8)
  ++ leBytes (ofInt x.residual 64) 8 ++ List.replicate 24 0

/-- The record of an instance is written and its stall counts are added (R112 to R114, R265). A write that fails leaves its
status with the task, which runs on. -/
def State.writeRecord (s : State) (k : Nat) (x : Inst) (status : Nat) (faulted : Bool) : State :=
  let b0 := k / 4
  let s1 := (List.range 8).foldl (fun st c => st.bump (0x3200 + c) (b0 + 1) (x.stall.getD c 0)) s
  let s2 := if x.residual != 0 then s1.bump 0x3208 (b0 + 1) 1 else s1
  match s2.task x.task with
  | none => s2
  | some t =>
    let s3 := s2.modTask x.task (fun t => { t with insts := t.insts + 1 })
    if t.records == 0 then s3
    else
      let (st, s4) := s3.writeDev t.func (t.acct + 128 * (t.insts % t.records)) (x.record b0 status faulted)
      if st == stOk then s4.bump 0x3209 (b0 + 1) 1
      else s4.modTask x.task (fun t => { t with recSt := worst t.recSt st })

/-! ### Tallies (R186) -/

/-- A free cross-bay tally of an I/O die (R186). -/
def State.freeTally (s : State) (die : Nat) : Option Nat :=
  (s.pickNo ((s.tallies.filter (fun e => e.1 / 64 == die && e.2.used)).map (fun e => e.1 % 64)) 64).map (die * 64 + ·)

/-- The key of the tally an instance takes: the scratch cell's register for a section of one bay, else a free one of
the base bay's die (R186). -/
def State.tallyFor (s : State) (b d : Nat) : Option Nat :=
  let x := s.drawer b d
  if x.bays ≤ 1 then some (256 + siteKey b (siteOfByte (x.imgByte 260)))
  else s.freeTally (dieOfPanel (x.b0 / 4))

/-- A tally is free again; its join key stays, so that a later claim is known to come late (R193). -/
def State.dropTally (s : State) (k : Nat) : State :=
  { s with tallies := tmod s.tallies k (fun t => { t with used := false }) }

end Sys2Proof.Machine
end

