-- ==== Sys2Proof/Machine/ImageCheck.lean ====
section
/-!
DEFINITION. The checks of a drawer image at step 6 of the load procedure and at registration: header and RSV fields
(R81, R82, R86), the tile space with the shape map and pleach table (R177, R178, R201), and the unit configurations
(R117, R146, R194, R199).
-/
namespace Sys2Proof.Machine

/-- Bytes lo to hi - 1 of an image are all 0; an image lists the bytes that are not 0. -/
def Drawer.zeroIn (x : Drawer) (lo hi : Nat) : Bool := x.img.all (fun c => !(lo ≤ c.1 && c.1 < hi))

/-- The same of a site's record. -/
def Drawer.rsv (x : Drawer) (site lo hi : Nat) : Bool := x.zeroIn (recOff site lo) (recOff site hi)

/-- A row and column byte names a logical site of a kind. -/
def siteByteOk (v : Nat) (k : SiteKind) : Bool :=
  v / 16 < 10 && v % 16 < 12 && !siteSpare (v / 16) (v % 16) && siteKind (v / 16) (v % 16) == k

/-- A format code is listed (R117). -/
def fmtListed (c : Nat) : Bool := (fmtOf c).isSome || c == 0x1F

/-- The format code is one of 0x01 to `hi`. -/
def plainUpTo (c hi : Nat) : Bool := 1 ≤ c && c ≤ hi

/-- Operand class of a format that a matrix cell multiplies (R116). -/
def operandClass (c : Nat) : Option Nat :=
  match c with
  | 0x01 => some 0 | 0x06 => some 0 | 0x11 => some 0
  | 0x02 => some 1 | 0x03 => some 1 | 0x12 => some 1 | 0x13 => some 1
  | 0x04 => some 2 | 0x05 => some 2 | 0x07 => some 2 | 0x14 => some 2 | 0x15 => some 2 | 0x17 => some 2
  | 0x08 => some 3 | 0x09 => some 4 | 0x0A => some 5
  | _ => none

/-- A matrix cell's configuration (R117). -/
def Drawer.mxcOk (x : Drawer) (site : Nat) : Bool :=
  let cf := x.cfg site
  let k := operandClass (cf 1024)
  let out := cf 1026
  k.isSome && operandClass (cf 1025) == k && fmtListed out && out != 0x0B
  && ((k.getD 0 < 3) || plainUpTo out 0x0A || (0x11 ≤ out && out ≤ 0x17))
  && cf 1027 % 4 ≤ 1 && cf 1027 / 8 == 0
  && 1 ≤ cf 1028 && cf 1028 ≤ 32 && (!isMx out || cf 1028 == 32)
  && cf 1029 % 8 ≤ 4 && (k != some 1 || cf 1029 / 8 % 8 ≤ 4) && cf 1029 / 64 == 0
  && x.rsv site 1030 4096

/-- Formats and fields that a function-cell operation uses (R146, R147). -/
def FncCfg.opOk (c : FncCfg) (entries : Nat) : Bool :=
  let i := c.inFmt
  let o := c.outFmt
  let row := if c.rowSrc then c.rowDim < entries else 1 ≤ c.rowLen && c.rowLen ≤ 2 ^ 24
  let two := c.in2 ≤ 4
  match c.op with
  | 0 => true
  | 1 => plainUpTo i 0x0B && plainUpTo o 0x0B && row
  | 2 => plainUpTo i 0x0A && plainUpTo o 0x0A && plainUpTo c.fn 0x0A && row
  | 3 => plainUpTo i 0x0A && plainUpTo o 0x0A && c.fn ≤ 0x0A && 1 ≤ c.constLen && c.constLen ≤ 256 && row
      && (c.src2 == 0 || two)
  | 4 => plainUpTo i 0x0A && o == i && row && two
  | 5 => plainUpTo i 0x0A && two
  | 6 => (if c.lutKind == 1 then i == 0x06 || i == 0x07 else c.lutKind == 2 && plainUpTo i 0x0A)
      && plainUpTo o 0x0A && row
  | 7 => plainUpTo i 0x0A && o == 0x0A && row
  | 8 => plainUpTo i 0x0A && (o == 0x08 || o == 0x0A) && row && two
  | 9 => (i == 0x08 || i == 0x0A) && plainUpTo o 0x0A && row && two
  | 10 => plainUpTo i 0x0A && (o == 0x04 || o == 0x05 || (0x08 ≤ o && o ≤ 0x0A)) && row
      && (c.c0 == 0x80000000 || (!bitOf c.c0 31 && ofFp32 c.c0 != .nan))
  | 11 => i == 0x0B && o == 0x07 && row
  | 12 => i == 0x0C && o == 0x0B && (!c.accum || two)
  | _ => false

/-- A function cell's configuration (R146). -/
def Drawer.fncOk (x : Drawer) (site : Nat) : Bool :=
  let cf := x.cfg site
  (x.fncCfg site).opOk x.entries
  && cf 1027 % 4 ≤ 1 && !bitOf (cf 1027) 7 && cf 1029 / 64 == 0 && cf 1029 % 8 ≤ 4 && cf 1030 / 32 == 0
  && cf 1031 / 64 == 0 && cf 1036 ≤ 2 && cf 1037 == 0 && cf 1044 / 2 == 0 && x.rsv site 1045 2048

/-- A site record: KIND, ROLE, RSV fields and the unit's configuration (R82, R86, R194, R199). -/
def Drawer.recordOk (x : Drawer) (site : Nat) : Bool :=
  let k := kindOf site
  x.cfg site 0 == k.code && x.cfg site 1 / 4 == 0 && x.rsv site 2 64 &&
  (match k with
   | .mxc => x.mxcOk site
   | .fnc => x.fncOk site
   | .scc => x.rsv site 1026 1028 && x.rsv site 1038 4096
   | .ftu => x.rsv site 1026 1032 && x.rsv site 1544 4096
      && (List.range 8).all (fun j => x.cfg site (1032 + 64 * j + 3) / 32 == 0
        && x.cfg site (1032 + 64 * j + 4) / 8 == 0 && x.cfg site (1032 + 64 * j + 7) == 0)
   | .ptc => true)

/-- A shape-map entry in use (R178). -/
def Drawer.shapeOk (x : Drawer) (e : Nat) : Bool :=
  let s := x.shape e
  s.src ≤ 2 && (if s.src == 0 then s.index == 0 else if s.src == 1 then s.index ≤ 7 else s.index ≤ 31)
  && s.kind / 8 == 0 && (!s.trip || (!s.tiled && !s.reduce))
  && (if s.tiled then 1 ≤ s.tile && s.order < x.imgByte 257 else s.tile == 0 && s.order == 0xFF)
  && x.zeroIn (320 + 16 * e + 12) (320 + 16 * e + 16)

/-- A pleach chain record in use (R201). -/
def Drawer.chainOk (x : Drawer) (c : Nat) : Bool :=
  let b := 832 + 200 * c
  let n := x.imgByte b
  let mode := x.imgByte (b + 1)
  1 ≤ n && n ≤ 48 && mode ≤ 1 && siteByteOk (x.imgByte (b + 2)) .ftu && 1 ≤ x.imgByte (b + 3) && x.imgByte (b + 3) ≤ 31
  && x.zeroIn (b + 4) (b + 8) && x.zeroIn (b + 8 + 4 * n) (b + 200)
  && (List.range n).all (fun p =>
    let m := b + 8 + 4 * p
    siteByteOk (x.imgByte m) .mxc && x.imgByte (m + 2) / 64 == 0 && (p + 1 != n || x.imgByte (m + 3) == 0))

/-- Matrix cells of all chains, in order. -/
def Drawer.chainMembers (x : Drawer) : List Nat :=
  (List.range (x.imgByte 259)).flatMap (fun c =>
    (List.range (x.imgByte (832 + 200 * c))).map (fun p => siteOfByte (x.imgByte (832 + 200 * c + 8 + 4 * p))))

/-- BLOCKS of every member: up to the bank count, half of it under ALTERNATE (R201). -/
def Drawer.blocksOk (x : Drawer) : Bool :=
  (List.range (x.imgByte 259)).all (fun c =>
    let b := 832 + 200 * c
    (List.range (x.imgByte b)).all (fun p =>
      let m := b + 8 + 4 * p
      let bank := (mxcClass (x.cfg (siteOfByte (x.imgByte m)) 1025)).blocks
      x.imgByte (m + 1) ≤ (if x.imgByte (b + 1) == 1 then bank / 2 else bank)))

/-- Every stream with PLEACH set names a chain that the stream's own fetch unit feeds, and every chain is fed once. -/
def Drawer.feedsOk (x : Drawer) : Bool :=
  let feeds := (logicalSites.filter (fun n => kindOf n == .ftu)).flatMap (fun n =>
    ((x.streams n).filter (fun st => st.pleach)).map (fun st => (n, st.chain)))
  feeds.all (fun f => f.2 < x.imgByte 259 && siteOfByte (x.imgByte (832 + 200 * f.2 + 2)) == f.1)
  && (List.range (x.imgByte 259)).all (fun c => (feeds.filter (fun f => f.2 == c)).length == 1)

/-- The tile-space area of an image of a section of `bays` bays, read by itself (R177, R178, R201). -/
def Drawer.tileSpaceOk (x : Drawer) (bays : Nat) : Bool :=
  let n := x.entries
  let tiled := (List.range n).filter (fun e => (x.shape e).tiled)
  1 ≤ n && n ≤ 32 && x.imgByte 257 ≤ 4 && x.prefetch ≤ 2 && x.imgByte 259 ≤ 8
  && (if bays == 1 then siteByteOk (x.imgByte 260) .scc else x.imgByte 260 == 0)
  && siteByteOk (x.imgByte 261) .ftu
  && x.imgByte 262 / 2 == 0 && x.zeroIn 263 320
  && (List.range n).all x.shapeOk && x.zeroIn (320 + 16 * n) 832
  && tiled.length == x.imgByte 257 && (dedup' (tiled.map (fun e => (x.shape e).order))).length == tiled.length
  && (List.range (x.imgByte 259)).all x.chainOk && x.zeroIn (832 + 200 * x.imgByte 259) 8192
  && (dedup' x.chainMembers).length == x.chainMembers.length

/-- The header of an image against its section: bay offset, BAYS, number and LAYOUT_DIGEST (R81, R84). -/
def Drawer.headerOk (x : Drawer) (off bays sect digest : Nat) : Bool :=
  x.imgField 0 4 == 0x52444851 && x.imgField 4 2 == 1 && x.imgByte 6 == off && x.imgByte 7 == bays
  && x.imgField 8 2 == sect && x.zeroIn 10 16 && x.imgField 16 32 == digest && x.zeroIn 48 256
  && x.zeroIn 12288 16384

/-- The tile space agrees with what the jig recorded of the section (R177). -/
def Drawer.agrees (x : Drawer) (q : Sect) : Bool := x.imgByte 257 == q.tiled && x.shapes == q.shape

/-- Every field check of step 6 (R84, R86, R117, R146, R177, R201). -/
def Drawer.imageOk (x : Drawer) (off digest num : Nat) (q : Sect) : Bool :=
  x.headerOk off q.bays num digest && x.tileSpaceOk q.bays && x.isSource (siteOfByte (x.imgByte 261)) && x.blocksOk
  && x.feedsOk && x.agrees q && logicalSites.all x.recordOk

/-- Shape-map entries that function cells of an image read as run-time row lengths (R149, R177). -/
def Drawer.rowDims (x : Drawer) : List Nat :=
  dedup' ((logicalSites.filter (fun n => kindOf n == .fnc && (x.fncCfg n).rowSrc
    && !([0, 5, 12].contains (x.fncCfg n).op))).map (fun n => (x.fncCfg n).rowDim))

/-- The bytes of an image that are not 0, with some read otherwise than stored. -/
def imageCells (mem : List Host.Cell) (base : Nat) (flips : List (Nat × Nat)) : List Host.Cell :=
  let cells := (mem.filter (fun c => base ≤ c.1 && c.1 < base + 491520)).map (fun c => (c.1 - base, c.2))
  flips.foldl (fun m f => if f.1 < 491520 then memSet m f.1 (memGet m f.1 ^^^ (f.2 % 256)) else m) cells

end Sys2Proof.Machine
end

