-- ==== Sys2Proof/Machine/Drawers.lean ====
section
/-!
DEFINITION. The drawers' commands: bay operations (R78, R79), the load procedure (R84 to R86, R91, R100) and section
advance (R88 to R97).
-/
namespace Sys2Proof.Machine

/-! ### Instance begin (R79, R97, R184, R186, R203) -/

/-- The units of a bay start an instance of a drawer: SEQ counters and the wave, claim windows, stream positions and weight
blocks (R37, R89, R188, R203). -/
def State.beginUnits (s : State) (b d : Nat) : State :=
  { s with
    sites := tmap s.sites (fun k x => if k / 120 == b then x.restart d else x)
    mxc := tmap s.mxc (fun k m => if k / 480 == b && k % 4 == d then
      { m with full := [], fill := 0, got := 0, tile := 0, scale := none, since := 0 } else m)
    src := s.src.filter (fun e => !(e.1 / 480 == b && e.1 % 4 == d))
    claims := tdel s.claims (b * 4 + d) }

/-- Bays of the section that a drawer of a bay holds. -/
def Drawer.bayList (x : Drawer) : List Nat := (List.range (max 1 x.bays)).map (x.b0 + ·)

/-- Waits in a bay's units count for context `d` again: they stood still since the bay last ran it (R61). -/
def State.resumeWaits (s : State) (b d : Nat) : State :=
  let off := tget (s.bay b).offAt d
  let again := fun (since : Nat) => if since < off then since + (s.fclkNow - off) else s.fclkNow
  { s with sites := tmap s.sites (fun k x => if k / 120 == b then
      { x with
        slots := x.slots.map (fun sl => if sl.ctx == d then { sl with since := again sl.since } else sl)
        flipAt := tmap x.flipAt (fun c t => if c == d then again t else t) }
    else x) }

/-- A drawer stops being the one that the bay runs, in this fclk (R61). -/
def State.stopWaits (s : State) (b d : Nat) : State :=
  s.putBay b { s.bay b with offAt := tset (s.bay b).offAt d s.fclkNow }

/-- The accounting unit of a new instance with its pacer, from the section report (R103, R105, R106, R187). -/
def newInst (q : Sect) (task sect bays b0 t began tally : Nat) : Inst :=
  let f := q.fills.getD b0 (0, 0, 0)
  { task := task, sect := sect, bays := bays, t := t, fill := f.1, perTile := q.perTile, drain := f.2.1,
    drainEmpty := f.2.2, lat := q.lat, events := 0, now := false, p := 0, latch := none, stall := [], residual := 0,
    measured := 0, began := began, quiet := [], pre := .run, lead := [], asked := false, answer := none, askedAt := 0,
    refused := none, away := false, closed := false, exhausted := false, waiting := [], served := 31, tally := tally }

/-- Run-time extents of a drawer's section under a task. -/
def State.extentsFor (s : State) (x : Drawer) (task : Nat) : List Nat :=
  match s.task task with
  | some t => t.extents.getD x.sect []
  | none => x.extents

/-- The instance of a section begins with the first of its bays: it takes a tally, and the units of all its bays start
(R97, R186). None while no tally is free. -/
def State.beginInst (s : State) (b d : Nat) (x : Drawer) : Option State :=
  match s.tallyFor b d with
  | none => none
  | some tk =>
    let t := tileTotal x.shapes x.extents
    let q := match s.sectOf x.task x.sect with | some (_, q) => q | none => default
    let s1 := x.bayList.foldl (fun st j => st.beginUnits j d) s
    some { s1.putInst (x.b0 * 4 + d) (newInst q x.task x.sect x.bays x.b0 t s.clk.dcount tk) with
      tallies := tset s1.tallies tk { used := true, next := 0, t := t, key := Config.freeNat s.free % 2 ^ 16 }
      free := if x.spanDev then s.free + 1 else s.free }

/-- A bay makes a drawer active: the former active drawer becomes IDLE or stays FAULTED, a wait of the bay ends, the shape
burst goes out, and with the first bay of the section its instance begins (R78, R79, R94, R97, R184). None while no tally
is free. -/
def State.activateBay (s : State) (b d b0 task : Nat) : Option State :=
  let old := (s.bay b).active
  let y := s.drawer b old
  let x0 := s.drawer b d
  let x := { x0 with b0 := b0, task := task, extents := s.extentsFor x0 task }
  let s0 := s.putDrawer b d x
  let begun := if (tfind s.insts (b0 * 4 + d)).isSome then some s0 else s0.beginInst b d x
  match begun with
  | none => none
  | some s1 =>
    let s2 := if old != d && y.st == .active then s1.putDrawer b old { y with st := .idle } else s1
    let s3 := if old != d then (s2.stopWaits b old).resumeWaits b d else s2
    let s4 := match (s3.bay b).advWait with
      | some since => s3.bump 0x3107 (b + 1) (s3.fclkNow - since)
      | none => s3
    let s5 := (s4.putDrawer b d { x with st := .active }).putBay b { s4.bay b with active := d, advWait := none }
    let burst := shapeBurst d (x.extents.take x.entries)
    some ((logicalSites.filter x.readsShapes).foldl (fun st n => st.deliver b n burst) s5)

/-! ### Instance end (R97, R112 to R114, R186) -/

/-- An ACTIVATE that a bay has accepted: it takes effect, or waits at the jig while no tally is free (R79, R186). -/
def State.activateOrWait (s : State) (b d b0 task : Nat) : State :=
  match s.activateBay b d b0 task with
  | some s1 => s1.modTask task (fun t => if t.insts == 0 then { t with ranAt := s.clk.dcount } else t)
  | none => { s with jig := { s.jig with actWait := s.jig.actWait ++ [(b, d, b0, task)] } }

/-- A tally is free again: the ACTIVATEs that wait for one are tried in their order (R186). -/
def State.retryWaits (s : State) : State :=
  s.jig.actWait.foldl (fun st (e : Nat × Nat × Nat × Nat) => st.activateOrWait e.1 e.2.1 e.2.2.1 e.2.2.2)
    { s with jig := { s.jig with actWait := [] } }

/-- An instance is over: its record is written, and it and its tally go (R112 to R114, R186). -/
def State.closeInst (s : State) (k status : Nat) (faulted : Bool) : State :=
  match tfind s.insts k with
  | none => s
  | some x =>
    (({ s with insts := tdel s.insts k } : State).writeRecord k x status faulted |>.dropTally x.tally).retryWaits

/-! ### Bay operations (R78) -/

/-- A bay operation is refused with PROTOCOL and changes nothing; the refusal is put to its task. -/
def State.refuseOp (s : State) (task : Nat) : State := s.blame task stProtocol

/-- Drawer d of a bay can be taken for another section: it is quiescent there, or a LOAD into it is under way (R91). -/
def State.takable (s : State) (b d : Nat) : Bool :=
  s.quiescent b d || (s.drawer b d).st == .loading || (s.drawer b d).load.isSome

/-- A drawer of the bay, IDLE or ARMED, that holds the image of a section under the same digest and base bay (R100). -/
def State.reusable (s : State) (b image b0 task sect : Nat) : Option Nat :=
  match s.task task, s.sectOf task sect with
  | some t, some (l, _) => (List.range 4).find? (fun k =>
      let x := s.drawer b k
      (x.st == .idle || x.st == .armed) && x.load.isNone && x.func == t.func && x.image == image && x.digest == l.digest
        && x.b0 == b0)
  | _, _ => none

/-- Function of a task; 0 where the jig does not know the task. -/
def State.taskFunc (s : State) (k : Nat) : Nat := match s.task k with | some t => t.func | none => 0

/-- Bays of the section that a LOAD brings. -/
def State.newBays (s : State) (b0 task sect : Nat) : List Nat :=
  (List.range (match s.sectOf task sect with | some (_, q) => max 1 q.bays | none => 1)).map (b0 + ·)

/-- A drawer goes EMPTY: its configuration, counters and weight banks are zeroed (R73, R78). -/
def State.clearDrawer (s : State) (b d : Nat) : State := (s.putDrawer b d default).freshDrawer b d

/-- CLEAR of a drawer would be accepted, or finds it EMPTY (R78). -/
def State.clearable (s : State) (b d : Nat) : Bool :=
  let x := s.drawer b d
  x.st == .empty || ((x.st == .idle || x.st == .armed || x.st == .faulted) && x.load.isNone && s.bayCount b d == 0)

/-- The bay changes its tenant: its four drawers are CLEARed and its scratch cells zeroed (R74, R275). -/
def State.newTenant (s : State) (b f : Nat) : State :=
  let s1 := (List.range 4).foldl (fun st d => st.clearDrawer b d) s
  { s1.putBay b { s1.bay b with func := f } with sram := s1.sram.filter (fun e => e.1 / 32768 / 120 != b) }

/-- LOAD: a drawer that holds the image already is used instead (R100); else, accepted, the LOAD is pending on the drawer. It
is not issued until the bay is ON (R470, R475), for a section of several bays until the drawer is quiescent in every bay of
its old and its new section (R91), and for another tenant than the bay's last until that one's drawers are CLEARed (R74,
R275). -/
def opLoad (bay d image digestAt b0 task sect : Nat) (s : State) : State :=
  let x := s.drawer bay d
  let f := s.taskFunc task
  let bays := s.newBays b0 task sect
  if !s.domOn bay then s
  else match s.reusable bay image b0 task sect with
  | some k => s.putDrawer bay k { s.drawer bay k with task := task, sect := sect }
  | none =>
    if s.edging bay || x.load.isSome || !(x.st == .empty || x.st == .idle || x.st == .faulted) then s.refuseOp task
    else if !((bays.length ≤ 1 && x.bays ≤ 1) || (bays ++ (if x.st.holds then x.bayList else [])).all (fun j => s.takable j d)) then s
    else if f != (s.bay bay).func && !(List.range 4).all (s.clearable bay) then s
    else
      let s1 := if f != (s.bay bay).func then s.newTenant bay f else s
      s1.putDrawer bay d { s1.drawer bay d with load := some {
        image := image, digestAt := digestAt, b0 := b0, task := task, sect := sect, since := s.fclkNow, started := false } }

def execLoad (bay d image digestAt b0 task sect : Nat) (s : State) : Outcome :=
  onUnit (bay < 32 && d < 4 && b0 < 32) (opLoad bay d image digestAt b0 task sect) s

/-- ARM; the jig sends it once the drawer is IDLE in every bay of its section (R96), ARMED or ACTIVE already counting as
IDLE before. -/
def opArm (bay d task : Nat) (s : State) : State :=
  let x := s.drawer bay d
  if s.edging bay || x.load.isSome || x.st != .idle || (List.range 4).any (fun k => (s.drawer bay k).st == .armed) then
    s.refuseOp task
  else if x.bayList.all (fun j => (s.drawer j d).st == .idle || (s.drawer j d).st == .armed || (s.drawer j d).st == .active) then
    s.putDrawer bay d { x with st := .armed, task := task }
  else s

def execArm (bay d task : Nat) (s : State) : Outcome := onUnit (bay < 32 && d < 4) (opArm bay d task) s

/-- ACTIVATE; it waits while the section's instance can take no tally (R186). -/
def opActivate (bay d b0 task : Nat) (s : State) : State :=
  let x := s.drawer bay d
  if s.edging bay || x.load.isSome || !(x.st == .idle || x.st == .armed) then s.refuseOp task
  else s.activateOrWait bay d b0 task

def execActivate (bay d b0 task : Nat) (s : State) : Outcome :=
  onUnit (bay < 32 && d < 4 && b0 < 32) (opActivate bay d b0 task) s

/-- CLEAR. -/
def opClear (bay d task : Nat) (s : State) : State :=
  let x := s.drawer bay d
  if s.edging bay || x.load.isSome || !(x.st == .idle || x.st == .armed || x.st == .faulted) || s.bayCount bay d != 0 then
    s.refuseOp task
  else s.clearDrawer bay d

def execClear (bay d task : Nat) (s : State) : Outcome := onUnit (bay < 32 && d < 4) (opClear bay d task) s

/-! ### The load procedure (R84 to R86) -/

/-- fclk of a saved interval of dcount: 1.7 counts a nanosecond, rounded down (R110). -/
def fclkOf (ns : Nat) : Nat := ns * 17 / 10

/-- Tiles of an image that do not rest in the near tier (R85). -/
def State.farTiles (s : State) (image : Nat) : List Nat :=
  (tilesOf image 491520).filter (fun t => 1 < (s.leaf t).home && !(s.leaf t).lost)

/-- The tiles of an image that are not in the near tier are to be moved there (R85, R226). -/
def State.bringNear (s : State) (image : Nat) : State :=
  let ts := (s.farTiles image).filter (fun t => !s.tier.moveQ.any (fun r => r.tileKey == t))
  { s with tier := { s.tier with
    moveQ := s.tier.moveQ ++ ts.map (fun t => ({ tileKey := t, tier := 1, cmd := 0, started := false, frame := none } : MoveReq)) } }

/-- Some tile of an image is still to be moved, or is being moved (R85). -/
def State.comingNear (s : State) (image : Nat) : Bool :=
  (tilesOf image 491520).any (fun t => (s.leaf t).moving || s.tier.moveQ.any (fun r => r.tileKey == t))

/-- LOAD_START: step 3, once the drawer is quiescent (R91, R92); an image outside the near tier is first moved there
(R85). -/
def opLoadStart (bay d : Nat) (s : State) : State :=
  let x := s.drawer bay d
  match x.load with
  | none => s
  | some l =>
    if l.started || !s.quiescent bay d then s
    else (((s.putDrawer bay d { x with st := .loading, load := some { l with started := true } }).freshDrawer bay d).bump
      0x3105 (bay + 1) (s.fclkNow - l.since)).bringNear l.image

def execLoadStart (bay d : Nat) (s : State) : Outcome := onUnit (bay < 32 && d < 4) (opLoadStart bay d) s

/-- A load fails: the drawer is left EMPTY, the tokens that waited for it fault, and the task takes the status (R39, R86,
R93). -/
def State.loadFailed (s : State) (b d task status : Nat) : State :=
  ((s.clearDrawer b d).emptyFaults b d).blame task status

/-- The drawer as an image configures it (R81 to R83). -/
def loadedDrawer (img : List Host.Cell) (l : LoadReq) (func digest : Nat) (q : Sect) : Drawer :=
  let x : Drawer := { (default : Drawer) with img := img }
  let cross := memBytes img 8192 4096
  { x with
    st := .idle, load := none, b0 := l.b0, func := func, task := l.task, sect := l.sect, bays := q.bays, chain := q.chain,
    next := q.next, image := l.image, digest := digest
    routes := logicalSites.flatMap (fun n =>
      let bs := memBytes img (recOff n 64) 960
      (List.range 10).map (fun i => (n * 10 + i, Config.routeOf bs i)))
    xroutes := (logicalSites.filter (fun n => kindOf n == .ptc)).flatMap (fun n =>
      (List.range 10).filterMap (fun i => (Config.crossRouteOf cross n i).map (fun r => (n * 10 + i, r)))) }

/-- LOAD_FINISH: step 6 and 7, once the image rests in the near tier or the mover has given up its tiles. A read whose digest
fails is made once more (R84 to R86). -/
def opLoadFinish (bay d : Nat) (errs : List SymErr) (flip1 flip2 : List (Nat × Nat)) (s : State) : State :=
  let x := s.drawer bay d
  match x.load with
  | none => s
  | some l =>
    if !l.started || s.comingNear l.image then s
    else
      let f := s.taskFunc l.task
      let (st1, _, s1) := (s.harm (l.image / 32) errs).readDev f l.image 491520
      let (st2, dg, s2) := s1.readDev f l.digestAt 32
      let bad := worst st1 st2
      if bad != stOk then s2.loadFailed bay d l.task bad
      else match s2.sectOf l.task l.sect with
        | none => s2.loadFailed bay d l.task stProtocol
        | some (lay, q) =>
          let img1 := imageCells s2.mem l.image flip1
          let img2 := imageCells s2.mem l.image flip2
          let ok := fun (m : List Host.Cell) => shakeNat (memBytes m 0 491520) 32 == ofLE dg
          let fields := fun (m : List Host.Cell) =>
            ({ (default : Drawer) with img := m } : Drawer).imageOk (bay - l.b0) lay.digest l.sect q
          let take := fun (st : State) (m : List Host.Cell) =>
            ((st.putDrawer bay d (loadedDrawer m l f lay.digest q)).unfault bay d).bump 0x3104 (bay + 1) 1
          if ok img1 then (if fields img1 then take s2 img1 else s2.loadFailed bay d l.task stProtocol)
          else
            let s3 := s2.bump 0x3106 (bay + 1) 1
            if ok img2 then (if fields img2 then take s3 img2 else s3.loadFailed bay d l.task stProtocol)
            else (s3.bump 0x3106 (bay + 1) 1).loadFailed bay d l.task
              (worst stDigest (if fields img2 then stOk else stProtocol))

def execLoadFinish (bay d : Nat) (errs : List SymErr) (flip1 flip2 : List (Nat × Nat)) (s : State) : Outcome :=
  onUnit (bay < 32 && d < 4) (opLoadFinish bay d errs flip1 flip2) s

/-- LOAD_WAIT_TIMEOUT: the wait at step 2 is longer than LOAD_WAIT_LIMIT; the drawer keeps its state (R86, R101). -/
def opLoadWaitTimeout (bay d : Nat) (s : State) : State :=
  let x := s.drawer bay d
  match x.load with
  | none => s
  | some l =>
    let n := s.fclkNow - l.since
    if l.started || n ≤ s.obj 0x2C06 1 then s
    else ((s.putDrawer bay d { x with load := none }).bump 0x3105 (bay + 1) n).blame l.task stTimeout

def execLoadWaitTimeout (bay d : Nat) (s : State) : Outcome := onUnit (bay < 32 && d < 4) (opLoadWaitTimeout bay d) s

/-! ### Section end and advance (R88 to R97) -/

/-- The drawer that ARG of a wave names: the one of the bay that holds the next section of the task, else the next in turn;
its own where the section does not chain (R88). -/
def State.nextDrawer (s : State) (b d : Nat) : Nat :=
  let x := s.drawer b d
  if !x.chain then d
  else ((List.range 4).find? (fun k => k != d && (s.drawer b k).st.holds && (s.drawer b k).task == x.task
    && (s.drawer b k).sect == x.next)).getD ((d + 1) % 4)

/-- A source has emitted LAST for everything its section gives it: every tile of its bay, the tally being exhausted, or, for
T = 0, nothing once it knows its shapes (R88, R185). -/
def State.sourceDone (s : State) (b site d : Nat) (i : Inst) : Bool :=
  let x := s.drawer b d
  let y := s.srcOf b site d
  if i.t == 0 then 3 * x.entries ≤ y.frags.length else y.exhausted && y.claims.length ≤ x.tilesSent site y

/-- SOURCE_SWITCH (R88); for T = 0 the source's annulled tokens go first (R185). -/
def opSourceSwitch (bay row col d : Nat) (s : State) : State :=
  let site := siteNo row col
  let x := s.drawer bay d
  let u := s.site bay site
  match s.inst bay d with
  | none => s
  | some i =>
    let idle := s.xfers.all (fun e => e.unit != unitKey bay site d) && u.pipe.all (fun e => e.2.ctx != d)
    if !x.isSource site || !s.mayStart bay d || u.swOut.contains d || !idle || !s.sourceDone bay site d i then s
    else
      let reads := if kindOf site == .ftu then
          (List.range (min 8 (x.cfg site 1024))).filter (fun k => !(x.stream site k).write) else []
      let u1 := if i.t == 0 then reads.foldl (fun v k => v.emitD (x.stream site k).lane d 0 true false) u else u
      s.putSite bay site { u1 with
        swOut := u1.swOut ++ [d]
        owed := u1.owed ++ (x.waveOuts site).map (fun k => (k, mkC opcSwitch d (u1.waveSeq k d) (s.nextDrawer bay d))) }

def execSourceSwitch (bay row col d : Nat) (s : State) : Outcome :=
  onUnit (siteOk bay row col && d < 4) (opSourceSwitch bay row col d) s

/-- A bay whose active drawer has become quiescent: it waits to advance where the section chains, else the drawer becomes IDLE
unless it is FAULTED (R76, R77, R94). -/
def State.bayEnds (s : State) (b d : Nat) : State :=
  let x := s.drawer b d
  if (s.bay b).active != d then s
  else if x.chain then s.putBay b { s.bay b with advWait := some s.fclkNow }
  else if x.st == .active then s.putDrawer b d { x with st := .idle }
  else s

/-- BAY_QUIESCENT: the section instance ends in the bay, whether or not its drawer is still the active one, and with its
last bay altogether; one that has faulted ends with its teardown (R90, R94, R97, R113). -/
def opBayQuiescent (bay d : Nat) (s : State) : State :=
  let x := s.drawer bay d
  match s.inst bay d with
  | none => s
  | some i =>
    if i.quiet.contains bay || !(x.st == .active || x.st == .faulted || x.st == .idle) || i.pre != .run
        || !s.quiescent bay d then s
    else
      let k := s.instKey bay d
      let i1 := { i with quiet := i.quiet ++ [bay] }
      let s1 := s.bayEnds bay d
      if x.st == .faulted || i1.quiet.length < max 1 i.bays then s1.putInst k i1
      else
        let s2 := (s1.putInst k i1.finish).closeInst k stOk false
        if x.chain then s2 else s2.modTask i.task (fun t => { t with ended := true })

def execBayQuiescent (bay d : Nat) (s : State) : Outcome := onUnit (bay < 32 && d < 4) (opBayQuiescent bay d) s

/-- CHAINED_ADVANCE: the ARMED drawer becomes active, the old one IDLE; the wait counts in ADVANCE_WAIT (R94). -/
def opChainedAdvance (bay : Nat) (s : State) : State :=
  match (s.bay bay).advWait, (List.range 4).find? (fun k => (s.drawer bay k).st == .armed) with
  | some _, some a =>
    if (s.bay bay).frozen.isSome then s
    else (s.activateBay bay a (s.drawer bay a).b0 (s.drawer bay a).task).getD s
  | _, _ => s

def execChainedAdvance (bay : Nat) (s : State) : Outcome := onUnit (bay < 32) (opChainedAdvance bay) s

end Sys2Proof.Machine
end

