-- ==== Sys2Proof/Machine/Layouts.lean ====
section
/-!
DEFINITION. Registration of layouts (R72, R102 to R104, R177, R259): REGISTER and UNREGISTER.
-/
namespace Sys2Proof.Machine

/-- What the reads of a registration have given so far: the worst status, and the state. -/
structure Reading where
  st : State
  bad : Nat

/-- A read under a function: its bytes, empty where it failed, its status taken into account (R259). -/
def Reading.read (r : Reading) (f addr n : Nat) : List Nat × Reading :=
  let (st, bs, s1) := r.st.readDev f addr n
  (bs, { st := s1, bad := worst r.bad st })

/-- A condition that must hold, under a status. -/
def Reading.need (r : Reading) (ok : Bool) (status : Nat) : Reading :=
  if ok then r else { r with bad := worst r.bad status }

/-- Section-table entry i of a table (R72). -/
structure SectEnt where
  sect : Nat
  bays : Nat
  flags : Nat
  next : Nat
  image : Nat
  digest : Nat
  cut : Nat
  rsv : Bool
deriving DecidableEq, Repr, Inhabited

def sectEnt (bs : List Nat) (i : Nat) : SectEnt :=
  let e := (bs.drop (64 * i)).take 64
  { sect := fieldAt e 0 2, bays := byteAt e 2, flags := byteAt e 3, next := fieldAt e 4 2, image := fieldAt e 8 8,
    digest := fieldAt e 16 8, cut := fieldAt e 24 4, rsv := rsvZero e 6 2 && rsvZero e 28 36 }

/-- The format of a section-table entry at position i (R72). -/
def SectEnt.ok (e : SectEnt) (i : Nat) : Bool :=
  e.sect == i && 1 ≤ e.bays && e.bays ≤ 32 && e.flags / 4 == 0 && bitOf e.flags 1 == decide (1 < e.bays)
  && (bitOf e.flags 0 || e.next == 0) && e.rsv && e.image % 4096 == 0

/-- The chain from a section through NEXT; none where it reaches a section twice or leaves the table (R259; fuel). -/
def chainFrom (es : List SectEnt) : Nat → Nat → List Nat → Option (List Nat)
  | 0, _, _ => none
  | f + 1, k, seen =>
    match es[k]? with
    | none => none
    | some e =>
      if seen.contains k then none
      else if bitOf e.flags 0 then chainFrom es f e.next (seen ++ [k])
      else some (seen ++ [k])

/-- A section report (R103, R104): the fields that the device uses, the base-bay table by the section's BAYS, and the RSV
bytes. -/
def reportOk (r : List Nat) (e : SectEnt) : Bool :=
  byteAt r 3 == 0 && 1 ≤ fieldAt r 4 4 && byteAt r 67 == 0
  && rsvZero r 74 2 && rsvZero r 80 48
  && (List.range 32).all (fun b0 =>
    let o := 128 + 16 * b0
    rsvZero r (o + 12) 4 && (if b0 + e.bays ≤ 32 then 1 ≤ fieldAt r o 4 && 1 ≤ fieldAt r (o + 4) 4 && 1 ≤ fieldAt r (o + 8) 4
      else rsvZero r o 12))

/-- The parts of an image that the jig reads at registration: the tile-space area and the function-cell records (R177);
none where one of them cannot be read. -/
def readImage (r : Reading) (f base : Nat) : Option Drawer × Reading :=
  let (area, r1) := r.read f (base + 256) 7936
  let cells := memPut [] 256 area
  let fncs := logicalSites.filter (fun n => kindOf n == .fnc)
  let (all, m, r2) := fncs.foldl (fun (p : Bool × List Host.Cell × Reading) n =>
    let (bs, q) := p.2.2.read f (base + recOff n 0) 4096
    (p.1 && !bs.isEmpty, memPut p.2.1 (recOff n 0) bs, q)) (!area.isEmpty, cells, r1)
  (if all then some { (default : Drawer) with img := m } else none, r2)

/-- One section: its images and its report, and what the jig records of it (R103, R177). `count` is REPORTS, where the cut
header has been read and is sound; what could not be read is not judged (R13, R102, R259). -/
def readSect (r : Reading) (f : Nat) (e : SectEnt) (reports : List Nat) (count : Option Nat) : Sect × Reading :=
  let imgs := (List.range e.bays).foldl (fun (p : List Drawer × Reading) j =>
    let (x, q) := readImage p.2 f (e.image + j * 0x78000)
    (p.1 ++ x.toList, q)) ([], r)
  let xs := imgs.1
  let x0 := xs.headD default
  let ok := xs.all (fun x => x.tileSpaceOk e.bays && x.entries == x0.entries && x.imgByte 257 == x0.imgByte 257
    && x.shapes == x0.shapes && x.rowDims.all (· < x.entries))
  let rep := (reports.drop (640 * e.cut)).take 640
  let known := match count with | some n => e.cut < n | none => true
  let r1 := (imgs.2.need ok stProtocol).need (known && (reports.isEmpty || reportOk rep e)) stProtocol
  ({ bays := e.bays, chain := bitOf e.flags 0, span := bitOf e.flags 1, next := e.next, imageBase := e.image,
     digestBase := e.digest, tiled := x0.imgByte 257, shape := x0.shapes,
     rowDims := dedup' (xs.flatMap (fun x => x.rowDims)), spanDev := x0.spanDev,
     perTile := fieldAt rep 4 4, lat := (List.range 4).map (fun k => fieldAt rep (16 + 4 * k) 4),
     fills := (List.range 32).map (fun b0 =>
       (fieldAt rep (128 + 16 * b0) 4, fieldAt rep (132 + 16 * b0) 4, fieldAt rep (136 + 16 * b0) 4)) }, r1)

/-- The checks of a registration, and the layout recorded where it passes (R72, R102, R177, R259). -/
def checkLayout (s : State) (f header cut : Nat) : Layout × Reading :=
  let (h, r0) := Reading.read { st := s, bad := stOk } f header 128
  if h.isEmpty then (default, r0)
  else
    let n := fieldAt h 6 2
    let table := fieldAt h 8 8
    let first := fieldAt h 16 2
    let digest := fieldAt h 24 32
    let goodTable := 1 ≤ n && n ≤ 256 && table % 64 == 0
    let r1 := r0.need (fieldAt h 0 4 == 0x594C4851 && fieldAt h 4 2 == 1 && goodTable && first < n && byteAt h 18 == f
      && rsvZero h 19 5 && rsvZero h 56 72) stProtocol
    let (tb, r2) := if goodTable then r1.read f table (64 * n) else ([], r1)
    let es := if tb.isEmpty then [] else (List.range n).map (sectEnt tb)
    let fine := ((List.range es.length).zip es).all (fun e => e.2.ok e.1)
    let chain := chainFrom es 257 first []
    let r3 := (r2.need fine stProtocol).need (es.isEmpty || chain.isSome) stProtocol
    -- the digest table of the sections whose entries are sound
    let sound := ((List.range es.length).zip es).filter (fun e => e.2.ok e.1)
    let (dt, r4) := sound.foldl (fun (p : List Nat × Reading) e =>
      let (bs, q) := p.2.read f e.2.digest (32 * e.2.bays)
      (p.1 ++ bs, q)) ([], r3)
    let r5 := r4.need (!fine || es.isEmpty || r4.bad != stOk || shakeNat (tb ++ dt) 32 == digest) stDigest
    let (ch, r6) := r5.read f cut 128
    let reps := fieldAt ch 6 2
    let goodCut := 1 ≤ reps && reps ≤ 256
    let r7 := r6.need (ch.isEmpty || (fieldAt ch 0 4 == 0x4C434851 && fieldAt ch 4 2 == 1 && goodCut
      && fieldAt ch 8 32 == digest && rsvZero ch 72 56)) stProtocol
    let (rb, r8) := if goodCut then r7.read f (cut + 128) (640 * reps) else ([], r7)
    let r9 := r8.need (rb.isEmpty || shakeNat rb 32 == fieldAt ch 40 32) stDigest
    let (ss, r10) := sound.foldl (fun (p : List Sect × Reading) e =>
      let (q, z) := readSect p.2 f e.2 rb (if ch.isEmpty || !goodCut then none else some reps)
      (p.1 ++ [q], z)) ([], r9)
    ({ func := f, digest := digest, cutDigest := fieldAt ch 40 32, gone := false,
       nb := ((chain.getD []).map (fun k => (es.getD k default).bays)).foldl max 0, first := first, sects := ss }, r10)

/-- REGISTER. -/
def opRegister (q : Req) (header cut : Nat) (s : State) : State := s.unitCmd s.ren.active q <| s.partCmd q <|
  let (l, r) := checkLayout s q.func header cut
  let free := s.pickNo (s.jig.layouts.map (fun e => e.1)) 4096
  let status := worst r.bad (if free.isNone then stResource else stOk)
  if status == stOk then
    let h := free.getD 0
    let log := shakeNat (leBytes (tget s.trust.layoutLog q.func) 64 ++ leBytes l.digest 32 ++ leBytes l.cutDigest 32) 64
    let s1 := { r.st with
      jig := { r.st.jig with layouts := tset r.st.jig.layouts h l }
      trust := { r.st.trust with layoutLog := tset r.st.trust.layoutLog q.func log } }
    s1.tick.complete q stOk h
  else r.st.complete q status 0

def execRegister (q : Req) (header cut : Nat) (s : State) : Outcome := .next (opRegister q header cut s)

/-- UNREGISTER. -/
def opUnregister (q : Req) (h : Nat) (s : State) : State := s.unitCmd s.ren.active q <|
  match tfind s.jig.layouts h with
  | none => s.complete q stProtocol 0
  | some l =>
    if l.gone || l.func != q.func then s.complete q stProtocol 0
    else (({ s with jig := { s.jig with layouts := tset s.jig.layouts h { l with gone := true } } }).reapLayouts).complete q stOk 0

def execUnregister (q : Req) (h : Nat) (s : State) : Outcome := .next (opUnregister q h s)

end Sys2Proof.Machine
end

