-- ==== Sys2Proof/Machine/Jig.lean ====
section
/-!
DEFINITION. The jig: graphs and their tasks (R260 to R270), issue (R182, R183, R267), the ready order and placement
(R271 to R280), saving and restoring a bay (R282 to R286) and teardown (R287).
-/
namespace Sys2Proof.Machine

/-! ### Submission (R260 to R262, R266) -/

/-- A fresh task of a graph. -/
def newTask (f : Nat) : Task :=
  { (default : Task) with st := .counting, func := f, notify := true }

/-- The checks of a graph header and its edges: status, header, edges (R260, R261). -/
def checkGraph (s : State) (f header : Nat) : Nat × List Nat × List (Nat × Nat) × State :=
  let (h, r0) := Reading.read { st := s, bad := stOk } f header 64
  if h.isEmpty then (r0.bad, [], [], r0.st)
  else
    let tasks := fieldAt h 8 4
    let edges := fieldAt h 12 4
    let eb := fieldAt h 24 8
    let good := 1 ≤ tasks && tasks ≤ 65536 && edges ≤ 1048576 && eb % 4 == 0
    let r1 := r0.need (fieldAt h 0 4 == 0x474A4851 && fieldAt h 4 2 == 1 && byteAt h 6 / 2 == 0 && byteAt h 7 == 0
      && good && fieldAt h 16 8 % 128 == 0 && rsvZero h 40 24) stProtocol
    let (bs, r2) := if good && edges != 0 then r1.read f eb (4 * edges) else ([], r1)
    let es := (List.range (bs.length / 4)).map (fun i => (fieldAt bs (4 * i) 2, fieldAt bs (4 * i + 2) 2))
    let r3 := r2.need (es.all (fun e => e.1 < tasks && e.2 < tasks && e.1 != e.2)) stProtocol
    (r3.bad, h, es, r3.st)

/-- Edges held over all graphs. -/
def State.edgesHeld (s : State) : Nat := (s.jig.graphs.map (fun e => e.2.edges.length)).sum

/-- A graph is admitted at a free entry: its tasks are COUNTING (R260). -/
def State.admitGraph (s : State) (g f : Nat) (h : List Nat) (es : List (Nat × Nat)) (ring : Option Nat) : State :=
  let tasks := fieldAt h 8 4
  let gr : Graph := {
    func := f, halt := bitOf (byteAt h 6) 0, tasks := tasks, taskBase := fieldAt h 16 8, edges := es,
    user := fieldAt h 32 8, counted := false, seq := s.jig.graphSeq, ring := ring, port := none }
  s.putJig { s.jig with
    graphs := tset s.jig.graphs g gr
    graphSeq := s.jig.graphSeq + 1
    tasks := (List.range tasks).foldl (fun t i => tset t (taskKey g i) (newTask f)) s.jig.tasks }

/-- SUBMIT. -/
def opSubmit (q : Req) (header : Nat) (s : State) : State := s.unitCmd s.ren.active q <| s.partCmd q <|
  let (bad, h, es, s1) := checkGraph s q.func header
  let free := s1.pickNo (s1.jig.graphs.map (fun e => e.1)) 1024
  let room := free.isSome && s1.jig.tasks.length + fieldAt h 8 4 ≤ 262144 && s1.edgesHeld + es.length ≤ 4194304
  let status := worst bad (if bad == stOk && !room then stResource else stOk)
  if status == stOk then
    let g := free.getD 0
    ((s1.admitGraph g q.func h es (some q.ring)).tick).complete q stOk g
  else s1.complete q status 0

def execSubmit (q : Req) (header : Nat) (s : State) : Outcome := .next (opSubmit q header s)

/-- The edges of a graph are counted: every edge into a task counts once (R261, R266). -/
def State.countEdges (s : State) (g : Nat) (gr : Graph) : State :=
  s.putJig { s.jig with
    graphs := tset s.jig.graphs g { gr with counted := true }
    tasks := tmap s.jig.tasks (fun k t =>
      if k / 65536 == g then { t with count := (gr.edges.filter (fun e => e.2 == k % 65536)).length } else t) }

/-- GRAPH_COUNT_DONE. A graph none of whose tasks can be released completes at once (R270). -/
def opGraphCountDone (g : Nat) (s : State) : State :=
  match tfind s.jig.graphs g with
  | none => s
  | some gr => if gr.counted then s else (s.countEdges g gr).endGraph g

def execGraphCountDone (g : Nat) (s : State) : Outcome := .next (opGraphCountDone g s)

/-! ### Issue (R182, R183, R267) -/

/-- TASK_ISSUE: a counted task with no predecessor outstanding; its reads go out. -/
def opTaskIssue (g t : Nat) (s : State) : State :=
  match tfind s.jig.graphs g, s.task (taskKey g t) with
  | some gr, some x =>
    if gr.counted && x.st == .counting && x.count == 0 then s.modTask (taskKey g t) (fun y => { y with st := .reading })
    else s
  | _, _ => s

def execTaskIssue (g t : Nat) (s : State) : Outcome := .next (opTaskIssue g t s)

/-- Slots of a function's save pool. -/
def State.poolSlots (s : State) (f : Nat) : Nat := (tget s.jig.pools f).slots

/-- Bays in service (0x2C30:02). -/
def State.bayIn (s : State) (b : Nat) : Bool := bitOf (s.obj 0x2C30 2) b

/-- The run-time extents of a section, reading the words at the shape address where entries name them (R182). -/
def readExtents (r : Reading) (f shapeAddr : Nat) (words : List Nat) (q : Sect) : List Nat × Reading :=
  q.shape.foldl (fun (p : List Nat × Reading) e =>
    if e.src == 0 then (p.1 ++ [e.plan], p.2)
    else if e.src == 1 then (p.1 ++ [words.getD e.index 0], p.2)
    else if shapeAddr % 4 != 0 || 2 ^ 52 ≤ shapeAddr then (p.1 ++ [0], p.2)
    else
      let (bs, z) := p.2.read f (shapeAddr + 4 * e.index) 4
      (p.1 ++ [ofLE bs], z)) ([], r)

/-- The conditions of R183 on the extents of a section. -/
def extentStatus (q : Sect) (ext : List Nat) : Nat :=
  let isOver := ((List.range ext.length).zip q.shape).any (fun e =>
      !e.2.tiled && e.2.plan < ext.getD e.1 0) || q.rowDims.any (fun d => 2 ^ 24 < ext.getD d 0)
  worst (if isOver then stShapeOver else stOk) (if 2 ^ 32 - 1 < tileTotal q.shape ext then stResource else stOk)

/-- A task is put before the first of the ready order that it goes before (R272). -/
def orderInsert (before : Nat → Bool) (k : Nat) : List Nat → List Nat
  | [] => [k]
  | a :: r => if before a then k :: a :: r else a :: orderInsert before k r

/-- Level of a task. -/
def State.levelOf (s : State) (k : Nat) : Nat := match s.task k with | some t => t.level | none => 8

/-- Order of submission of a task's graph. -/
def State.graphSeq (s : State) (k : Nat) : Nat := match tfind s.jig.graphs (k / 65536) with | some g => g.seq | none => 0

/-- A task that enters the ready order now goes before another of it: by level; within the level at its head or its tail;
and among tasks that enter in the same iclk by graph submission, then by task number (R272). -/
def State.goesBefore (s : State) (k : Nat) (head : Bool) (a : Nat) : Bool :=
  let same := match s.task a with | some t => t.entered == iclkOf s.clk.dcount | none => false
  s.levelOf k < s.levelOf a || (s.levelOf k == s.levelOf a &&
    (if same then s.graphSeq k < s.graphSeq a || (s.graphSeq k == s.graphSeq a && k % 65536 < a % 65536) else head))

/-- The task joins the ready order. -/
def State.enqueueTask (s : State) (k : Nat) (head : Bool) : State :=
  let s1 := s.modTask k (fun t => { t with entered := iclkOf s.clk.dcount })
  s1.putJig { s1.jig with order := orderInsert (s1.goesBefore k head) k s1.jig.order }

/-- Quantum of a task in ns (R263, R291). -/
def State.quantumOf (s : State) (f units : Nat) : Nat :=
  let us := if units == 0 then s.obj 0x2C30 1 else units * 100
  min us (s.obj 0x2C32 (f + 1)) * 1000

/-- The checks of issue on a descriptor: status, the task as issued, state (R183, R267); `port` is an operand table that
the engine port handed over. -/
def checkIssue (s : State) (f pos : Nat) (t : Task) (d : List Nat) (port : Option (List Nat)) : Nat × Task × State :=
  let h := fieldAt d 4 2
  let opn := fieldAt d 8 8
  let shp := fieldAt d 16 8
  let acc := fieldAt d 24 8
  let recs := fieldAt d 32 4
  let words := (List.range 8).map (fun i => fieldAt d (40 + 4 * i) 4)
  let lay := match tfind s.jig.layouts h with
    | some l => if l.gone || l.func != f then none else some l
    | none => none
  let r0 : Reading := { st := s, bad := stOk }
  let r1 := r0.need (byteAt d 2 / 8 == 0 && byteAt d 3 / 2 == 0 && rsvZero d 72 56 && opn % 64 == 0 && acc % 128 == 0
    && fieldAt d 0 2 == pos && recs ≤ 2 ^ 24 && lay.isSome && shp % 4 == 0 && opn < 2 ^ 52 && shp < 2 ^ 52 && acc < 2 ^ 52)
    stProtocol
  let inWin := fun (a n : Nat) => (List.range ((a + n - 1) / 65536 + 1 - a / 65536)).all (fun i =>
    partOf ((a / 65536 + i) * 65536) == f && (s.objOf (a / 65536 + i)).isSome)
  let r2 := (r1.need (2 ^ 52 ≤ acc || (if recs == 0 || 2 ^ 24 < recs then partOf acc == f else inWin acc (128 * recs))) stWindow).need
    (shp == 0 || 2 ^ 52 ≤ shp || partOf shp == f) stWindow
  let (ob, r3) := match port with
    | some ob => (ob, r2)
    | none => if opn == 0 then ([], r2) else r2.read f opn 256
  let (ex, r4) := match lay with
    | none => ([], r3)
    | some l => l.sects.foldl (fun (p : List (List Nat) × Reading) q =>
        let (e, z) := readExtents p.2 f shp words q
        (p.1 ++ [e], z)) ([], r3)
  let r5 := match lay with
    | none => r4
    | some l =>
      let bad := if r4.bad == stOk || r4.bad == stProtocol || r4.bad == stWindow then
          worstOf ((l.sects.zip ex).map (fun (p : Sect × List Nat) => extentStatus p.1 p.2)) else stOk
      let served := ((List.range 32).filter s.bayIn).length
      { r4 with bad := worst (worst r4.bad bad) (if served < l.nb || s.poolSlots f < l.nb then stResource else stOk) }
  let isOver := match lay with
    | none => false
    | some l => (l.sects.zip ex).any (fun (p : Sect × List Nat) => extentStatus p.1 p.2 == stShapeOver)
  (r5.bad, { t with
      level := max (byteAt d 2 % 8) (s.obj 0x2C31 (f + 1))
      notify := bitOf (byteAt d 3) 0
      user := fieldAt d 36 4
      layout := h
      quantum := s.quantumOf f (fieldAt d 6 2)
      opnds := (List.range 16).map (fun i => (fieldAt ob (16 * i) 8, fieldAt ob (16 * i + 8) 8))
      extents := ex, acct := acc, records := recs, nb := (lay.getD default).nb, issuedAt := s.clk.dcount },
   if isOver && r5.bad == stShapeOver then r5.st.bump 0x3122 1 1 else r5.st)

/-- ISSUE_READS_DONE. A descriptor that cannot be read completes the task with USER 0 whatever NOTIFY said (R267). -/
def opIssueReadsDone (g t : Nat) (s : State) : State :=
  let k := taskKey g t
  match tfind s.jig.graphs g, s.task k with
  | some gr, some x =>
    if x.st != .reading then s
    else
      let (st, d, s1) := match gr.port with
        | some p => (stOk, p.1, s)
        | none => s.readDev x.func (gr.taskBase + 128 * t) 128
      if st != stOk then (s1.modTask k (fun y => { y with notify := true, user := 0 })).finishTask k st
      else
        let (bad, y, s2) := checkIssue s1 x.func t x d (gr.port.map (fun p => p.2))
        let s3 := s2.putJig { s2.jig with tasks := tset s2.jig.tasks k y }
        if bad == stOk then (s3.modTask k (fun z => { z with st := .issued })).enqueueTask k false
        else s3.finishTask k bad
  | _, _ => s

def execIssueReadsDone (g t : Nat) (s : State) : Outcome := .next (opIssueReadsDone g t s)

/-! ### Save pools (R280) -/

/-- SAVEPOOL. -/
def opSavepool (q : Req) (object : Nat) (s : State) : State := s.unitCmd s.ren.active q <| s.partCmd q <|
  match tfind s.tier.objs object with
  | none => s.complete q stProtocol 0
  | some o =>
    if o.st != .live || o.owner != q.func || o.tiles == 0 || o.tiles % 1176 != 0 then s.complete q stProtocol 0
    else if !(tget s.jig.pools q.func).held.isEmpty then s.complete q stResource 0
    else
      let p : Pool := { object := object, base := o.base, slots := o.tiles / 1176, held := [] }
      (s.putJig { s.jig with pools := tset s.jig.pools q.func p }).complete q stOk (o.tiles / 1176)

def execSavepool (q : Req) (object : Nat) (s : State) : Outcome := .next (opSavepool q object s)

/-! ### Placement (R273, R274, R278, R279) -/

/-- A bay is free for task w (R273). -/
def State.bayFree (s : State) (w b : Nat) : Bool :=
  s.bayIn b && !s.edging b && (tget s.jig.held b).isNone &&
  (match tget s.jig.reserved b with | none => true | some r => r == w)

/-- Task v yields to task w (R278). -/
def State.yields (s : State) (v w : Nat) : Bool :=
  match s.task v, s.task w with
  | some x, some y => x.st == .placed && (y.level < x.level || (x.level == y.level && x.expired))
  | _, _ => false

/-- The lowest-based run of `nb` bays all of which satisfy `p`. -/
def lowestRun (p : Nat → Bool) (nb : Nat) : Option Nat :=
  (List.range (33 - nb)).find? (fun b => (List.range nb).all (fun j => p (b + j)))

/-- Save slots of a function that are free. -/
def State.freeSlots (s : State) (f : Nat) : List Nat :=
  let p := tget s.jig.pools f
  (List.range p.slots).filter (fun i => !p.held.contains i)

/-- `n` free slots of a function's save pool: which ones the spec leaves open (R274). -/
def State.pickSlots (s : State) (f : Nat) : Nat → List Nat → List Nat
  | 0, got => got
  | n + 1, got =>
    let p := tget s.jig.pools f
    match s.pickNo (p.held ++ got) p.slots with
    | some i => s.pickSlots f n (got ++ [i])
    | none => got

/-- A save pool whose object is no longer LIVE places none of the function's tasks (R280). -/
def State.poolLive (s : State) (f : Nat) : Bool :=
  match tfind s.tier.objs (tget s.jig.pools f).object with
  | some o => o.st == .live || o.st == .damaged
  | none => false

/-- A run from bay B suits an issued task: slots free, and a tally where a section needs one (R274). -/
def State.suits (s : State) (t : Task) (b : Nat) : Bool :=
  let multi := match tfind s.jig.layouts t.layout with
    | some l => l.sects.any (fun q => 1 < q.bays)
    | none => false
  t.nb ≤ (s.freeSlots t.func).length && s.poolLive t.func && (!multi || (s.freeTally (dieOfPanel (b / 4))).isSome)

/-- Bays taken by a task from now on; those in retention or off wake (R470). -/
def State.hold (s : State) (k b nb : Nat) : State :=
  let bs := (List.range nb).map (fun j => b + j)
  let s0 := bs.foldl (fun st j => st.wakeDom j) s
  s0.putJig { s.jig with
    held := bs.foldl (fun m j => tset m j (some k)) s.jig.held
    heldAt := bs.foldl (fun m j => tset m j s.clk.dcount) s.jig.heldAt
    reserved := tmap s.jig.reserved (fun _ r => if r == some k then none else r)
    order := s.jig.order.filter (· != k) }

/-- An issued task takes its run (R274). -/
def State.placeTask (s : State) (k : Nat) (t : Task) (b : Nat) : State :=
  let sl := s.pickSlots t.func t.nb []
  let p := tget s.jig.pools t.func
  let s1 := (s.hold k b t.nb).modTask k (fun x =>
    { x with st := .placed, base := b, slots := sl, serials := [], ranAt := s.clk.dcount, expired := false })
  (s1.putJig { s1.jig with pools := tset s1.jig.pools t.func { p with held := p.held ++ sl } }).bump 0x3135 (t.level + 1)
    (s.clk.dcount - t.issuedAt)

/-- The run that a task waits for: its bays are reserved for it, and all of them can still come free (R279; DEDUCED,
log 136). -/
def State.waitRun (s : State) (k : Nat) (t : Task) : Option Nat :=
  match (List.range 32).find? (fun b => tget s.jig.reserved b == some k) with
  | some b =>
    if (List.range t.nb).all (fun j => tget s.jig.reserved (b + j) == some k && s.bayIn (b + j) && !s.edging (b + j)) then some b
    else none
  | none => none

/-- A bay is free for a task, or held by one that yields to it and reserved for no other (R278). -/
def State.canHave (s : State) (k b : Nat) : Bool :=
  s.bayFree k b || (match tget s.jig.held b with
    | some v => s.yields v k && (match tget s.jig.reserved b with | none => true | some r => r == k)
    | none => false)

/-- A task takes a run that is free for it. -/
def State.takeRun (s : State) (k : Nat) (t : Task) (b : Nat) : State :=
  if t.st == .saved then (s.hold k b t.nb).modTask k (fun x => { x with st := .restoring, doneBays := [] })
  else s.placeTask k t b

/-- A run is reserved for a task, and the tasks that hold bays of it are to be pre-empted (R278, R279). -/
def State.reserveRun (s : State) (k : Nat) (t : Task) (b : Nat) : State :=
  let bs := (List.range t.nb).map (fun j => b + j)
  let vs := dedup' (bs.filterMap (fun j => tget s.jig.held j))
  let s1 := (vs.filter (fun v => !s.jig.preempt.contains v)).foldl (fun st v => st.modTask v (fun x =>
    { x with why := if t.level < x.level then .higher else .quantum })) s
  s1.putJig { s1.jig with
    reserved := bs.foldl (fun m j => tset m j (some k)) (tmap s.jig.reserved (fun _ r => if r == some k then none else r))
    preempt := dedup' (s.jig.preempt ++ vs) }

/-- One step of the pass for one task of the ready order (R278); one that waits for its run waits on (R279). -/
def passTask (s : State) (k : Nat) : State :=
  match s.task k with
  | none => s
  | some t =>
    let saved := t.st == .saved
    let runOf := fun (p : Nat → Bool) =>
      if saved then (if (List.range t.nb).all (fun j => p (t.base + j)) then some t.base else none) else lowestRun p t.nb
    match s.waitRun k t with
    | some b =>
      if (List.range t.nb).all (fun j => s.bayFree k (b + j)) && (saved || s.suits t b) then s.takeRun k t b else s
    | none =>
      match runOf (s.bayFree k), runOf (s.canHave k) with
      | some b, c => if saved || s.suits t b then s.takeRun k t b else (c.map (s.reserveRun k t)).getD s
      | none, c => (c.map (s.reserveRun k t)).getD s

/-- PLACEMENT_PASS: one pass over the ready order (R278). -/
def execPlacementPass (s : State) : Outcome := .next (s.jig.order.foldl passTask s)

/-- A task has had a section activated: its quantum runs (R277). -/
def State.activated (s : State) (k : Nat) (t : Task) : Bool := t.insts != 0 || s.insts.any (fun e => e.2.task == k)

/-- QUANTUM_EXPIRY (R277). -/
def opQuantumExpiry (g t : Nat) (s : State) : State :=
  let k := taskKey g t
  s.modTask k (fun x => if x.st == .placed && s.activated k x && x.quantum ≤ s.clk.dcount - x.ranAt then { x with expired := true } else x)

def execQuantumExpiry (g t : Nat) (s : State) : Outcome := .next (opQuantumExpiry g t s)

/-! ### Saving (R282 to R285) -/

/-- A drawer of a task is FAULTED in a bay that the task holds. -/
def State.anyFault (s : State) (t : Task) (p : Drawer → Bool) : Bool :=
  (List.range t.nb).any (fun j => (List.range 4).any (fun d =>
    let x := s.drawer (t.base + j) d
    x.st == .faulted && p x))

/-- A context fault of a task that is SAVING was raised before any of its bays froze, other than by a transfer that
failed while it drained: the task is not saved (R198, R281; DEDUCED, log 137). -/
def State.faultsFirst (s : State) (t : Task) : Bool :=
  t.st == .saving && t.doneBays.isEmpty && (List.range t.nb).all (fun j => (s.bay (t.base + j)).frozen.isNone)
  && s.anyFault t (fun x => t.status == stOk || !(x.fault == some stPoison || x.fault == some stTier))

/-- PREEMPT: accepted at a bay of a task the jig pre-empts; the task is SAVING and its instances count (R110, R282). A
task with a fault is not saved (R281). -/
def opPreempt (bay : Nat) (s : State) : State :=
  match tget s.jig.held bay with
  | none => s
  | some k => match s.task k with
    | none => s
    | some t =>
      let go := if t.st == .saving then !s.faultsFirst t
        else t.st == .placed && s.jig.preempt.contains k && t.status == stOk && !s.anyFault t (fun _ => true) && !t.ended
      if !go then s
      else
        let s1 := if t.st == .saving then s else s.modTask k (fun x => { x with st := .saving, doneBays := [] })
        let s2 := { s1 with insts := tmap s1.insts (fun _ (i : Inst) => if i.task == k && i.pre == PreSt.run then { i with pre := PreSt.saving } else i) }
        s2.putJig { s2.jig with
          preempt := s2.jig.preempt.filter (· != k)
          busyAt := tset s2.jig.busyAt bay s.clk.dcount }

def execPreempt (bay : Nat) (s : State) : Outcome := onUnit (bay < 32) (opPreempt bay) s

/-- Sites of a bay. -/
def inBay (b : Nat) (key : Nat) : Bool := key / 120 == b
/-- Unit and drawer keys of a bay. -/
def unitInBay (b : Nat) (key : Nat) : Bool := key / 480 == b

/-- Tokens on the channels of a bay enter their queues, which hold credit for them (R282 step 3). -/
def Chan.settleWire {α : Type} (c : Chan α) : Chan α :=
  { c with wire := [], queue := c.queue ++ c.wire.map (fun e => e.2) }

/-- SAVE_FREEZE: step 2 has ended and the bay freezes (R198, R281, R282). -/
def opSaveFreeze (bay : Nat) (s : State) : State :=
  match tget s.jig.held bay with
  | none => s
  | some k => match s.task k with
    | none => s
    | some t =>
      let loading := (List.range 4).any (fun d => (s.drawer bay d).st == .loading)
      let asking := s.insts.any (fun e => e.1 / 4 == bay && e.2.asked)
      let moving := s.xfers.any (fun e => e.unit / 480 == bay)
      if t.st != .saving || s.faultsFirst t || loading || asking || moving || (s.bay bay).frozen.isSome then s
      else
        let bump := fun (x : Site) (i ctx seq : Nat) => { x with expIn := tset x.expIn (i * 4 + ctx) ((seq + 1) % 4096) }
        let s1 := { s with sites := tmap s.sites (fun key x => if inBay bay key then
            let y := x.dat.foldl (fun (z : Site) (e : Nat × Chan DTok) =>
              e.2.wire.foldl (fun (w : Site) (u : Bool × DTok) => bump w e.1 u.2.ctx u.2.seq) z) x
            { y with dat := tmap y.dat (fun _ c => c.settleWire), ctl := tmap y.ctl (fun _ c => c.settleWire) }
          else x) }
        let s2 := s1.stopWaits bay (s1.bay bay).active
        s2.putBay bay { s2.bay bay with frozen := some s.clk.dcount }

def execSaveFreeze (bay : Nat) (s : State) : Outcome := onUnit (bay < 32) (opSaveFreeze bay) s

/-- Drawer states of a bay, coded as in 0x2C04. -/
def State.drawerStates (s : State) (b : Nat) : Nat :=
  (List.range 4).foldl (fun n d => n + (s.drawer b d).st.code * 16 ^ d) 0

/-- The bay's contents. -/
def State.capture (s : State) (bay f serial job : Nat) : SaveSlot :=
  let y := s.bay bay
  { bay := bay, func := f, serial := serial, frozen := y.frozen.getD 0, drawers := s.drawerStates bay, active := y.active,
    incarn := s.obj 0x2011 (bay + 1), job := job, bayRec := { y with frozen := none }
    drawerRec := s.drawers.filter (fun e => e.1 / 4 == bay)
    siteRec := s.sites.filter (fun e => inBay bay e.1)
    mxcRec := s.mxc.filter (fun e => unitInBay bay e.1)
    fncRec := s.fnc.filter (fun e => unitInBay bay e.1)
    srcRec := s.src.filter (fun e => unitInBay bay e.1)
    claimRec := s.claims.filter (fun e => e.1 / 4 == bay)
    bufRec := s.bufs.filter (fun e => unitInBay bay e.1)
    sramRec := s.sram.filter (fun e => e.1 / 32768 / 120 == bay)
    instRec := s.insts.filter (fun e => e.1 / 4 == bay)
    tallyRec := s.tallies.filter (fun e => 256 ≤ e.1 && inBay bay (e.1 - 256))
    netRec := s.net.filter (fun e => e.bay == bay) }

/-- The save header's first 64 bytes (R285). -/
def SaveSlot.header (x : SaveSlot) : List Nat :=
  leBytes 0x56534851 4 ++ [1, 0, x.bay, x.func] ++ leBytes x.serial 8 ++ leBytes x.frozen 8 ++ leBytes x.drawers 2
  ++ [x.active % 4, x.incarn % 256] ++ leBytes x.job 4 ++ List.replicate 32 0

/-- The header's bytes agree with the record in MAGIC, VERSION, BAY, FUNC, SERIAL and JOB (R286). -/
def SaveSlot.matchesHeader (x : SaveSlot) (h : List Nat) : Bool :=
  h.take 16 == x.header.take 16 && (h.drop 28).take 4 == (x.header.drop 28).take 4

/-- Device address of save slot `i` of a function (R280). -/
def State.slotAddr (s : State) (f i : Nat) : Nat := (tget s.jig.pools f).base + i * 77070336

/-- SAVE_STREAM_END: the regions and last the header are in the slot, and the jig records SERIAL (R282, R285). -/
def opSaveStreamEnd (bay : Nat) (s : State) : State :=
  match tget s.jig.held bay with
  | none => s
  | some k => match s.task k with
    | none => s
    | some t =>
      let off := bay - t.base
      let slot := t.slots.getD off 0
      if t.st != .saving || (s.bay bay).frozen.isNone || (tfind s.jig.saves (t.func * 65536 + slot)).isSome then s
      else
        let serial := (s.jig.serial + 1) % 2 ^ 64
        let x := s.capture bay t.func serial (k % 2 ^ 32)
        let (_, s1) := s.writeDev t.func (s.slotAddr t.func slot) x.header
        s1.putJig { s1.jig with
          serial := serial
          saves := tset s1.jig.saves (t.func * 65536 + slot) x
          tasks := tset s1.jig.tasks k { t with
            serials := (List.range t.nb).map (fun j => if j == off then serial else t.serials.getD j 0) } }

def execSaveStreamEnd (bay : Nat) (s : State) : Outcome := onUnit (bay < 32) (opSaveStreamEnd bay) s

/-- A bay's fabric, drawers and scratch are zeroed (R78, R275, R282 step 6). -/
def State.wipeBay (s : State) (bay : Nat) : State :=
  { s with
    drawers := s.drawers.filter (fun e => e.1 / 4 != bay)
    sites := s.sites.filter (fun e => !inBay bay e.1)
    mxc := s.mxc.filter (fun e => !unitInBay bay e.1)
    fnc := s.fnc.filter (fun e => !unitInBay bay e.1)
    src := s.src.filter (fun e => !unitInBay bay e.1)
    claims := s.claims.filter (fun e => e.1 / 4 != bay)
    bufs := s.bufs.filter (fun e => !unitInBay bay e.1)
    sram := s.sram.filter (fun e => e.1 / 32768 / 120 != bay)
    tallies := s.tallies.filter (fun e => !(256 ≤ e.1 && inBay bay (e.1 - 256)))
    insts := s.insts.filter (fun e => e.1 / 4 != bay)
    net := s.net.filter (fun e => e.bay != bay)
    bays := tset s.bays bay { s.bay bay with active := 0, advWait := none, frozen := none } }

/-- `n` fclk of an instance's pre-emption pass at once (R110). -/
def Inst.passed (x : Inst) (n : Nat) : Inst := { x.stalled 4 n with measured := x.measured + n }

/-- A change to the instances that rest in the save slots of a task. -/
def State.modSaved (s : State) (t : Task) (f : Inst → Inst) : State :=
  s.putJig { s.jig with saves := tmap s.jig.saves (fun key x =>
    if key / 65536 == t.func && t.slots.contains (key % 65536) then { x with instRec := tmap x.instRec (fun _ i => f i) } else x) }

/-- The last bay of a task is saved: the saved interval of its instances begins (R110). -/
def State.beginSaved (s : State) (t : Task) : State :=
  s.modSaved t (fun i => match i.pre with
    | .parked since => { i.passed (s.fclkNow - since) with pre := .saved s.clk.dcount }
    | _ => { i with pre := .saved s.clk.dcount })

/-- The first bay of a task is restored: the saved interval of its instances ends, rounded down once (R110). -/
def State.endSaved (s : State) (t : Task) : State :=
  s.modSaved t (fun i => match i.pre with
    | .saved since => { i.passed (fclkOf (s.clk.dcount - since)) with pre := .parked s.fclkNow }
    | _ => i)

/-- SAVE_COMPLETE: the bay is cleared and free, its instances resting in its slot; with its last bay the task is SAVED, or
torn down if a transfer failed while it drained (R110, R272, R281, R282). -/
def opSaveComplete (bay : Nat) (s : State) : State :=
  match tget s.jig.held bay with
  | none => s
  | some k => match s.task k with
    | none => s
    | some t =>
      let slot := t.slots.getD (bay - t.base) 0
      if t.st != .saving || (tfind s.jig.saves (t.func * 65536 + slot)).isNone then s
      else
        let done := t.doneBays ++ [bay]
        let bad := worst t.status (worstOf ((List.range 4).map (fun d =>
          let x := s.drawer bay d
          if x.st == .faulted then x.fault.getD stOk else stOk)))
        let live := (s.insts.filter (fun e => e.1 / 4 == bay)).map (fun e => (e.1, { e.2 with pre := PreSt.parked s.fclkNow }))
        let s0 := s.putJig { s.jig with saves := tmod s.jig.saves (t.func * 65536 + slot) (fun x => { x with instRec := live }) }
        let s1 := ((s0.wipeBay bay).freeBay bay).putBay bay { (s0.wipeBay bay).bay bay with func := t.func }
        let s2 := ((s1.bump 0x3131 (bay + 1) 1).bump 0x3132 (bay + 1) (s.clk.dcount - tget s.jig.busyAt bay)).modTask k
          (fun x => { x with doneBays := done, status := bad })
        if done.length < t.nb then s2
        else
          let s3 := s2.beginSaved t
          if bad != stOk then s3.modTask k (fun x => { x with st := .teardown, doneBays := [] })
          else (s3.modTask k (fun x => { x with st := .saved, doneBays := [], expired := false })).enqueueTask k (t.why == .higher)

def execSaveComplete (bay : Nat) (s : State) : Outcome := onUnit (bay < 32) (opSaveComplete bay) s

/-! ### Restoring (R110, R286) -/

/-- RESTORE: the header of the bay's slot is checked and its words are read; with the first bay the saved interval of the
task's instances is converted (R110, R286). -/
def opRestore (bay : Nat) (s : State) : State :=
  match tget s.jig.held bay with
  | none => s
  | some k => match s.task k with
    | none => s
    | some t =>
      let off := bay - t.base
      let slot := t.slots.getD off 0
      match tfind s.jig.saves (t.func * 65536 + slot) with
      | none => s
      | some x =>
        if t.st != .restoring || (s.bay bay).frozen.isSome || !s.domOn bay then s
        else
          let (st0, h, s0) := s.readDev t.func (s.slotAddr t.func slot) 64
          let (bad, s1) := State.readWords (s0.sickIn (s.slotAddr t.func slot) 77070336) s0
          let st := if st0 == stOk && !bad.isEmpty then stPoison else st0
          let ok := ({ x with serial := t.serials.getD off 0 } : SaveSlot).matchesHeader h && x.bay == bay && x.func == t.func
          let tear := fun (u : State) (status : Nat) => u.modTask k (fun y => { y with st := .teardown, status := worst y.status status })
          if st != stOk then tear s1 st
          else if !ok then tear (s1.bump 0x3136 1 1) stProtocol
          else
            let s1 := s1.endSaved t
            let y := tget s1.jig.saves (t.func * 65536 + slot)
            let insts := tmap y.instRec (fun _ i => match i.pre with
              | .parked since => { i.passed (s.fclkNow - since) with pre := .restoring }
              | _ => { i with pre := .restoring })
            let s2 := { s1 with insts := insts.foldl (fun (m : Tbl Inst) (e : Nat × Inst) => tset m e.1 e.2) s1.insts }
            let s3 := s2.putBay bay { s2.bay bay with frozen := some s.clk.dcount }
            s3.putJig { s3.jig with busyAt := tset s3.jig.busyAt bay s.clk.dcount }

def execRestore (bay : Nat) (s : State) : Outcome := onUnit (bay < 32) (opRestore bay) s

/-- RESTORE_RESUME: the bay's contents are back and it resumes; with its last bay the task is PLACED again (R282). -/
def opRestoreResume (bay : Nat) (s : State) : State :=
  match tget s.jig.held bay with
  | none => s
  | some k => match s.task k with
    | none => s
    | some t =>
      let slot := t.slots.getD (bay - t.base) 0
      match tfind s.jig.saves (t.func * 65536 + slot) with
      | none => s
      | some x =>
        if t.st != .restoring || (s.bay bay).frozen.isNone then s
        else
          let put := fun {α : Type} (old new_ : Tbl α) => new_.foldl (fun m e => tset m e.1 e.2) old
          let s0 := s.wipeBay bay
          let s1 := { s0 with
            drawers := put s0.drawers x.drawerRec, sites := put s0.sites x.siteRec, mxc := put s0.mxc x.mxcRec,
            fnc := put s0.fnc x.fncRec, src := put s0.src x.srcRec, claims := put s0.claims x.claimRec,
            bufs := put s0.bufs x.bufRec, sram := put s0.sram x.sramRec, tallies := put s0.tallies x.tallyRec,
            insts := s.insts, bays := tset s0.bays bay x.bayRec, net := s0.net ++ x.netRec }
          let done := t.doneBays ++ [bay]
          let sr := s1.resumeWaits bay x.bayRec.active
          let s2 := (sr.putJig { sr.jig with saves := tdel sr.jig.saves (t.func * 65536 + slot) }).bump 0x3132 (bay + 1)
            (s.clk.dcount - tget s.jig.busyAt bay)
          let s3 := s2.modTask k (fun y => { y with doneBays := done })
          if done.length < t.nb then s3
          else
            let s4 := s3.modTask k (fun y => { y with st := .placed, doneBays := [], ranAt := s.clk.dcount, expired := false })
            { s4 with insts := tmap s4.insts (fun _ (i : Inst) => if i.task == k then { i with pre := .run } else i) }

def execRestoreResume (bay : Nat) (s : State) : Outcome := onUnit (bay < 32) (opRestoreResume bay) s

/-! ### Completion and teardown (R276, R287) -/

/-- TASK_COMPLETE: the last section's instance has ended; the bays keep their drawers (R100, R276). -/
def opTaskComplete (g t : Nat) (s : State) : State :=
  let k := taskKey g t
  match s.task k with
  | none => s
  | some x => if x.st == .placed && x.ended then s.finishTask k x.status else s

def execTaskComplete (g t : Nat) (s : State) : Outcome := .next (opTaskComplete g t s)

/-- The status of the worst fault of a task: its own, and those of its FAULTED drawers (R13). -/
def State.taskFault (s : State) (k : Nat) (t : Task) : Nat :=
  worst t.status (worstOf ((s.drawers.filter (fun e => e.2.task == k && e.2.st == .faulted
    && tget s.jig.held (e.1 / 4) == some k)).map (fun e => e.2.fault.getD stOk)))

/-- TASK_TEARDOWN: steps 1 and 2; every other drawer of the task goes FAULTED (R287). A task that is SAVING finishes its
save first, unless the fault was raised before the freeze (R281). -/
def opTaskTeardown (g t : Nat) (s : State) : State :=
  let k := taskKey g t
  match s.task k with
  | none => s
  | some x =>
    let st := s.taskFault k x
    if st == stOk || !(x.st == .placed || x.st == .restoring || x.st == .saved || s.faultsFirst x) then s
    else
      let s1 := s.modTask k (fun y => { y with st := .teardown, status := st })
      let s2 := s1.putJig { s1.jig with
        order := s1.jig.order.filter (· != k)
        preempt := s1.jig.preempt.filter (· != k)
        actWait := s1.jig.actWait.filter (fun e => e.2.2.2 != k) }
      { s2 with drawers := tmap s2.drawers (fun e d =>
          if d.task == k && d.st.holds && tget s.jig.held (e / 4) == some k then
            { d with st := .faulted, fault := some (d.fault.getD st), load := none } else { d with
            load := match d.load with | some l => if l.task == k && !l.started then none else some l | none => none }) }

def execTaskTeardown (g t : Nat) (s : State) : Outcome := .next (opTaskTeardown g t s)

/-- TEARDOWN_FINISH: steps 3 and 4, once every drawer of the task is quiescent (R287). -/
def opTeardownFinish (g t : Nat) (s : State) : State :=
  let k := taskKey g t
  match s.task k with
  | none => s
  | some x =>
    let held := (List.range 32).filter (fun b => tget s.jig.held b == some k)
    let mine := s.drawers.filter (fun e => e.2.task == k && held.contains (e.1 / 4) && e.2.st != .empty)
    let still := mine.all (fun e => e.2.st != .loading && s.quiescent (e.1 / 4) (e.1 % 4))
    if x.st != .teardown || !still then s
    else
      -- instances that rest in save slots have their records written as well
      let saved := (s.jig.saves.filter (fun e => e.1 / 65536 == x.func && x.slots.contains (e.1 % 65536))).flatMap
        (fun e => e.2.instRec.filter (fun i => i.2.task == k && !(s.insts.any (fun j => j.1 == i.1 && j.2.task == k))))
      let s1 := saved.foldl (fun u e => ((u.writeRecord e.1 e.2 x.status true).dropTally e.2.tally).retryWaits) s
      let s2 := (s1.insts.filter (fun e => e.2.task == k)).foldl (fun u e => u.closeInst e.1 x.status true) s1
      let s3 := mine.foldl (fun u e => u.clearDrawer (e.1 / 4) (e.1 % 4)) s2
      let s4 := held.foldl (fun u b => u.putBay b { u.bay b with frozen := none, advWait := none }) s3
      let st := match s4.task k with | some y => y.status | none => x.status
      s4.finishTask k st

def execTeardownFinish (g t : Nat) (s : State) : Outcome := .next (opTeardownFinish g t s)

end Sys2Proof.Machine
end

