-- ==== Sys2Proof/Machine/Pruner.lean ====
section
/-!
DEFINITION. What a pruner makes of a row of logits (R336 to R341): mask, bias, penalty, temperature, top-k, weights,
min-p, top-p and the draw, and the parameter block.
-/
namespace Sys2Proof.Machine

/-! ### The parameter block (R336) -/

/-- Fields of the parameter block. -/
structure Params where
  greedy : Bool
  maskEn : Bool
  biasEn : Bool
  stops : Nat
  topK : Nat
  temp : Nat
  topP : Nat
  minP : Nat
  rep : Nat
  repWindow : Nat
  eos : Nat
  biasCount : Nat
  seed : Nat
  maskAddr : Nat
  biasAddr : Nat
  stopAddr : Nat
  dslot : Nat
  draftMax : Nat
  draftMin : Nat
  zeroRun : Nat
  fallback : Nat
deriving DecidableEq, Repr

/-- A parameter block read from its bytes. -/
def params (bs : List Nat) : Params :=
  { greedy := bitOf (byteAt bs 0) 0, maskEn := bitOf (byteAt bs 0) 1, biasEn := bitOf (byteAt bs 0) 2, stops := byteAt bs 1
    topK := fieldAt bs 2 2, temp := fieldAt bs 4 4, topP := fieldAt bs 8 4, minP := fieldAt bs 12 4, rep := fieldAt bs 16 4
    repWindow := fieldAt bs 20 4, eos := fieldAt bs 24 4, biasCount := fieldAt bs 28 4, seed := fieldAt bs 32 8
    maskAddr := fieldAt bs 40 8, biasAddr := fieldAt bs 48 8, stopAddr := fieldAt bs 56 8, dslot := fieldAt bs 64 2
    draftMax := byteAt bs 66, draftMin := byteAt bs 67, zeroRun := byteAt bs 68, fallback := byteAt bs 69 }

/-- 1.0 as an FP32 code. -/
def fp32One : Nat := 0x3F800000

/-- An FP32 code is a value from `lo` (taken in or not) to `hi` (likewise). -/
def fp32In (c : Nat) (lo : Nat) (loIn : Bool) (hi : Option Nat) (hiIn : Bool) : Bool :=
  let v := ofFp32 c
  v != .nan && ((ofFp32 lo).lt v || (loIn && !(v.lt (ofFp32 lo)))) &&
  (match hi with
   | none => true
   | some h => v.lt (ofFp32 h) || (hiIn && !((ofFp32 h).lt v)))

/-- The fields of a parameter block are in range and its RSV bytes 0; `draft` says whether bytes 69:64 count (R336). -/
def Params.ok (p : Params) (bs : List Nat) (draft : Bool) (limit : Nat) : Bool :=
  byteAt bs 0 < 8 && p.stops ≤ 4 && p.topK ≤ 4096
  && (if p.greedy then ofFp32 p.temp != .nan else fp32In p.temp 0 false none true)
  && fp32In p.topP 0 false (some fp32One) true && fp32In p.minP 0 true (some fp32One) false
  && fp32In p.rep fp32One true none true && p.repWindow ≤ 2 ^ 20 && p.biasCount ≤ 4096 && rsvZero bs 70 58
  && p.maskAddr % 32 == 0 && p.biasAddr % 8 == 0
  && (!draft || (1 ≤ p.draftMax && p.draftMax ≤ limit && 1 ≤ p.draftMin && p.draftMin ≤ p.draftMax && 1 ≤ p.zeroRun
      && p.fallback ≤ 1))

/-! ### The row (R338, R339) -/

/-- A value rounded to FP32 under RNE. -/
def r32 (v : Num) : Num := ofFp32 (toFp32 v)

/-- A NaN logit is treated as −∞ (R339). -/
def noNan (v : Num) : Num := if v == .nan then .inf true else v

/-- What a pruner makes of a row: NaN logits met, the greedy choice or none where the row has no candidate, and the
candidates with their weights as FP32 codes, in the order of step 10. -/
structure Pruned where
  nans : Nat
  choice : Option Nat
  cands : List (Nat × Nat)
deriving DecidableEq, Repr

/-- Steps 1 to 4: the logits after mask, bias and penalty, with the NaN logits met. -/
def rowLogits (p : Params) (logits : List Nat) (mask : List Nat) (bias : List (Nat × Nat)) (history : List Nat) : List Num × Nat :=
  let l0 := logits.map ofFp32
  let n0 := (l0.filter (· == .nan)).length
  let l1 := ((List.range l0.length).zip l0).map (fun (e : Nat × Num) =>
    if p.maskEn && !bitOf (byteAt mask (e.1 / 8)) (e.1 % 8) then Num.inf true else noNan e.2)
  let l2 := if p.biasEn then bias.foldl (fun l (e : Nat × Nat) => l.modify e.1 (fun v => r32 (v.add (ofFp32 e.2)))) l1 else l1
  let n2 := (l2.filter (· == .nan)).length
  let rep := ofFp32 p.rep
  let l3 := ((List.range l2.length).zip (l2.map noNan)).map (fun (e : Nat × Num) =>
    if history.contains e.1 then noNan (r32 (if Num.zero.lt e.2 then e.2.div rep else e.2.mul rep)) else e.2)
  (l3, n0 + n2)

/-- The order of step 7: larger logit first, lower token first among equals. -/
def logitBefore (a b : Nat × Num) : Bool := b.2.lt a.2 || (!(a.2.lt b.2) && a.1 ≤ b.1)

/-- An FP32 weight, which is not negative, in units of 2^-149. -/
def weightInt (c : Nat) : Nat :=
  let e := c / 2 ^ 23 % 256
  let m := c % 2 ^ 23
  if e == 0 then m else (m + 2 ^ 23) * 2 ^ (e - 1)

/-- Sum of the weights of candidates, exact. -/
def weightSum (cs : List (Nat × Nat)) : Nat := (cs.map (fun c => weightInt c.2)).foldl (· + ·) 0

/-- Step 10: the shortest leading run whose weight reaches TOP_P × W. -/
def leadingRun (limit : Nat) : List (Nat × Nat) → Nat → List (Nat × Nat)
  | [], _ => []
  | c :: r, sum =>
    let s := sum + weightInt c.2
    if limit ≤ s * 2 ^ 149 then [c] else c :: leadingRun limit r s

/-- The order of step 10: larger weight first, lower token first among equals. -/
def weightBefore (a b : Nat × Nat) : Bool := weightInt b.2 < weightInt a.2 || (weightInt a.2 == weightInt b.2 && a.1 ≤ b.1)

/-- Steps 5 to 10. exp is written in FP32 under its bound (R153); `free` numbers the open choices. -/
def candidates (p : Params) (ls : List Num) (free : Nat) : List (Nat × Nat) :=
  let t := ofFp32 p.temp
  let l6 := ((List.range ls.length).zip ls).map (fun (e : Nat × Num) => (e.1, noNan (r32 (e.2.div t))))
  let top := (sortBy logitBefore l6).take (if p.topK == 0 then 4096 else p.topK)
  let infs := top.filter (fun e => e.2 == .inf false)
  if !infs.isEmpty then infs.map (fun e => (e.1, fp32One))
  else
    let m := (top.headD (0, .zero)).2
    let w := top.map (fun (e : Nat × Num) =>
      (e.1, if e.2 == .inf true then 0
        else (special 0x03 (r32 (e.2.add m.neg)) (.fin false 1 1) 0x0A false false (free + e.1)).1.code))
    let kept := w.filter (fun e => weightInt p.minP ≤ weightInt e.2)
    leadingRun (weightInt p.topP * weightSum kept) (sortBy weightBefore kept) 0

/-- A row through step 10 (R338, R339). -/
def pruneRow (p : Params) (logits mask : List Nat) (bias : List (Nat × Nat)) (history : List Nat) (free : Nat) : Pruned :=
  let (ls, nans) := rowLogits p logits mask bias history
  if ls.all (· == .inf true) then { nans := nans, choice := none, cands := [] }
  else
    let best := ((sortBy logitBefore ((List.range ls.length).zip ls)).headD (0, .zero)).1
    { nans := nans, choice := some best, cands := if p.greedy then [] else candidates p ls free }

/-! ### The generator and the draw (R340, R341) -/

/-- The random value u of a use. -/
def randomU (seed pos stream : Nat) : Nat := shakeNat (leBytes seed 8 ++ leBytes pos 4 ++ leBytes stream 4) 8

/-- The first candidate whose exact cumulative weight C satisfies C × 2^64 > u × W. -/
def drawFrom (cs : List (Nat × Nat)) (u w : Nat) : Nat → Option Nat
  | sum => match cs with
    | [] => none
    | c :: r =>
      let s := sum + weightInt c.2
      if u * w < s * 2 ^ 64 then some c.1 else drawFrom r u w s

/-- The draw (R341). -/
def draw (cs : List (Nat × Nat)) (u : Nat) : Option Nat := drawFrom cs u (weightSum cs) 0

end Sys2Proof.Machine
end

