-- ==== Sys2Proof/Machine/HostMemory.lean ====
section
/-!
DEFINITION. Host CXL.mem accesses through the HDM windows and the snoop filter (R362 to R365).
-/
namespace Sys2Proof.Machine

/-- The window in effect that maps a DPA (R362). -/
def State.windowOf (s : State) (dpa : Nat) : Option HdmMap :=
  (s.host.wins.map (fun e => e.2.now)).find? (fun e => e.len != 0 && e.dpa ≤ dpa && dpa < e.dpa + e.len)

/-- Lines of a die's snoop filter that the filter holds (R365). -/
def snoopLines : Nat := 131072

/-- A line enters the snoop filter of its directory die; a full filter first gives up its oldest line with BISnpInv
(R365). -/
def State.cacheLine (s : State) (line : Nat) : State :=
  let die := dieOf (line / 1024)
  let q := (tget s.host.snoop die).filter (· != line)
  match q with
  | old :: rest =>
    if snoopLines ≤ q.length then
      (({ s with host := { s.host with snoop := tset s.host.snoop die (rest ++ [line]), bi := s.host.bi ++ [old] } }).emit
        (.cxl "BISnpInv" [old])).bump 0x3504 3 1
    else { s with host := { s.host with snoop := tset s.host.snoop die (q ++ [line]) } }
  | [] => { s with host := { s.host with snoop := tset s.host.snoop die [line] } }

/-- The answer of a host access that fails: the counter and the cause of its status (R364). -/
def State.hostFails (s : State) (w : HostWait) (f st : Nat) : State :=
  let s1 := if st == stWindow then (s.bump 0x3504 1 1).raiseCause f 1 0
    else if st == stGone then (s.bump 0x3504 4 1).raiseCause f 1 3
    else (s.bump 0x3504 2 1).raiseCause f 1 1
  if w.write then s1.emit (.cxl "Cmp" [w.tag]) else s1.emit (.hostData w.tag true [])

/-- The status under which a host access is answered, by its window and its translation; a LOST tile, a failed tier and
an address over the top of the range answer as R364 has them. -/
def State.hostStatus (s : State) (w : HostWait) (win : HdmMap) : Nat :=
  if (bitOf win.flags 1 && !w.tee) || (w.write && !bitOf win.flags 0) then stWindow
  else
    let st := s.transStatus win.func (win.dev + (w.dpa - win.dpa)) 64
    if st == stTier then stPoison else if st == stProtocol then stWindow else st

/-- The tier of an access cannot serve it now: in retention, or a unit of its words retrains or is recalibrated (R232,
R245). -/
def State.tierBusy (s : State) (addr n : Nat) : Bool :=
  (wordsOf addr n).any (fun w =>
    let l := s.leaf (w / 2048)
    let u := s.wordUnit l.home l.frame w
    s.tierSt l.home == 2 || s.code.train.contains u || s.unitHeld u)

/-- A host access is held: its tile is MOVING, it reads a line that awaits a BIRsp, or its tier cannot serve it now (R232,
R364, R365). -/
def State.hostWaits (s : State) (w : HostWait) (addr : Nat) : Bool :=
  (s.leaf (tileOf addr)).moving || (!w.write && s.host.bi.contains (addr / 64)) || s.tierBusy addr 64

/-- A host access whose tile and line stand ready: data or poison, or the write applied where its words allow (R239 to R241,
R364). -/
def State.hostServe (s : State) (w : HostWait) (f addr : Nat) : State :=
  let s1 := s.touch addr 64
  if w.write then
    let (bad, s2) := s1.mergeWrite addr ((List.range 64).map (fun i => w.data.getD i 256))
    if bad.isEmpty then s2.emit (.cxl "Cmp" [w.tag]) else s2.hostFails w f stPoison
  else
    let (bad, s2) := State.readWords (s1.sickIn addr 64) s1
    if bad.isEmpty then
      let s3 := (s2.bump 0x3300 (s.leaf (tileOf addr)).home 64).emit (.hostData w.tag false (memBytes s2.mem addr 64))
      if w.cache then s3.cacheLine (addr / 64) else s3
    else s2.hostFails w f stPoison

/-- A host access that has been held on a MOVING tile is held no more: the hold counts (R228). -/
def State.hostHeld (s : State) (w : HostWait) : State := if w.onMove then s.countHold (s.clk.dcount - w.since) else s

/-- A host access: answered, or held (R228, R364). -/
def State.hostAccess (s : State) (w : HostWait) : State :=
  match s.windowOf w.dpa with
  | none => (s.hostHeld w).hostFails w 0 stWindow
  | some win =>
    let addr := win.dev + (w.dpa - win.dpa)
    let st := s.hostStatus w win
    if st != stOk then (s.hostHeld w).hostFails w win.func st
    else if s.hostWaits w addr then
      let s1 := s.wakeTiers addr 64
      { s1 with host := { s1.host with waits := s1.host.waits ++ [{ w with onMove := w.onMove || (s.leaf (tileOf addr)).moving }] } }
    else (s.hostHeld w).hostServe w win.func addr

/-- The held host accesses are presented again, oldest first (R364, R365). -/
def State.serveWaits (s : State) : State :=
  s.host.waits.foldl State.hostAccess { s with host := { s.host with waits := [] } }

end Sys2Proof.Machine
end

