-- ==== Sys2Proof/Machine/Directory.lean ====
section
/-!
DEFINITION. The three tiers as one range: object commands (R216 to R219), the mover (R220, R226 to R229), translation and
the answers of the tier controllers (R224, R239 to R243), and the failure of a tier (R233 to R235, R493).
-/
namespace Sys2Proof.Machine

/-! ### Descriptors and leaf entries (R216, R222) -/

/-- STATE of a descriptor (R216). -/
def ObjSt.code : ObjSt → Nat
  | .free => 0 | .placing => 1 | .live => 2 | .damaged => 3 | .freeing => 4

/-- Tiles of an object homed in a tier. -/
def State.objTiles (s : State) (o t : Nat) : Nat := (s.tier.leaf.filter (fun e => e.2.object == o && e.2.home == t)).length

/-- The 64 bytes of a descriptor (R216). -/
def State.descriptor (s : State) (n : Nat) (o : Obj) : List Nat :=
  leBytes n 4 ++ [o.owner, o.pref + (if o.pin then 4 else 0) + (if o.settle then 8 else 0), o.prio, o.st.code]
  ++ leBytes o.base 8 ++ leBytes o.tiles 4 ++ leBytes (s.objTiles n 1) 4 ++ leBytes (s.objTiles n 2) 4
  ++ leBytes (s.objTiles n 3) 4 ++ List.replicate 32 0

/-- The 128 bits of a leaf entry (R222). -/
def Leaf.word (l : Leaf) : Nat :=
  l.home % 4 + (if l.moving then 4 else 0) + (if l.lost then 8 else 0) + l.dest % 4 * 2 ^ 4 + l.frame % 2 ^ 26 * 2 ^ 8
  + l.dframe % 2 ^ 26 * 2 ^ 40 + l.object % 2 ^ 20 * 2 ^ 72 + l.use % 2 ^ 16 * 2 ^ 96

/-- The state with a leaf entry replaced. -/
def State.putLeaf (s : State) (k : Nat) (l : Leaf) : State := { s with tier := { s.tier with leaf := tset s.tier.leaf k l } }

/-- Keys of an object's tiles in tile order. -/
def Obj.keys (o : Obj) : List Nat := (List.range o.tiles).map (fun i => tileOf o.base + i)

/-! ### Room (R208, R218, R219, R221) -/

/-- Bytes of the directory frames in use: the object table, 64 roots, and the second-level tables and leaves of the
tiles with entries (R216, R221). -/
def dirBytes (keys : List Nat) : Nat :=
  1048576 * 64 + 64 * 8192 + 8192 * (dedup' (keys.map (· / 2 ^ 20))).length + 16384 * (dedup' (keys.map (· / 1024))).length

/-- Frame limit of a function in a tier (R219). -/
def State.frameLimit (s : State) (f t : Nat) : Nat := s.obj (0x2410 + t) (f + 1)

/-- The highest tier below `t` with a free frame that the function may hold (R218, R219). -/
def State.lowerTier (s : State) (f t : Nat) : Option Nat :=
  [2, 3].find? (fun y => t < y && 0 < s.freeFrames y && s.heldFrames f y < s.frameLimit f y)

/-- The tile of entry `e` may be demoted from tier `x` for object `n` of function `f` at priority `prio` (R218). -/
def State.eligible (s : State) (f n prio x : Nat) (e : Nat × Leaf) : Bool :=
  e.2.home == x && !e.2.moving && !e.2.lost && e.2.object != n &&
  (match tfind s.tier.objs e.2.object with
   | none => false
   | some o => (o.st == .live || o.st == .damaged) && !(o.pin && o.pref == x) && prio ≤ o.prio
      && (o.owner == f || (if x == 1 then s.obj 0x2410 (o.owner + 1) else 0) < s.heldFrames o.owner x)
      && (s.lowerTier o.owner x).isSome)

/-- Of two candidates the one picked first: lowest priority, then lowest USE, then lowest address (R218). -/
def State.victimBefore (s : State) (a b : Nat × Leaf) : Bool :=
  let pa := (tget s.tier.objs a.2.object).prio
  let pb := (tget s.tier.objs b.2.object).prio
  if pa != pb then pb < pa else if a.2.use != b.2.use then a.2.use < b.2.use else a.1 < b.1

/-- The first of a list under an order. -/
def firstBy {α : Type} (before : α → α → Bool) : List α → Option α
  | [] => none
  | a :: r => match firstBy before r with
    | none => some a
    | some b => if before b a then some b else some a

/-- A tile is copied out of its frame: single symbols are corrected, uncorrectable words are carried with the poison mark,
tags are not checked (R226, R239, R240, R252). -/
def State.copyTile (s : State) (k : Nat) (poisoned : List Nat) : State :=
  let l := s.leaf k
  let words := dedup' (s.sickIn (tileAddr k) 65536 ++ (if l.home == 3 then (poisoned.filter (· < 2048)).map (k * 2048 + ·) else []))
  (words.foldl (fun st w =>
    let u := s.wordUnit l.home l.frame w
    let q := tget s.code.spent u
    ((st.decodeAt w u q (l.home == 3 && poisoned.contains (w % 2048))).2).writeBack w q) s).bump 0x3300 l.home 65536

/-- An access is out at the tiers. -/
def Acc.isOut (a : Acc) : Bool := a.st == .flight || a.st == .reread

/-- An access touches a tile; its tier and frame for that tile (R224). -/
def Acc.touches (a : Acc) (k : Nat) : Bool := (tilesOf a.addr a.len).contains k
def Acc.place (a : Acc) (k : Nat) : Nat × Nat :=
  if k == tileOf a.addr then (a.tier, a.frame) else a.more.getD (k - tileOf a.addr - 1) (a.tier, a.frame)

/-- The tile leaves its frame: reads outstanding on it keep the old frame's bytes (R227). -/
def State.keepReads (s : State) (k : Nat) : State :=
  let keep := fun (a : Acc) =>
    if a.isOut && !a.write && a.touches k then { a with data := (List.range a.len).map (fun i =>
      let x := a.addr + i
      if tileOf x != k then a.data.getD i 257 else if tget s.tier.poison (x / 32) then 256 else memGet s.mem x) }
    else a
  { s with tier := { s.tier with accs := s.tier.accs.map keep } }

/-- A victim is demoted whole to the highest lower tier with room; its frame becomes free (R218). -/
def State.demote (s : State) (k x : Nat) : State :=
  match s.lowerTier (k / 2 ^ 30) x with
  | none => s
  | some y =>
    let s1 := (s.copyTile k []).keepReads k
    let s2 := (s1.putLeaf k { s1.leaf k with home := y, frame := s.pickFrame y }).tick
    (s2.bump 0x3302 x 1).bump 0x3301 y 1

/-- A frame of tier `t` for a tile of object `n` of function `f`: a free one, or one that a demotion frees (R218, R219). -/
def State.takeFrame (s : State) (f n prio t : Nat) : Option (Nat × State) :=
  if s.frameLimit f t ≤ s.heldFrames f t then none
  else if 0 < s.freeFrames t then some (s.pickFrame t, s.tick)
  else if s.tierSt t != 1 && s.tierSt t != 2 then none
  else match firstBy s.victimBefore (s.tier.leaf.filter (s.eligible f n prio t)) with
    | none => none
    | some v => let s1 := s.demote v.1 t
      some (v.2.frame, s1)

/-- A frame in the first of the tiers that gives one. -/
def State.takeFrom (s : State) (f n prio : Nat) : List Nat → Option (Nat × Nat × State)
  | [] => none
  | t :: r => match s.takeFrame f n prio t with
    | some (fr, s1) => some (t, fr, s1)
    | none => s.takeFrom f n prio r

/-- Frames for a new object's tiles, in tile order (R218). -/
def State.allocTiles (n f prio : Nat) (tiers : List Nat) : List Nat → State → Option State
  | [], s => some s
  | k :: r, s => match s.takeFrom f n prio tiers with
    | none => none
    | some (t, fr, s1) =>
      State.allocTiles n f prio tiers r (s1.putLeaf k {
        home := t, frame := fr, moving := false, dest := 0, dframe := 0, lost := false, object := n, use := 0, copied := false })

/-- A tile joins the mover's list, with the frame that is reserved for it. -/
def State.addMove (s : State) (k tier cmd : Nat) (frame : Option Nat) : State :=
  { s with tier := { s.tier with
    moveQ := s.tier.moveQ ++ [{ tileKey := k, tier := tier, cmd := cmd, started := false, frame := frame }] } }

/-- Tiles join the mover's list for command `c`; those that `need` a frame have one of tier `t` reserved. None where one
cannot be had (R217). -/
def State.reserveMoves (n f prio t c : Nat) (need : Nat → Bool) : List Nat → State → Option State
  | [], s => some s
  | k :: r, s =>
    if need k then match s.takeFrame f n prio t with
      | none => none
      | some (fr, s1) => State.reserveMoves n f prio t c need r (s1.addMove k t c (some fr))
    else State.reserveMoves n f prio t c need r (s.addMove k t c none)

/-- Frames of tier `t` can be had for all of the tiles (R217, R313). -/
def State.fitsAll (n f prio t : Nat) (keys : List Nat) (s : State) : Bool :=
  (State.reserveMoves n f prio t 0 (fun _ => true) keys s).isSome

/-! ### CREATE (R217) -/

/-- The fields of PLACE and PRIO are legal (R216). -/
def placeOk (place prio : Nat) : Bool := place % 4 != 0 && place < 16 && prio < 8

/-- A range of tiles lies in one part of the device range (R210, R216). -/
def rangeOk (f base tiles : Nat) : Bool :=
  base % 65536 == 0 && base < 2 ^ 52 && 1 ≤ tiles && tiles ≤ 67108864 && partOf base == f
  && (base + 65536 * tiles - 1) / 2 ^ 46 == f

/-- A range of tiles overlaps an object. -/
def State.overlaps (s : State) (base tiles : Nat) : Bool :=
  s.tier.objs.any (fun e => base < e.2.base + 65536 * e.2.tiles && e.2.base < base + 65536 * tiles)

/-- The status of a creation and the state with the object made, zero-filled, its leaves and tables allocated and the
walk caches invalidated (R217, R218, R221, R223). -/
def State.createObj (s : State) (f base tiles place prio : Nat) : Nat × Nat × State :=
  if !(rangeOk f base tiles && placeOk place prio) || s.overlaps base tiles then (stProtocol, 0, s)
  else match s.pickNo (s.tier.objs.map (fun e => e.1)) 1048576 with
    | none => (stResource, 0, s)
    | some n =>
      let o : Obj := {
        owner := f, pref := place % 4, pin := bitOf place 2, settle := bitOf place 3, prio := prio, st := .live,
        base := base, tiles := tiles }
      let tiers := if o.pin then [o.pref] else [1, 2, 3].filter (o.pref ≤ ·)
      let keys := s.tier.leaf.map (fun e => e.1) ++ o.keys
      if s.dirFrames * 65536 < dirBytes keys then (stResource, 0, s)
      else match State.allocTiles n f prio tiers o.keys (s.tick) with
        | none => (stResource, 0, s)
        | some s1 =>
          (stOk, n, { (s1.putObject n o) with
            mem := memZero s1.mem base (65536 * tiles)
            tier := { (s1.putObject n o).tier with
              walk := []
              poison := s1.tier.poison.filter (fun e => !(base / 32 ≤ e.1 && e.1 < (base + 65536 * tiles) / 32)) }
            code := { s1.code with
              bad := s1.code.bad.filter (fun e => !(base / 32 ≤ e.1 && e.1 < (base + 65536 * tiles) / 32))
              flips := s1.code.flips.filter (fun e => !(base / 32 ≤ e.1 && e.1 < (base + 65536 * tiles) / 32)) } })

/-- CREATE. -/
def opCreate (q : Req) (base tiles place prio : Nat) (lost : Bool) (s : State) : State := s.partCmd q <|
  let (st, n, s1) := s.createObj q.func base tiles place prio
  if st == stOk && lost then s.complete q stTier 0
  else s1.complete q st n

def execCreate (q : Req) (base tiles place prio : Nat) (lost : Bool) (s : State) : Outcome :=
  .next (opCreate q base tiles place prio lost s)

/-! ### PLACE and MOVE (R217) -/

/-- An object a command may act on: LIVE or DAMAGED and of the function's part (R217). -/
def State.ownObj (s : State) (f n : Nat) : Option Obj :=
  match tfind s.tier.objs n with
  | some o => if o.owner == f && (o.st == .live || o.st == .damaged) then some o else none
  | none => none

/-- A command whose last tile has been dealt with completes (R217). -/
def State.endMoves (s : State) (c : Nat) : State :=
  match tfind s.tier.moveCmds c with
  | none => s
  | some m =>
    if s.tier.moveQ.any (fun r => r.cmd == c) then s
    else
      let s1 := { s with tier := { s.tier with moveCmds := tdel s.tier.moveCmds c } }
      if m.place then s1.complete m.q m.status 0 else s1.completeWith m.q m.status m.moved

/-- A command whose tiles stand in the mover's list is under way; one without tiles to move completes (R217). -/
def State.beginMoves (s : State) (q : Req) (place : Bool) (c : Nat) : State :=
  ({ s with tier := { s.tier with
      cmdNext := c
      moveCmds := tset s.tier.moveCmds c { q := q, place := place, moved := 0, status := stOk } } }).endMoves c

/-- PLACE. A pinned object must fit in its new PREF as a whole. -/
def opPlace (q : Req) (n place prio : Nat) (s : State) : State := s.partCmd q <|
  match s.ownObj q.func n with
  | none => s.complete q stProtocol 0
  | some o =>
    let pref := place % 4
    let away := o.keys.filter (fun k => let l := s.leaf k
      (if l.moving then l.dest else l.home) != pref || l.moving)
    let need := o.keys.filter (fun k => let l := s.leaf k
      (if l.moving then l.dest else l.home) != pref && !l.lost)
    let c := s.tier.cmdNext + 1
    if !placeOk place prio then s.complete q stProtocol 0
    else match State.reserveMoves n q.func prio pref c (fun k => bitOf place 2 && need.contains k) away s with
      | none => s.complete q stResource 0
      | some s1 => (s1.putObject n { o with pref := pref, pin := bitOf place 2, settle := bitOf place 3, prio := prio }).beginMoves
          q true c

def execPlace (q : Req) (object place prio : Nat) (s : State) : Outcome := .next (opPlace q object place prio s)

/-- MOVE. -/
def opMove (q : Req) (n first count tier : Nat) (s : State) : State := s.partCmd q <|
  match s.ownObj q.func n with
  | none => s.complete q stProtocol 0
  | some o =>
    if o.tiles < first + count || tier == 0 || 3 < tier || (o.pin && tier != o.pref) then s.complete q stProtocol 0
    else
      let c := s.tier.cmdNext + 1
      (((o.keys.drop first).take count).foldl (fun st k => st.addMove k tier c none) s).beginMoves q false c

def execMove (q : Req) (object first count tier : Nat) (s : State) : Outcome := .next (opMove q object first count tier s)

/-! ### FREE and QUERY (R217, R235, R280, R310) -/

/-- FREE. The provider's FREE of a save pool first tears down the tasks that hold its slots (R280). -/
def opFree (q : Req) (n : Nat) (s : State) : State :=
  if s.recovery then s.complete q stOk 0
  else match tfind s.tier.objs n with
  | none => s.complete q stProtocol 0
  | some o =>
    if !(o.owner == q.func || q.func == 0) || !(o.st == .live || o.st == .damaged) then s.complete q stProtocol 0
    else
      let pool := tget s.jig.pools o.owner
      let s1 := if q.func != o.owner && pool.slots != 0 && pool.object == n then
          s.endTasks (fun t => t.func == o.owner && !t.slots.isEmpty) stGone else s
      s1.beginFree n o (some q)

def execFree (q : Req) (object : Nat) (s : State) : Outcome := .next (opFree q object s)

/-- A save pool or cache pool is still in use (R280, R310). -/
def State.poolBusy (s : State) (n : Nat) : Bool :=
  s.jig.pools.any (fun e => e.2.object == n && e.2.slots != 0 && !e.2.held.isEmpty)
  || s.srv.pools.any (fun e => e.2.object == n && s.srv.entries.any (fun x => x.2.func == e.1))

/-- An object's moves have committed and its accesses finished (R217, R229). -/
def State.idleObj (s : State) (n : Nat) (o : Obj) : Bool :=
  !(o.keys.any (fun k => (s.leaf k).moving)) &&
  !(s.tier.moveQ.any (fun r => o.keys.contains r.tileKey)) &&
  !(s.tier.old.any (fun w => o.keys.contains w.tileKey)) &&
  !(s.tier.accs.any (fun a => (a.st == .held || a.isOut) && o.keys.any a.touches))
  && !s.poolBusy n

/-- The frames and the descriptor are free (R217, R221, R223). -/
def State.dropObj (s : State) (n : Nat) (o : Obj) : State :=
  let lo := tileOf o.base
  let mine := fun (k : Nat) => lo ≤ k && k < lo + o.tiles
  { s with
    mem := memZero s.mem o.base (65536 * o.tiles)
    tier := { s.tier with
      objs := tdel s.tier.objs n
      leaf := s.tier.leaf.filter (fun e => !mine e.1)
      cache := s.tier.cache.filter (fun k => !mine k)
      walk := []
      poison := s.tier.poison.filter (fun e => !mine (e.1 / 2048)) }
    code := { s.code with
      bad := s.code.bad.filter (fun e => !mine (e.1 / 2048)), flips := s.code.flips.filter (fun e => !mine (e.1 / 2048)) }
    jig := { s.jig with pools := s.jig.pools.filter (fun e => !(e.2.object == n && e.2.slots != 0)) }
    srv := { s.srv with pools := s.srv.pools.filter (fun e => e.2.object != n) } }

/-- A TENANT_END completes when its function's last frame is free (R401). -/
def State.settleTenant (s : State) (f : Nat) : State :=
  if s.tier.objs.any (fun e => e.2.owner == f) then s
  else (tget s.trust.endCmd f).foldl (fun st q => st.complete q stOk 0)
    { s with trust := { s.trust with endCmd := tdel s.trust.endCmd f } }

/-- FREE_RELEASE. -/
def opFreeRelease (n : Nat) (s : State) : State :=
  match tfind s.tier.objs n, s.tier.frees.find? (fun e => e.1 == n) with
  | some o, some (_, q) =>
    if o.st != .freeing || !s.idleObj n o then s
    else
      let s1 := (s.dropObj n o).gensFreed n
      let s2 := { s1 with tier := { s1.tier with frees := s1.tier.frees.filter (fun e => e.1 != n) } }
      let s3 := match q with
        | some q => s2.complete q stOk 0
        | none => s2
      s3.settleTenant o.owner
  | _, _ => s

def execFreeRelease (object : Nat) (s : State) : Outcome := .next (opFreeRelease object s)

/-- A command that would write to a device address is refused with PROTOCOL, or with what its address gives where that
outranks it; nothing is written (R13). -/
def State.refuseWrite (s : State) (q : Req) (addr n : Nat) : State :=
  let st := s.transStatus q.func addr n
  (s.windowCause q.func st).complete q (worst stProtocol st) 0

/-- QUERY. -/
def opQuery (q : Req) (n addr : Nat) (s : State) : State := s.partCmd q <|
  match tfind s.tier.objs n with
  | none => s.refuseWrite q addr 64
  | some o =>
    if o.owner != q.func then s.refuseWrite q addr 64
    else
      let (st, s1) := s.writeDev q.func addr (s.descriptor n o)
      s1.complete q st 0

def execQuery (q : Req) (object addr : Nat) (s : State) : Outcome := .next (opQuery q object addr s)

/-! ### The directory port (R225) -/

/-- Port of a requester at a directory die: a bay its own number, a spline link 32 and its number on its die (DESIGN CHOICE,
log 98). -/
def Who.port : Who → Nat
  | .ftu bay _ _ => bay
  | .link l => 32 + l % 8
  | .gone bay => bay

/-- An access that is presented waits for a host's answer, or goes out over a fabric window: it does not use the port. -/
def State.elsewhere (s : State) (a : Acc) : Bool :=
  (match s.fabWin a.func a.addr a.len, a.who with
   | some _, .ftu _ _ _ => true
   | _, _ => false)
  || s.host.bi.any (fun l => a.addr / 64 ≤ l && l ≤ (a.addr + max a.len 1 - 1) / 64)

/-- An access made for a peer stays behind those its link has brought before it for one of its tiles: they are performed in the
order in which they came (R427). -/
def State.afterOthers (s : State) (a : Acc) : Bool :=
  match a.who with
  | .link _ => (s.tier.accs.takeWhile (fun b => b.id != a.id)).any (fun b =>
      b.who == a.who && b.st != .done && (tilesOf a.addr a.len).any b.touches)
  | _ => false

/-- The requester of an access reaches the directory die: a bay over the carcass (R53). -/
def State.dirRoute (s : State) (a : Acc) : Bool :=
  match a.who with
  | .ftu bay _ _ => s.carcassUp (bay / 4) (8 + dieOf (tileOf a.addr))
  | _ => true

/-- Ports with a translation presented at an I/O die that it can serve. -/
def State.dirPorts (s : State) (die : Nat) : List Nat :=
  (s.tier.accs.filter (fun a => a.st == .presented && dieOf (tileOf a.addr) == die && !s.elsewhere a && s.dirRoute a &&
    !s.afterOthers a)).map (fun a => a.who.port)

/-- A translation is served next: round-robin over the ports (R20, R225). -/
def State.dirTurn (s : State) (die : Nat) (a : Acc) : Bool :=
  s.elsewhere a || rrTurn (tget s.arb (4 + die)) 40 (s.dirPorts die) a.who.port

/-- The pointer moves to the port after the one served. -/
def State.dirServed (s : State) (die : Nat) (a : Acc) : State :=
  if s.elsewhere a then s else { s with arb := tset s.arb (4 + die) ((a.who.port + 1) % 40) }

/-! ### The mover (R220, R226 to R229) -/

/-- Tiles an I/O die's mover moves. -/
def State.movingOn (s : State) (die : Nat) : Nat := (s.tier.leaf.filter (fun e => e.2.moving && dieOf e.1 == die)).length

/-- A change of what a command has done so far. -/
def State.modCmd (s : State) (c : Nat) (f : MoveCmd → MoveCmd) : State :=
  match tfind s.tier.moveCmds c with
  | none => s
  | some m => { s with tier := { s.tier with moveCmds := tset s.tier.moveCmds c (f m) } }

/-- A request leaves the mover's list. -/
def State.dropMove (s : State) (k c : Nat) : State :=
  match takeFirst (fun (r : MoveReq) => r.tileKey == k && r.cmd == c) s.tier.moveQ with
  | some (_, l) => { s with tier := { s.tier with moveQ := l } }
  | none => s

/-- The next request an I/O die can start: its tile is not MOVING, and no earlier tile of the same command waits
(R217, R226, R229). -/
def nextMove (s : State) (die : Nat) : List MoveReq → List Nat → Option MoveReq
  | [], _ => none
  | r :: l, seen =>
    if !r.started && dieOf r.tileKey == die && !(s.leaf r.tileKey).moving && (r.cmd == 0 || !seen.contains r.cmd) then some r
    else nextMove s die l (if r.started then seen else r.cmd :: seen)

/-- The rest of a command is given up: no room is left (R217). -/
def State.abandonCmd (s : State) (c status : Nat) : State :=
  ({ s with tier := { s.tier with moveQ := s.tier.moveQ.filter (fun r => r.cmd != c || r.started) } }).modCmd c
    (fun m => { m with status := worst m.status status })

/-- The frame of a request that starts: the one reserved for it, or one that is free or a demotion frees (R218, R226). -/
def State.moveFrame (s : State) (r : MoveReq) (o : Obj) (n : Nat) : Option (Nat × State) :=
  match r.frame with
  | some fr => some (fr, s)
  | none => s.takeFrame o.owner n o.prio r.tier

/-- MOVE_START: steps 1 and 2. A tile that is lost, gone or at its target needs no move; a tile of a PLACE without PIN
that finds no room stays (R217, R218). Translations presented at the port go first (R225). -/
def opMoveStart (die : Nat) (s : State) : State :=
  match (if s.movingOn die < 32 && (s.dirPorts die).isEmpty then nextMove s die s.tier.moveQ [] else none) with
  | none => s
  | some r =>
    let l := s.leaf r.tileKey
    let o := tget s.tier.objs l.object
    let drop := s.dropMove r.tileKey r.cmd
    if l.home == 0 || l.home == r.tier then drop.endMoves r.cmd
    else if l.lost || s.tierDown r.tier || s.tierDown l.home then
      (drop.modCmd r.cmd (fun m => { m with status := worst m.status stTier })).endMoves r.cmd
    else match s.moveFrame r o l.object with
      | none =>
        let place := (tget s.tier.moveCmds r.cmd).place
        if r.cmd == 0 || (place && !o.pin) then drop.endMoves r.cmd
        else (drop.abandonCmd r.cmd stResource).endMoves r.cmd
      | some (fr, s1) =>
        let l1 := s1.leaf r.tileKey
        let s2 := s1.putLeaf r.tileKey { l1 with moving := true, dest := r.tier, dframe := fr, copied := false }
        let mq := mapFirst (fun (x : MoveReq) => x.tileKey == r.tileKey && x.cmd == r.cmd) (fun x => { x with started := true })
          s2.tier.moveQ
        { s2 with tier := { s2.tier with moveQ := mq } }

def execMoveStart (die : Nat) (s : State) : Outcome := onUnit (die < 4) (opMoveStart die) s

/-- Accesses in flight on a tile (R224). -/
def State.inFlightOn (s : State) (k : Nat) (write : Bool) : Bool :=
  s.tier.accs.any (fun a => a.isOut && a.write == write && a.touches k)

/-- Reads are outstanding on a frame that a tile has left (R227). -/
def State.readsLeft (s : State) (tier frame : Nat) : Bool :=
  s.tier.accs.any (fun a => a.isOut && !a.write && (tilesOf a.addr a.len).any (fun k =>
    a.place k == (tier, frame) && !((s.leaf k).home == tier && (s.leaf k).frame == frame)))

/-- A copy step holds back while a channel of one of its tiers is being retrained (R245, R249), a group or port of it is
being recalibrated (R498), or the tier is in retention (R232). -/
def State.trainingIn (s : State) (t : Nat) : Bool :=
  s.tierSt t == 2 || (if t == 1 then s.unitHeld 0 else if t == 2 then (List.range 3).any (fun g => s.unitHeld (16 + g))
    else (List.range 4).any (fun p => s.unitHeld (28 + 2 * p))) ||
  s.code.train.any (fun u => if t == 1 then u < 16 else if t == 2 then 16 ≤ u && u < 28 else false)

/-- MOVE_COPY: steps 3 and 4, once no write is in flight on the tile and no read is left on the new frame (R226, R227). -/
def opMoveCopy (k : Nat) (errs : List SymErr) (poisoned : List Nat) (s : State) : State :=
  let l := s.leaf k
  if !l.moving || l.copied || s.inFlightOn k true || s.readsLeft l.dest l.dframe || s.trainingIn l.home || s.trainingIn l.dest
  then s
  else
    let s1 := (s.harm (k * 2048) (errs.filter (fun e => e.word < 2048))).copyTile k poisoned
    s1.putLeaf k { l with copied := true }

def execMoveCopy (tile : Nat) (errs : List SymErr) (poisoned : List Nat) (s : State) : Outcome :=
  .next (opMoveCopy tile errs poisoned s)

/-! ### Retraining that waits for a copy step (R245, R249) -/

/-- A copy step reads or writes a tier. -/
def State.copying (s : State) (t : Nat) : Bool := s.tier.leaf.any (fun e => e.2.moving && e.2.copied && (e.2.home == t || e.2.dest == t))

/-- Tier of a memory unit. -/
def tierOfUnit (u : Nat) : Nat := if u < 16 then 1 else if u < 28 then 2 else 3

/-- A memory unit starts retraining, at once or after the copy step that uses it (R243, R245, R249). -/
def State.retrain (s : State) (u : Nat) : State :=
  if s.code.train.contains u then s
  else if s.copying (tierOfUnit u) then { s with code := { s.code with owed := if s.code.owed.contains u then s.code.owed else s.code.owed ++ [u] } }
  else { s with code := { s.code with train := s.code.train ++ [u], trainedAt := tset s.code.trainedAt u s.clk.dcount } }

/-- The retrainings that waited start where no copy step is left (R245). -/
def State.startOwed (s : State) : State :=
  s.code.owed.foldl State.retrain { s with code := { s.code with owed := [] } }

/-! ### Held translations and the commit (R226 to R229) -/

/-- A translation goes to the tiers, with the frames of its tiles; tiers in retention wake (R224, R232). -/
def State.accGoes (s : State) (a : Acc) : Acc :=
  let places := (tilesOf a.addr a.len).map (fun k => ((s.leaf k).home, (s.leaf k).frame))
  { a with st := .flight, tier := (places.getD 0 (0, 0)).1, frame := (places.getD 0 (0, 0)).2, more := places.drop 1, since := s.clk.dcount }

/-- The held accesses none of whose tiles is MOVING any more go to the tiers; the time held is counted (R226 step 6,
R228). -/
def State.serveHeld (s : State) : State :=
  let free := fun (a : Acc) => a.st == .held && (tilesOf a.addr a.len).all (fun k => !(s.leaf k).moving)
  let held := s.tier.accs.filter free
  let s1 := held.foldl (fun st a => (st.countHold (s.clk.dcount - a.since)).wakeTiers a.addr a.len) s
  ({ s1 with tier := { s1.tier with accs := s1.tier.accs.map (fun a => if free a then s.accGoes a else a) } } : State).serveWaits

/-- MOVE_COMMIT: steps 5 and 6. -/
def opMoveCommit (k : Nat) (s : State) : State :=
  let l := s.leaf k
  if !(l.moving && l.copied) then s
  else
    let s1 := (s.keepReads k).putLeaf k { l with
      home := l.dest, frame := l.dframe, moving := false, dest := 0, dframe := 0, copied := false }
    let w : OldFrame := { tier := l.home, frame := l.frame, tileKey := k }
    let s2 := { s1 with tier := { s1.tier with old := s1.tier.old ++ [w] } }
    let s3 := (s2.bump 0x3301 l.dest 1).serveHeld.startOwed
    match s3.tier.moveQ.find? (fun r => r.started && r.tileKey == k) with
    | none => s3
    | some r => (((s3.dropMove k r.cmd).modCmd r.cmd (fun m => { m with moved := m.moved + 1 }))).endMoves r.cmd

def execMoveCommit (tile : Nat) (s : State) : Outcome := .next (opMoveCommit tile s)

/-- OLD_FRAME_FREE: step 7. -/
def opOldFrameFree (k : Nat) (s : State) : State :=
  match takeFirst (fun (w : OldFrame) => w.tileKey == k &&
      !(s.tier.accs.any (fun a => a.isOut && a.touches k && a.place k == (w.tier, w.frame)))) s.tier.old with
  | none => s
  | some (_, rest) => { s with tier := { s.tier with old := rest } }

def execOldFrameFree (tile : Nat) (s : State) : Outcome := .next (opOldFrameFree tile s)

/-- A displaced tile that returns to tier `t` (R220). -/
def State.displaced (s : State) (t : Nat) (e : Nat × Leaf) : Bool :=
  e.2.home != 0 && e.2.home != t && !e.2.moving && !e.2.lost && !(s.tier.moveQ.any (fun r => r.tileKey == e.1)) &&
  (match tfind s.tier.objs e.2.object with
   | some o => o.settle && o.pref == t && (o.st == .live || o.st == .damaged)
      && s.heldFrames o.owner t < s.frameLimit o.owner t
   | none => false)

/-- The order of return: PRIO, then highest USE, then lowest address (R220). -/
def State.returnBefore (s : State) (a b : Nat × Leaf) : Bool :=
  let pa := (tget s.tier.objs a.2.object).prio
  let pb := (tget s.tier.objs b.2.object).prio
  if pa != pb then pa < pb else if a.2.use != b.2.use then b.2.use < a.2.use else a.1 < b.1

/-- SETTLE_RETURN: the mover takes up the next displaced tile of a tier with free frames, one of which is reserved for it:
nothing is demoted for a return (R218, R220). -/
def opSettleReturn (t : Nat) (s : State) : State :=
  if s.freeFrames t == 0 then s
  else match firstBy s.returnBefore (s.tier.leaf.filter (s.displaced t)) with
    | none => s
    | some e => (s.addMove e.1 t 0 (some (s.pickFrame t))).tick

def execSettleReturn (tier : Nat) (s : State) : Outcome := onUnit (1 ≤ tier && tier ≤ 3) (opSettleReturn tier) s

/-! ### Translation (R211, R224, R225, R365) -/

/-- The state with an access replaced. -/
def State.putAcc (s : State) (id : Nat) (f : Acc → Acc) : State :=
  { s with tier := { s.tier with accs := mapFirst (fun (a : Acc) => a.id == id) f s.tier.accs } }

/-- Lines of a range that the host holds (R365). -/
def State.hostLines (s : State) (addr n : Nat) : List Nat :=
  (s.host.snoop.flatMap (fun e => e.2)).filter (fun l => addr / 64 ≤ l && l ≤ (addr + max n 1 - 1) / 64)

/-- TRANSLATION. The port of the directory die serves its requesters round-robin (R225). An access to a line the host holds
sends BISnpInv and waits for the BIRsp; one that touches a MOVING tile is held; the others go to the tiers. A bay reaches the
die over the carcass (R53). -/
def opTranslation (id : Nat) (s0 : State) : State :=
  match s0.tier.accs.find? (fun a => a.id == id && a.st == .presented) with
  | none => s0
  | some a =>
    let die := dieOf (tileOf a.addr)
    if !(s0.dirTurn die a && s0.dirRoute a && !s0.afterOthers a) then s0
    else
    let s := s0.dirServed die a
    match s.fabWin a.func a.addr a.len, a.who with
    | some w, .ftu bay _ _ =>
      let (st, s1) := s.sendAccess w a bay
      if st != stOk then (s1.putAcc id (fun x => { x with st := .done, status := st, data := [] })).windowCause a.func st
      else if s1.link.reqs.length == s.link.reqs.length then s
      else s1.putAcc id (fun x => { x with st := .remote, since := s.clk.dcount })
    | _, _ =>
    let st := s.transStatus a.func a.addr a.len
    let lines := s.hostLines a.addr a.len
    if st != stOk then (s.putAcc id (fun x => { x with st := .done, status := st, data := [] })).windowCause a.func st
    else if !lines.isEmpty then
      let s1 := { s with host := { s.host with
        snoop := tmap s.host.snoop (fun _ q => q.filter (fun l => !lines.contains l)), bi := s.host.bi ++ lines } }
      lines.foldl (fun st l => (st.emit (.cxl "BISnpInv" [l])).bump 0x3504 3 1) s1
    else if s.host.bi.any (fun l => a.addr / 64 ≤ l && l ≤ (a.addr + max a.len 1 - 1) / 64) then s
    else
      let s1 := s.touch a.addr a.len
      if (tilesOf a.addr a.len).any (fun k => (s1.leaf k).moving) then s1.putAcc id (fun x => { x with st := .held })
      else (s1.wakeTiers a.addr a.len).putAcc id s1.accGoes

def execTranslation (acc : Nat) (s : State) : Outcome := .next (opTranslation acc s)

/-! ### Answers of the tier controllers (R239 to R243) -/

/-- Unit of a word of an access, by the frame that its translation returned (R212 to R214, R224). -/
def State.accUnit (s : State) (a : Acc) (w : Nat) : Nat := let p := a.place (w / 2048); s.wordUnit p.1 p.2 w

/-- The code that a read holds of the first byte of a word: 257 where the word's tile has not moved away under it (R227). -/
def Acc.kept (a : Acc) (w : Nat) : Nat := if a.write then 257 else a.data.getD (32 * w - a.addr) 257

/-- Symbols in error that strike the words which an access reads (R239). Those in a frame that its tile has left are not the
stored words of its present home. -/
def State.harmAcc (s : State) (a : Acc) (ws : List Nat) (errs : List SymErr) : State :=
  s.harm (a.addr / 32) (errs.filter (fun e => ws.contains (a.addr / 32 + e.word) && a.kept (a.addr / 32 + e.word) == 257))

/-- The words of an access are decoded in order: those that answer POISON and those whose data is wrong. -/
def State.decodeWords (base : State) (a : Acc) (errs : List SymErr) (poisoned : List Nat) :
    List Nat → State → List Nat × List Nat × State
  | [], s => ([], [], s)
  | w :: r, s =>
    let i := w - a.addr / 32
    let u := base.accUnit a w
    let q := tget base.code.spent u
    let lost := (a.place (w / 2048)).1 == 3 && poisoned.contains i
    let (d, s1) := if a.kept w == 257 then s.decodeAt w u q lost
      else s.decodeOld w u q (a.kept w == 256) (errsOf errs i) lost
    let (ps, ws, s2) := base.decodeWords a errs poisoned r s1
    (if d.poison then w :: ps else ps, if d.wrong then w :: ws else ws, s2)

/-- The words of an access that are read: all of a read, the words a write covers in part (R241). -/
def Acc.readWords (a : Acc) : List Nat :=
  (wordsOf a.addr a.len).filter (fun w => !a.write || partlyIn a.addr a.data w)

/-- The open bytes of a word that a miscorrection has left wrong (R239). -/
def State.wrongByte (s : State) (a : Acc) (x : Nat) : Nat :=
  (Config.freePayload (s.free + (x / 32 - a.addr / 32))).toNat / 256 ^ (x % 32) % 256

/-- Bytes read: from the tile's home, from the frame that it has left, or open (R227, R239). -/
def State.accData (s : State) (a : Acc) (wrong : List Nat) : List Nat :=
  (List.range a.len).map (fun i =>
    let x := a.addr + i
    if wrong.contains (x / 32) then s.wrongByte a x
    else let c := a.data.getD i 257
      if c < 256 then c else memGet s.mem x)

/-- Words that a write covers in part and that were read wrong have what was read of them merged in (R239, R241). -/
def State.mergeWrong (s : State) (a : Acc) (wrong : List Nat) : State :=
  { s with mem := wrong.foldl (fun m w => memPut m (32 * w) ((List.range 32).map (fun j => s.wrongByte a (32 * w + j)))) s.mem }

/-- Replies to a bay that has left service since it asked are dropped, and count as STALE there (R15, R495). -/
def State.dropStale (s : State) : State :=
  let stale := fun (a : Acc) => match a.who with
    | .gone bay => if a.st == .done then some bay else none
    | _ => none
  (s.tier.accs.filterMap stale).foldl (fun st b => st.bump 0x3722 (b + 1) 1)
    { s with tier := { s.tier with accs := s.tier.accs.filter (fun a => (stale a).isNone) } }

/-- An access is answered: a read with its bytes, a write applied where its words are good (R224, R241). -/
def State.answer (s : State) (a : Acc) (bad wrong : List Nat) : State :=
  let status := if bad.isEmpty then stOk else stPoison
  let fin := fun (u : State) (bs : List Nat) =>
    (if wrong.isEmpty then u else u.ticks (wordsOf a.addr a.len).length).putAcc a.id (fun x => { x with
      st := .done, status := status, data := bs, again := [], bads := [], wrongs := [] })
  if a.write then
    (fin ((s.mergeWrong a (wrong.filter (fun w => !bad.contains w))).store a.addr (without a.addr a.data bad)) []).dropStale
  else
    let bs := if bad.isEmpty then s.accData a wrong else []
    (tilesOf a.addr a.len).foldl (fun st k =>
      st.bump 0x3300 (a.place k).1 (min (a.addr + a.len) ((k + 1) * 65536) - max a.addr (k * 65536))) (fin s bs).dropStale

/-- Failed bursts of a unit: up to three replays, a fourth failure starts retraining; a DDR5 channel is retrained once
(R243, R249). -/
def State.replayBursts (s : State) (u n : Nat) : State :=
  let s1 := s.bump 0x3315 (u + 1) (min n 3)
  if n ≤ 3 || 28 ≤ u || (16 ≤ u && s.code.hot.contains u) then s1
  else
    let s2 := s1.retrain u
    { s2 with code := { s2.code with hot := if s2.code.hot.contains u then s2.code.hot else s2.code.hot ++ [u] } }

/-- A failed tag check: it counts for its unit (R255). -/
def State.tagFailed (s : State) (a : Acc) (w : Nat) : State := s.countSymbol (s.accUnit a w) 36

/-- TIER_REPLY. The tiers must be in service and no unit of the access in retraining; failed bursts beyond the replays
leave the access waiting for the retraining. Words that decode and whose tag fails are read once more (R239). -/
def opTierReply (id : Nat) (errs : List SymErr) (tagBad poisoned : List Nat) (bursts : List (Nat × Nat)) (s : State) : State :=
  match s.tier.accs.find? (fun a => a.id == id && a.st == .flight) with
  | none => s
  | some a =>
    let ws := wordsOf a.addr a.len
    if (tilesOf a.addr a.len).any (fun k => s.tierSt (a.place k).1 != 1)
      || ws.any (fun w => s.code.train.contains (s.accUnit a w) || s.unitHeld (s.accUnit a w)) then s
    else
      let bs := bursts.filter (fun (b : Nat × Nat) => b.1 < ws.length)
      let s1 := bs.foldl (fun st (b : Nat × Nat) => st.replayBursts (s.accUnit a (a.addr / 32 + b.1)) b.2) s
      if bs.any (fun (b : Nat × Nat) => 3 < b.2) then s1
      else
        let s2 := { s1 with code := { s1.code with hot := s1.code.hot.filter (fun u => !(ws.any (fun w => s.accUnit a w == u))) } }
        let (bad, wrong, s3) := s.decodeWords a errs poisoned a.readWords (s2.harmAcc a a.readWords errs)
        let tags := a.readWords.filter (fun w => tagBad.contains (w - a.addr / 32) && !bad.contains w)
        if tags.isEmpty then s3.answer a bad wrong
        else (tags.foldl (fun st w => st.tagFailed a w) s3).putAcc id (fun x => { x with
          st := .reread, again := tags, bads := bad, wrongs := wrong.filter (fun w => !tags.contains w) })

def execTierReply (acc : Nat) (errs : List SymErr) (tagBad poisoned : List Nat) (bursts : List (Nat × Nat)) (s : State) : Outcome :=
  .next (opTierReply acc errs tagBad poisoned bursts s)

/-- TAG_REREAD: the words whose tag failed are read once more. One that verifies is returned; the others are poisoned
in place (R239, R240). -/
def opTagReread (id : Nat) (errs : List SymErr) (tagBad poisoned : List Nat) (s : State) : State :=
  match s.tier.accs.find? (fun a => a.id == id && a.st == .reread) with
  | none => s
  | some a =>
    let (bad, wrong, s1) := s.decodeWords a errs poisoned a.again (s.harmAcc a a.again errs)
    let tags := a.again.filter (fun w => tagBad.contains (w - a.addr / 32) && !bad.contains w)
    let s2 := tags.foldl (fun st w =>
      let u := (st.tagFailed a w).bump 0x3314 (s.accUnit a w + 1) 1
      (if a.kept w == 257 then u.poisonWord w else u).tagAlarm (partOf a.addr)) s1
    let cured := a.again.filter (fun w => !tags.contains w && !bad.contains w)
    let s3 := cured.foldl (fun st w => st.bump 0x3313 (s.accUnit a w + 1) 1) s2
    s3.answer a (a.bads ++ bad ++ tags) (a.wrongs ++ wrong)

def execTagReread (acc : Nat) (errs : List SymErr) (tagBad poisoned : List Nat) (s : State) : Outcome :=
  .next (opTagReread acc errs tagBad poisoned s)

/-! ### When a tier fails (R233 to R235, R493) -/

/-- Recovery service: viral, every task torn down with TIER_FAIL, the directory and the object table lost (R381, R493). -/
def State.enterRecovery (s : State) : State :=
  let s1 := ((s.putObj 0x2010 5 1).emit (.cxl "viral" [])).raiseCause 0 8 2
  let s2 := (s1.endTasks (fun _ => true) stTier).endRequests (fun _ => true) stTier
  let s3 := s2.tier.objs.foldl (fun st e => st.gensDamaged e.1) s2
  let gone := s3.tier.moveCmds.foldl (fun st e => st.complete e.2.q stTier 0) s3
  let freed := gone.tier.frees.foldl (fun st e => match e.2 with | some q => st.complete q stOk 0 | none => st) gone
  -- a roll ends: its KEY_LOAD fails, the new set is kept (R501 note c); a TENANT_END has no frame left to wait for
  let rolled := freed.trust.rollCmd.foldl (fun st e => match e.2 with | some q => st.complete q stTier 0 | none => st) freed
  let ended := (rolled.trust.endCmd.flatMap (fun e => e.2)).foldl (fun st q => st.complete q stOk 0) rolled
  { ended with
    mem := []
    trust := { ended.trust with rollCmd := [], endCmd := [], old := [] }
    tier := { ended.tier with
      objs := [], leaf := [], poison := [], cache := [], walk := [], old := [], moveQ := [], moveCmds := [], frees := []
      accs := ended.tier.accs.map (fun a => if a.st == .done then a else { a with st := .done, status := stTier, data := [] }) }
    code := { ended.code with bad := [], flips := [], owed := [] }
    jig := { ended.jig with pools := [] }
    srv := { ended.srv with pools := [] } }

/-- An access fails with tier `t`: it is out at the tier, or held on a tile that is lost (R229, R234). -/
def Acc.failsWith (t : Nat) (lost : List Nat) (a : Acc) : Bool :=
  (tilesOf a.addr a.len).any (fun k => (a.isOut && (a.place k).1 == t) || (a.st == .held && lost.contains k))

/-- An access that fails is answered with TIER_FAIL. -/
def Acc.failWith (t : Nat) (lost : List Nat) (a : Acc) : Acc :=
  if a.failsWith t lost then { a with st := .done, status := stTier, data := [] } else a

/-- A tier is declared FAILED (R233, R234). -/
def State.failTier (s : State) (t : Nat) : State :=
  if s.tierDown t then s
  else
    let s0 := { s with tier := { s.tier with st := tset s.tier.st t 3 } }
    let s1 := ((s0.bump 0x3304 t 1).logErr (objKey 0x3304 t) stTier 0xFF t 0).raiseCause 0 12 0
    if t == 1 then s1.enterRecovery.serveWaits.dropStale
    else
      -- moves out of the tier end with the tile LOST, moves into it are abandoned (R229)
      let lost := (s1.tier.leaf.filter (fun e => e.2.home == t)).map (fun e => e.1)
      let back := (s1.tier.leaf.filter (fun e => e.2.home != t && e.2.moving && e.2.dest == t)).map (fun e => e.1)
      let ended := s1.tier.moveQ.filter (fun r => r.started && (lost.contains r.tileKey || back.contains r.tileKey))
      let s2 := { s1 with tier := { s1.tier with
        leaf := tmap s1.tier.leaf (fun k l =>
          if lost.contains k then { l with lost := true, moving := false, dest := 0, dframe := 0, copied := false }
          else if back.contains k then { l with moving := false, dest := 0, dframe := 0, copied := false } else l)
        old := s1.tier.old.filter (fun w => w.tier != t)
        accs := s1.tier.accs.map (Acc.failWith t lost) } }
      let ends := s1.tier.accs.filter (fun a => a.st == .held && a.failsWith t lost)
      let s3 := (ends.foldl (fun st a => st.countHold (s.clk.dcount - a.since)) s2).serveHeld.startOwed
      let s4 := ended.foldl (fun st r =>
        (((st.dropMove r.tileKey r.cmd).modCmd r.cmd (fun m => { m with status := worst m.status stTier }))).endMoves r.cmd) s3
      ((s4.damage (fun n _ => s4.tier.leaf.any (fun e => e.2.object == n && e.2.lost))).serveWaits).dropStale

/-- TIER_FAILURE. -/
def opTierFailure (t : Nat) (s : State) : State := s.failTier t

def execTierFailure (tier : Nat) (s : State) : Outcome := onUnit (1 ≤ tier && tier ≤ 3) (opTierFailure tier) s

/-- ACCESS_LIMIT_EXPIRY. -/
def opAccessLimitExpiry (id : Nat) (s : State) : State :=
  match s.tier.accs.find? (fun a => a.id == id && a.isOut) with
  | none => s
  | some a =>
    let held := (wordsOf a.addr a.len).any (fun w => s.unitHeld (s.accUnit a w))
    if a.since + s.obj 0x2402 3 ≤ s.clk.dcount && !held then s.failTier a.tier else s

def execAccessLimitExpiry (acc : Nat) (s : State) : Outcome := .next (opAccessLimitExpiry acc s)

/-! ### Ageing and the probe (R222, R236) -/

/-- USE_AGEING. -/
def opUseAgeing (s : State) : State :=
  if s.clk.dcount < s.tier.agedAt + s.obj 0x2402 2 * 1000 then s
  else { s with tier := { s.tier with
    agedAt := s.clk.dcount, leaf := tmap s.tier.leaf (fun _ l => { l with use := l.use / 2 }) } }

def execUseAgeing (s : State) : Outcome := .next (opUseAgeing s)

/-- DIR_PROBE. -/
def opDirProbe (addr : Nat) (s : State) : State := { s with dict := { s.dict with probe := addr % 2 ^ 64 } }

/-- The leaf entry that a read of DIR_PROBE gives. -/
def State.probeWord (s : State) : Nat := if 2 ^ 52 ≤ s.dict.probe then 0 else (s.leaf (tileOf s.dict.probe)).word

def execDirProbe (addr : Nat) (s : State) : Outcome := .next (opDirProbe addr s)

end Sys2Proof.Machine
end

