-- ==== Sys2Proof/Machine/Planer.lean ====
section
/-!
DEFINITION. What a planer does with the tensors of a shard (R298, R299): SXF, QUANT, BLOCKS; and the form of a manifest
(R292, R293).
-/
namespace Sys2Proof.Machine

/-! ### SXF (R299) -/

/-- Bytes of a significand of an SXF source: 1 for BF16, 3 for FP32. -/
def sxfSig (fmt : Nat) : Nat := if fmt == 0x08 then 1 else 3

/-- `n` rounded up to 32. -/
def pad32 (n : Nat) : Nat := cdiv n 32 * 32

/-- What has been taken of a block's elements: codes so far, escapes used, whether all went well. -/
structure SxfAcc where
  codes : List Nat
  esc : Nat
  ok : Bool

/-- One element of an SXF block. -/
def sxfElem (sig e0 w : Nat) (plane codes : List Nat) (escapes : List Nat) (a : SxfAcc) (i : Nat) : SxfAcc :=
  let m := fieldAt plane (sig * i) sig
  let c := (ofLE codes >>> (w * i)) % 2 ^ w
  let top := 8 * sig - 1
  let escape := c == 2 ^ w - 1
  let exp := if escape then byteAt escapes a.esc else e0 + c
  { codes := a.codes ++ [m / 2 ^ top * 2 ^ (top + 8) + exp % 256 * 2 ^ top + m % 2 ^ top]
    esc := if escape then a.esc + 1 else a.esc
    ok := a.ok && exp ≤ 255 }

/-- One block: its elements and the bytes it takes; none where it breaks a rule. -/
def sxfBlock (sig : Nat) (bs : List Nat) : Option (List Nat × Nat) :=
  let e0 := byteAt bs 0
  let w := byteAt bs 1
  let n := fieldAt bs 2 2
  let x := fieldAt bs 4 2
  let p1 := 32 + pad32 (n * sig)
  let cb := cdiv (n * w) 8
  let p2 := p1 + pad32 cb
  let p3 := p2 + pad32 x
  let codes := (bs.drop p1).take cb
  let a := (List.range n).foldl (sxfElem sig e0 w (bs.drop 32) codes (bs.drop p2)) { codes := [], esc := 0, ok := true }
  let clean := rsvZero bs 6 26 && rsvZero bs (32 + n * sig) (p1 - 32 - n * sig) && ofLE codes >>> (n * w) == 0
    && rsvZero bs (p1 + cb) (p2 - p1 - cb) && rsvZero bs (p2 + x) (p3 - p2 - x)
  if 1 ≤ w && w ≤ 8 && 1 ≤ n && n ≤ 4096 && p3 ≤ bs.length && a.ok && a.esc == x && clean then some (a.codes, p3) else none

/-- A run of blocks decompressed (fuel: bytes). -/
def sxfRun (sig : Nat) : Nat → List Nat → Option (List Nat)
  | 0, bs => if bs.isEmpty then some [] else none
  | f + 1, bs =>
    if bs.isEmpty then some []
    else match sxfBlock sig bs with
      | none => none
      | some (cs, used) => (sxfRun sig f (bs.drop used)).map (cs ++ ·)

/-! ### Matrices (R298) -/

/-- A K × N tensor between stages: format, element codes, scale codes of the 32-element blocks along K. -/
structure Matrix where
  fmt : Nat
  elem : Nat → Nat → Nat
  scale : Nat → Nat → Nat

/-- TRANSPOSED of ORDER. -/
def Tensor.transposed (t : Tensor) : Bool := bitOf t.order 0

/-- Place of element (k, n) in a dense tensor. -/
def Tensor.place (t : Tensor) (k n : Nat) : Nat := if t.transposed then n * t.k + k else k * t.n + n

/-- The matrix of a source that is not SXF. An MX source that is TRANSPOSED holds its rows along K in groups (R127), which
follow on each other in the shard (DESIGN CHOICE, log 100); how an MX source that is not TRANSPOSED lies in a shard the spec does not say: its codes are open. -/
def Tensor.dense (t : Tensor) (bs : List Nat) (free : Nat) : Matrix :=
  let w := fmtWidth t.src
  let v := ofLE bs
  if !isMx t.src then { fmt := t.src, elem := fun k n => (v >>> (w * t.place k n)) % 2 ^ w, scale := fun _ _ => 0 }
  else if t.transposed then
    let gb := groupBytes t.src
    let row := fun (n : Nat) => bs.drop (n * (cdiv t.k 1024 * gb))
    { fmt := t.src
      elem := fun k n => (ofLE ((row n).drop (k / 1024 * gb + 32) |>.take (gb - 32)) >>> (w * (k % 1024))) % 2 ^ w
      scale := fun e n => byteAt (row n) (e / 32 * gb + e % 32) }
  else
    { fmt := t.src
      elem := fun k n => (Config.freePayload (free + t.place k n)).toNat % 2 ^ w
      scale := fun e n => (Config.freePayload (free + t.place (32 * e) n)).toNat / 2 ^ 8 % 256 }

/-- A matrix of given codes in storage order. -/
def Tensor.ofCodes (t : Tensor) (codes : List Nat) : Matrix :=
  { fmt := t.src, elem := fun k n => codes.getD (t.place k n) 0, scale := fun _ _ => 0 }

/-- QUANT: each element multiplied by PRESCALE and rounded once (R133, R135). -/
def Tensor.quant (t : Tensor) (m : Matrix) : Matrix :=
  let rtz := t.mode % 4 == 1
  let sat := bitOf t.mode 2
  let p := ofFp32 t.prescale
  let val := fun (k n : Nat) => if k < t.k && n < t.n then (decodeElem m.fmt (m.elem k n)).mul p else Num.zero
  if !isMx t.dst then { fmt := t.dst, elem := fun k n => (convertElem t.dst rtz sat (val k n)).code, scale := fun _ _ => 0 }
  else
    let block := fun (e n : Nat) => mxBlock t.dst rtz ((List.range 32).map (fun j => val (32 * e + j) n))
    { fmt := t.dst
      elem := fun k n => ((block (k / 32) n).2.1.getD (k % 32) default).code
      scale := fun e n => (block e n).1 }

/-- Bytes of packed codes. -/
def packBytes (w : Nat) (codes : List Nat) : List Nat := leBytes (packLanes w codes) (cdiv (w * codes.length) 8)

/-- A matrix stored dense, in the source's order; an MX one in groups, none across a tile (R127). -/
def Tensor.store (t : Tensor) (m : Matrix) (free : Nat) : List Nat :=
  let w := fmtWidth m.fmt
  let rows := if t.transposed then t.n else t.k
  let cols := if t.transposed then t.k else t.n
  let code := fun (r c : Nat) => if t.transposed then m.elem c r else m.elem r c
  if !isMx m.fmt then packBytes w ((List.range rows).flatMap (fun r => (List.range cols).map (code r)))
  else
    let groups := if t.transposed then
        (List.range t.n).flatMap (fun n => (List.range (cdiv t.k 1024)).flatMap (fun g =>
          (List.range 32).map (fun b => if 1024 * g + 32 * b < t.k then m.scale (32 * g + b) n else 0)
          ++ packBytes w ((List.range 1024).map (fun i => if 1024 * g + i < t.k then m.elem (1024 * g + i) n else 0))))
      else (List.range (cdiv (t.k * t.n) 1024 * groupBytes m.fmt)).map (fun i => (Config.freePayload (free + i)).toNat % 256)
    layGroups m.fmt (groups.length + 1) t.dstOff groups

/-- Bytes of one block of a format's class (R116, R202). -/
def blockBytes (fmt : Nat) : Nat := 32 * ((mxcClass fmt).elemToks + (mxcClass fmt).scaleToks)

/-- The image of block (kb, nb) (R202, R298). -/
def Tensor.block (t : Tensor) (m : Matrix) (kb nb : Nat) : List Nat :=
  let c := mxcClass m.fmt
  let here := fun (k n : Nat) => k < t.k && n < t.n
  packBytes (fmtWidth m.fmt) ((List.range (32 * c.k)).map (fun i =>
    let k := kb * c.k + i / 32
    let n := nb * 32 + i % 32
    if here k n then m.elem k n else 0))
  ++ (if isMx m.fmt then (List.range (c.k / 32)).flatMap (fun e => (List.range 32).map (fun n =>
        let kk := kb * c.k + 32 * e
        if here kk (nb * 32 + n) then m.scale (kk / 32) (nb * 32 + n) else 0)) else [])

/-- Blocks of a tensor. -/
def Tensor.blocks (t : Tensor) : Nat := cdiv t.k (mxcClass t.dst).k * cdiv t.n 32

/-- BLOCKS: the blocks in position order; none crosses a 64 KiB tile (R298). -/
def Tensor.layBlocks (t : Tensor) (m : Matrix) : List Nat :=
  let kb := cdiv t.k (mxcClass m.fmt).k
  let nb := cdiv t.n 32
  let per := 65536 / blockBytes m.fmt
  let one := fun (p : Nat) => if bitOf t.order 1 then t.block m (p % max 1 kb) (p / max 1 kb) else t.block m (p / max 1 nb) (p % max 1 nb)
  (List.range (kb * nb)).flatMap (fun p =>
    one p ++ (if p % per == per - 1 && p + 1 < kb * nb then List.replicate (65536 - per * blockBytes m.fmt) 0 else []))

/-- Bytes that a tensor writes, of which the spec gives the number (R298). -/
def Tensor.outBytes (t : Tensor) : Nat :=
  if t.op == 0 then t.srcBytes
  else if bitOf t.op 2 then
    let per := 65536 / blockBytes t.dst
    let n := t.blocks
    (if n == 0 then 0 else (n - 1) / per * 65536 + ((n - 1) % per + 1) * blockBytes t.dst)
  else
    let g := groupBytes t.dst
    if isMx t.dst then spanOf t.dst t.dstOff (if t.transposed then t.n * cdiv t.k 1024 * g else cdiv (t.k * t.n) 1024 * g)
    else cdiv (t.k * t.n * fmtWidth t.dst) 8

/-- The output of a tensor; none where its SXF source is faulted. -/
def Tensor.run (t : Tensor) (shard : List Nat) (free : Nat) : Option (List Nat) :=
  let bs := (shard.drop t.srcOff).take t.srcBytes
  if t.op == 0 then some bs
  else
    let src := if bitOf t.op 0 then
        match sxfRun (sxfSig t.src) bs.length bs with
        | some cs => if cs.length == t.k * t.n then some (t.ofCodes cs) else none
        | none => none
      else some (t.dense bs free)
    src.map (fun m0 =>
      let m := if bitOf t.op 1 then t.quant m0 else m0
      if bitOf t.op 2 then t.layBlocks m else t.store m free)

/-! ### The form of a manifest (R292, R293) -/

/-- A tensor entry. -/
def tensorAt (bs : List Nat) : Tensor :=
  { shard := fieldAt bs 0 2, op := byteAt bs 2, src := byteAt bs 3, dst := byteAt bs 4, mode := byteAt bs 5,
    order := byteAt bs 6, srcOff := fieldAt bs 8 8, srcBytes := fieldAt bs 16 8, k := fieldAt bs 24 4, n := fieldAt bs 28 4,
    dstOff := fieldAt bs 32 8, prescale := fieldAt bs 40 4 }

/-- Formats that a planer can lay into blocks (R116). -/
def blockFmt (f : Nat) : Bool := (1 ≤ f && f ≤ 0x0A) || isMx f

/-- The format combination of a tensor is one of R298, and its RSV bits are 0. -/
def Tensor.formOk (t : Tensor) (bs : List Nat) : Bool :=
  t.op < 8 && t.mode < 8 && t.order < 4 && byteAt bs 7 == 0 && rsvZero bs 44 20 &&
  (if t.op == 0 then t.dst == t.src && t.k == 0 && t.n == 0
   else
    (!bitOf t.op 0 || t.src == 0x08 || t.src == 0x0A) &&
    (if bitOf t.op 1 then (t.src == 0x08 || t.src == 0x09 || t.src == 0x0A) && blockFmt t.dst else t.dst == t.src) &&
    (!bitOf t.op 2 || (blockFmt t.dst && t.dstOff % 65536 == 0)))

/-- SRC_BYTES is what K, N and SRC_FMT give, where they give it (R293). -/
def Tensor.sizeOk (t : Tensor) : Bool :=
  if t.op == 0 || bitOf t.op 0 || fmtWidth t.src == 0 then true
  else if isMx t.src then !t.transposed || t.srcBytes == t.n * cdiv t.k 1024 * groupBytes t.src
  else t.srcBytes == cdiv (t.k * t.n * fmtWidth t.src) 8

/-- Two ranges (start, length) overlap. -/
def rangesMeet (a b : Nat × Nat) : Bool := a.2 != 0 && b.2 != 0 && a.1 < b.1 + b.2 && b.1 < a.1 + a.2

/-- No two ranges of a list overlap. -/
def rangesApart : List (Nat × Nat) → Bool
  | [] => true
  | a :: r => !(r.any (rangesMeet a)) && rangesApart r

/-- A manifest as read: its header fields, shards and tensors. -/
structure Manifest where
  kind : Nat
  ownerKey : Nat
  modelId : Nat
  shape : Nat
  total : Nat
  shards : List (Nat × Nat)
  tensors : List Tensor
deriving Inhabited

/-- A manifest from its bytes; none where a rule of R293 but the signature is broken. -/
def parseManifest (bs : List Nat) : Option Manifest :=
  let ns := fieldAt bs 6 2
  let nt := fieldAt bs 8 4
  let total := fieldAt bs 48 8
  let head := fieldAt bs 0 4 == 0x464D4851 && fieldAt bs 4 2 == 1 && 1 ≤ ns && ns ≤ 4096 && 1 ≤ nt && nt ≤ 65536
    && byteAt bs 12 ≤ 1 && byteAt bs 13 ≤ 7 && rsvZero bs 14 2 && rsvZero bs 56 72
    && total % 65536 == 0 && 65536 ≤ total && total ≤ 2 ^ 40 && bs.length == 128 + 96 * ns + 64 * nt + 114
  if !head then none
  else
    let se := (List.range ns).map (fun i => (bs.drop (128 + 96 * i)).take 96)
    let te := (List.range nt).map (fun i => (bs.drop (128 + 96 * ns + 64 * i)).take 64)
    let shards := se.map (fun e => (fieldAt e 0 4, fieldAt e 8 64))
    let ts := te.map tensorAt
    let ok := se.all (fun e => 1 ≤ fieldAt e 0 4 && fieldAt e 0 4 ≤ 268435456 && rsvZero e 4 4 && rsvZero e 72 24)
      && (te.zip ts).all (fun (p : List Nat × Tensor) => p.2.formOk p.1 && p.2.sizeOk && p.2.shard < ns
        && p.2.srcOff + p.2.srcBytes ≤ (shards.getD p.2.shard (0, 0)).1 && p.2.dstOff + p.2.outBytes ≤ total)
      && (List.range ns).all (fun i => rangesApart ((ts.filter (fun t => t.shard == i)).map (fun t => (t.srcOff, t.srcBytes))))
      && rangesApart (ts.map (fun t => (t.dstOff, t.outBytes)))
    if ok then some {
      kind := byteAt bs 12, ownerKey := byteAt bs 13, modelId := fieldAt bs 16 16, shape := fieldAt bs 32 16, total := total,
      shards := shards, tensors := ts } else none

end Sys2Proof.Machine
end

