-- ==== Sys2Proof/Machine/Intake.lean ====
section
/-!
DEFINITION. Weight intake, generations and eviction (R292 to R309): the intake commands, the planers, the switch, the
resident scrub and the slot manager's eviction.
-/
namespace Sys2Proof.Machine

/-! ### Slots -/

/-- A slot that a function holds, with the key of the model or adapter a command names. -/
def State.heldModel (s : State) (f slot adapter : Nat) : Option (Nat × Model) :=
  match tfind s.wgt.models slot with
  | some m0 =>
    if slot < 4096 && m0.func == f then
      if adapter == 0 then some (slot, m0)
      else match tfind s.wgt.models (modelKey slot adapter) with
        | some m => if m.slot == slot then some (modelKey slot adapter, m) else none
        | none => none
    else none
  | none => none

/-- Slots a function holds. -/
def State.slotsOf (s : State) (f : Nat) : Nat := (s.wgt.models.filter (fun e => e.1 < 65536 && e.2.func == f)).length

/-- Unclaimed model slots (0x2E00:08). -/
def State.slotsFree (s : State) : Nat := 4096 - (s.wgt.models.filter (fun e => e.1 < 65536)).length

/-- The next generation number: 1 to 65,535, then 1 again, skipping those held (R300; fuel). -/
def nextGen (held : List Nat) (last : Nat) : Nat → Nat
  | 0 => last
  | f + 1 => let n := if 65535 ≤ last then 1 else last + 1
    if held.contains n then nextGen held n f else n

/-! ### Moves of whole objects (R306) -/

/-- The device's own PLACE: PREF of the object and moves of the tiles that are not in it. -/
def State.placeWhole (s : State) (n pref : Nat) : State :=
  match tfind s.tier.objs n with
  | none => s
  | some o =>
    let away := o.keys.filter (fun k => (s.leaf k).home != pref && !(s.tier.moveQ.any (fun r => r.tileKey == k)))
    let s1 := s.putObject n { o with pref := pref }
    away.foldl (fun st k => st.addMove k pref 0 none) s1

/-- The device's own MOVE of a whole object. -/
def State.moveWhole (s : State) (n tier : Nat) : State :=
  match tfind s.tier.objs n with
  | none => s
  | some o =>
    let s1 := s.placeWhole n tier
    if o.pin then s1 else s1.putObject n o

/-- Every tile of an object is homed in the near tier and none is MOVING (R294, R302). -/
def State.allNear (s : State) (n : Nat) : Bool :=
  match tfind s.tier.objs n with
  | none => false
  | some o => o.keys.all (fun k => (s.leaf k).home == 1 && !(s.leaf k).moving && !(s.leaf k).lost)

/-! ### Eviction (R305, R306) -/

/-- An eviction candidate: key, record, and its slot's USE. -/
structure Candidate where
  key : Nat
  slot : Nat
  use : Nat
  r : GenRec
deriving DecidableEq, Repr, Inhabited

/-- Candidates: LIVE or STAGED with REFS 0 and an object whose tiles no move has taken up (R305). -/
def State.candidates (s : State) : List Candidate :=
  s.wgt.models.flatMap (fun e => (e.2.recs.filter (fun r => (r.st == .live || r.st == .staged) && r.refs == 0
      && (match tfind s.tier.objs r.object with
          | some o => !(s.tier.moveQ.any (fun q => q.tileKey / 2 ^ 30 == o.owner && o.keys.contains q.tileKey))
          | none => false))).map
    (fun r => { key := e.1, slot := e.2.slot, use := (tget s.wgt.models e.2.slot).use, r := r }))

/-- The order of eviction: lowest priority, then lowest USE, then lowest slot number (R305). -/
def Candidate.before (a b : Candidate) : Bool :=
  if a.r.prio != b.r.prio then b.r.prio < a.r.prio else if a.use != b.use then a.use < b.use else a.slot < b.slot

/-- A candidate is freed out of the device (R306 step 3). -/
def State.evictOut (s : State) (c : Candidate) : State :=
  let m := tget s.wgt.models c.key
  let s0 := s.bump 0x3401 4 1
  let s1 := s0.notice m.func (some c.r.q.ring) 0x03 stResource (noticeData c.slot c.key c.r.gen 0)
  if c.r.st == .staged then s1.failGen c.key c.r.gen stResource
  else (s1.putModel c.key (m.putRec { c.r with st := .cold })).freeGenObject c.r.object

/-- Frees the next candidate that lacks KEEP. -/
def State.evictNext (s : State) : Option State :=
  (firstBy Candidate.before (s.candidates.filter (fun c => !c.r.keep))).map s.evictOut

/-- A WARM commit, or a promotion, still lacks near frames (R306). -/
def State.warmShort (s : State) : Bool :=
  s.wgt.models.any (fun e => e.2.recs.any (fun r =>
    ((r.st == .staged && r.commit && r.warm) || (r.st == .live && (tget s.tier.objs r.object).pref == 1
      && s.tier.moveQ.any (fun m => m.tier == 1 && m.cmd == 0 && (s.leaf m.tileKey).object == r.object)))
    && !s.allNear r.object && s.freeFrames 1 < s.objTiles r.object 2 + s.objTiles r.object 3))

/-- One step of eviction from a tier to the one below: the next candidate with tiles there moves down whole, or, where
no room is below, the next candidate without KEEP is freed (R306). -/
def State.evictFrom (s : State) (t : Nat) : State :=
  match firstBy Candidate.before (s.candidates.filter (fun c => 0 < s.objTiles c.r.object t)) with
  | none => s
  | some c =>
    let o := tget s.tier.objs c.r.object
    let here := o.keys.filter (fun k => (s.leaf k).home == t)
    if State.fitsAll c.r.object o.owner o.prio (t + 1) here s then (s.moveWhole c.r.object (t + 1)).bump 0x3401 3 1
    else s.evictNext.getD s

/-- EVICTION: one step, while its trigger holds. -/
def opEviction (s : State) : State :=
  if s.freeFrames 1 < s.obj 0x2E00 6 || s.warmShort then s.evictFrom 1
  else if s.tierSt 2 == 1 && s.freeFrames 2 < s.obj 0x2E00 7 then s.evictFrom 2
  else s

def execEviction (s : State) : Outcome := .next (opEviction s)

/-- SLOT_AGEING (R305). -/
def opSlotAgeing (s : State) : State :=
  if s.clk.dcount < s.wgt.agedAt + s.obj 0x2E00 5 * 1000000 then s
  else s.putWgt { s.wgt with agedAt := s.clk.dcount, models := tmap s.wgt.models (fun _ m => { m with use := m.use / 2 }) }

def execSlotAgeing (s : State) : Outcome := .next (opSlotAgeing s)

/-- An object created for an intake; where no tier has room, candidates are evicted first (R294; fuel: candidates). -/
def State.createFor (f base tiles place prio : Nat) : Nat → State → Nat × Nat × State
  | 0, s => s.createObj f base tiles place prio
  | n + 1, s =>
    let r := s.createObj f base tiles place prio
    if r.1 != stResource then r
    else match s.evictNext with
      | none => r
      | some s1 =>
        let s2 := s1.tier.frees.foldl (fun st e => opFreeRelease e.1 st) s1
        State.createFor f base tiles place prio n s2

/-! ### INTAKE (R292 to R294, R392) -/

/-- Tiles of the object of a generation: its output and its tile digest table (R304). -/
def genTiles (total : Nat) : Nat := total / 65536 + cdiv (total / 65536 * 32) 65536

/-- The statuses under which an INTAKE may be refused whatever its manifest says (R294). -/
def State.intakeArgs (s : State) (f slot adapter base tier prio flags : Nat) : Nat :=
  let slotM := tfind s.wgt.models slot
  let mine := match slotM with | some x => x.func == f | none => true
  worstOf [
    if 4096 ≤ slot || 16384 ≤ adapter || 4 ≤ flags || 8 ≤ prio || tier == 0 || 4 ≤ tier || 2 ^ 52 ≤ base then stProtocol else stOk,
    if !mine || (adapter != 0 && slotM.isNone) then stProtocol else stOk,
    match tfind s.wgt.models (modelKey slot adapter) with | some x => if x.slot != slot then stProtocol else stOk | none => stOk ]

/-- The statuses under which an INTAKE of a well-formed manifest may be refused. -/
def State.intakeStatus (s : State) (f slot adapter : Nat) (mf : Manifest) (sigOk : Bool) : Nat :=
  let key := modelKey slot adapter
  let owner := match tget s.trust.keys f with | some k => mf.ownerKey < k.owners.length | none => f == 0
  let slotM := tfind s.wgt.models slot
  let m := tfind s.wgt.models key
  worstOf [
    if (mf.kind == 0) != (adapter == 0) then stProtocol else stOk,
    match slotM with | some x => if x.modelId != mf.modelId then stProtocol else stOk | none => stOk,
    if sigOk && owner then stOk else stDigest,
    match m with
      | some x => if (x.recIn .building).isSome || (x.recIn .staged).isSome || 4 ≤ x.recs.length then stResource else stOk
      | none => stOk,
    if slotM.isNone && s.obj 0x2E01 (f + 1) ≤ s.slotsOf f then stResource else stOk ]

/-- INTAKE. `sigOk` is the verdict of Ed448 over the manifest. -/
def opIntake (q : Req) (slot adapter manifest len base tier prio flags : Nat) (sigOk : Bool) (s : State) : State := s.unitCmd 103 q <| s.partCmd q <|
  let (st, bs, s1) := s.readDev q.func manifest len
  let args := s.intakeArgs q.func slot adapter base tier prio flags
  if st != stOk then s1.complete q (worst st args) 0
  else match parseManifest bs with
  | none => s1.complete q stProtocol 0
  | some mf =>
    let status := worst args (s1.intakeStatus q.func slot adapter mf sigOk)
    let log := shakeNat (leBytes (tget s1.trust.manifestLog q.func) 64 ++ shake256 bs 64 ++ leBytes slot 2 ++ leBytes adapter 2) 64
    let s2 := if sigOk then { s1 with trust := { s1.trust with manifestLog := tset s1.trust.manifestLog q.func log } } else s1
    if status != stOk then (if status == stDigest then s2.bump 0x3400 4 1 else s2).complete q status 0
    else
      let (cs, n, s3) := State.createFor q.func base (genTiles mf.total) tier prio (s2.candidates.length) s2
      if cs != stOk then s3.complete q cs 0
      else
        let key := modelKey slot adapter
        let m := (tfind s3.wgt.models key).getD {
          func := q.func, slot := slot, modelId := mf.modelId, prio := prio, keep := false, use := 0, recs := [], last := 0 }
        let g := nextGen (m.recs.map (fun r => r.gen)) m.last 5
        let r : GenRec := {
          gen := g, st := .building, status := 0, pins := 0, holds := 0, object := n, shape := mf.shape, total := mf.total
          prio := prio, keep := bitOf flags 1, q := q, waits := true, auto := bitOf flags 0, shards := mf.shards
          tensors := mf.tensors, done := [], refetch := [], since := s3.clk.dcount, commit := false, warm := false, commits := []
          scrub := 0, scrubAt := none }
        s3.putModel key { m with prio := prio, keep := bitOf flags 1, recs := m.recs ++ [r], last := g }

def execIntake (q : Req) (slot adapter manifest len base tier prio flags : Nat) (sigOk : Bool) (s : State) : Outcome :=
  .next (opIntake q slot adapter manifest len base tier prio flags sigOk s)

/-! ### Shards (R294 to R297) -/

/-- SHARD_READY: the shard joins the queue, and the planers wake (R295, R474). -/
def opShardReady (q : Req) (slot adapter shard kind addr : Nat) (s : State) : State := s.unitCmd 103 q <| s.partCmd q <|
  match s.heldModel q.func slot adapter with
  | none => s.complete q stProtocol 0
  | some (key, m) =>
    match m.recIn .building with
    | none => s.complete q stProtocol 0
    | some r =>
      let bad := r.shards.length ≤ shard || r.done.contains shard || 1 < kind || (kind == 0 && 2 ^ 52 ≤ addr)
      let out := kind == 1 && !s.hostOk q.func addr (r.shards.getD shard (0, 0)).1
      let st := worst (if bad then stProtocol else stOk) (if out then stWindow else stOk)
      if st != stOk then (s.windowCause q.func st).complete q st 0
      else ((s.putWgt { s.wgt with queue := s.wgt.queue ++ [{
        key := key, gen := r.gen, shard := shard, host := kind == 1, addr := addr, prio := r.prio }] }).wakeDom 62).complete q stOk 0

def execShardReady (q : Req) (slot adapter shard kind addr : Nat) (s : State) : Outcome :=
  .next (opShardReady q slot adapter shard kind addr s)

/-- The next queued shard: lowest PRIO number, first in first out within it (R295). -/
def nextShard (q : List ShardJob) : Option ShardJob :=
  firstBy (fun (a b : ShardJob) => a.prio < b.prio) q

/-- The build a shard belongs to. -/
def State.buildOf (s : State) (j : ShardJob) : Option (Model × GenRec) :=
  match tfind s.wgt.models j.key with
  | none => none
  | some m => match m.recOf j.gen with
    | some r => if r.st == .building then some (m, r) else none
    | none => none

/-- The tensors of a shard in ascending SRC_OFFSET. -/
def shardTensors (ts : List Tensor) (shard : Nat) : List Tensor :=
  sortBy (fun a b => a.srcOff ≤ b.srcOff) (ts.filter (fun t => t.shard == shard))

/-- One tensor is carried out and its output written into the object (R295, R298). -/
def State.planeTensor (shard : List Nat) (f base : Nat) (p : Bool × State) (t : Tensor) : Bool × State :=
  match t.run shard p.2.free with
  | none => (true, p.2)
  | some bs =>
    let s1 := p.2.ticks (t.k * t.n + bs.length)
    (p.1, if bs.isEmpty then s1 else (s1.writeDev f (base + t.dstOff) bs).2)

/-- PLANER_SHARD_START: the shard streams through the planer. `data` is what host reads returned, none where one failed. -/
def opPlanerShardStart (p : Nat) (data : Option (List Nat)) (s : State) : State :=
  if !s.domOn 62 || !s.partUp (84 + p) then s
  else match tget s.wgt.planers p, nextShard s.wgt.queue with
  | none, some j =>
    let s0 := s.putWgt { s.wgt with queue := s.wgt.queue.erase j }
    match s0.buildOf j with
    | none => s0
    | some (m, r) =>
      let len := (r.shards.getD j.shard (0, 0)).1
      let (bs, bad, s1) := if j.host then
          (let ok := s0.hostOk m.func j.addr len
           let got := if ok then (data.getD []).take len else []
           (got, got.length != len, if ok then s0.emit (.hostRead m.func j.addr len 0) else s0))
        else
          (let x := s0.readDev m.func j.addr len
           (x.2.1, x.1 != stOk, x.2.2))
      let o := tget s1.tier.objs r.object
      let (fault, s2) := (shardTensors r.tensors j.shard).foldl (State.planeTensor bs m.func o.base) (false, s1.bump 0x3402 (p + 1) bs.length)
      s2.putWgt { s2.wgt with planers := tset s2.wgt.planers p (some { job := j, data := bs, bad := bad || fault }) }
  | _, _ => s

def execPlanerShardStart (planer : Nat) (data : Option (List Nat)) (s : State) : Outcome :=
  onUnit (planer < 4) (opPlanerShardStart planer data) s

/-- SHARD_CHECK: the digest is compared at the end of the shard (R296). -/
def opShardCheck (p : Nat) (s : State) : State :=
  match tget s.wgt.planers p with
  | none => s
  | some x =>
    let s0 := s.putWgt { s.wgt with planers := tset s.wgt.planers p none }
    match s0.buildOf x.job with
    | none => s0
    | some (m, r) =>
      let j := x.job
      let put := fun (st : State) (r' : GenRec) => st.putModel j.key (m.putRec r')
      if !x.bad && shakeNat x.data 64 == (r.shards.getD j.shard (0, 0)).2 then
        put (s0.bump 0x3400 1 1) { r with
          done := if r.done.contains j.shard then r.done else r.done ++ [j.shard], since := s0.clk.dcount }
      else
        let s1 := s0.bump 0x3400 2 1
        let used := tget r.refetch j.shard
        if used < s1.obj 0x2E00 1 then
          (put s1 { r with refetch := tset r.refetch j.shard (used + 1) }).notice m.func (some r.q.ring) 0x01 stDigest
            (noticeData m.slot j.key r.gen j.shard)
        else s1.failGen j.key r.gen stDigest

def execShardCheck (planer : Nat) (s : State) : Outcome := onUnit (planer < 4) (opShardCheck planer) s

/-- SHARD_TIMEOUT: an unverified shard that no SHARD_READY has announced (R296). -/
def opShardTimeout (slot adapter : Nat) (s : State) : State :=
  let key := modelKey slot adapter
  match (tget s.wgt.models key).recIn .building with
  | none => s
  | some r =>
    let here := fun (j : ShardJob) (i : Nat) => j.key == key && j.gen == r.gen && j.shard == i
    let missing := (List.range r.shards.length).any (fun i => !r.done.contains i && !(s.wgt.queue.any (here · i))
      && !(s.wgt.planers.any (fun e => match e.2 with | some x => here x.job i | none => false)))
    if missing && r.since + s.obj 0x2E00 2 * 1000000 ≤ s.clk.dcount then
      (s.bump 0x3400 3 1).failGen key r.gen stShard
    else s

def execShardTimeout (slot adapter : Nat) (s : State) : Outcome := .next (opShardTimeout slot adapter s)

/-- The tile digest table of an output (R304). -/
def digestTable (m : List Host.Cell) (base total : Nat) : List Nat :=
  (List.range (total / 65536)).flatMap (fun i => shake256 (memBytes m (base + 65536 * i) 65536) 32)

/-- GENERATION_STAGED: the last shard is verified; the digest table is written (R297). -/
def opGenerationStaged (slot adapter : Nat) (s : State) : State :=
  let key := modelKey slot adapter
  match tfind s.wgt.models key with
  | none => s
  | some m => match m.recIn .building with
    | none => s
    | some r =>
      let o := tget s.tier.objs r.object
      if !((List.range r.shards.length).all r.done.contains) || s.transStatus m.func o.base (o.tiles * 65536) != stOk then s
      else
        let s1 := s.store (o.base + r.total) (digestTable s.mem o.base r.total)
        let s2 := s1.putModel key (m.putRec { r with st := .staged, waits := false, commit := r.auto })
        if r.waits then s2.complete r.q stOk r.gen else s2

def execGenerationStaged (slot adapter : Nat) (s : State) : Outcome := .next (opGenerationStaged slot adapter s)

/-! ### The life of a generation (R294, R300 to R302) -/

/-- COMMIT. With WARM the object is placed in the near tier. -/
def opCommit (q : Req) (slot adapter flags : Nat) (s : State) : State := s.unitCmd 103 q <| s.partCmd q <|
  match s.heldModel q.func slot adapter with
  | none => s.complete q stProtocol 0
  | some (key, m) => match m.recIn .staged with
    | none => s.complete q stProtocol 0
    | some r =>
      if 2 ≤ flags then s.complete q stProtocol 0
      else
        let s1 := s.putModel key (m.putRec { r with commit := true, warm := bitOf flags 0, commits := r.commits ++ [q] })
        if bitOf flags 0 then s1.placeWhole r.object 1 else s1

def execCommit (q : Req) (slot adapter flags : Nat) (s : State) : Outcome := .next (opCommit q slot adapter flags s)

/-- GENERATION_SWITCH. A WARM switch whose object is not wholly in the near tier asks for its moves again. -/
def opGenerationSwitch (slot adapter : Nat) (s : State) : State :=
  let key := modelKey slot adapter
  match tfind s.wgt.models key with
  | none => s
  | some m => match m.recIn .staged with
    | none => s
    | some r =>
      if !r.commit then s
      else if r.warm && !s.allNear r.object then s.placeWhole r.object 1
      else
        let m1 := m.putRec { r with st := .live, commit := false, commits := [] }
        let m2 := { m1 with recs := m1.recs.filter (fun x => x.st != .cold) }
        let cold := m1.recs.filter (fun x => x.st == .cold)
        let s0 := cold.foldl (fun st x => st.purgeGen key x.gen) s
        let s1 := (s0.putModel key m2).bump 0x3401 (if adapter == 0 then 1 else 2) 1
        let s2 := match m.recIn .live with | some old => s1.drainGen key old.gen | none => s1
        r.commits.foldl (fun st q => st.complete q stOk r.gen) s2

def execGenerationSwitch (slot adapter : Nat) (s : State) : Outcome := .next (opGenerationSwitch slot adapter s)

/-- DISCARD. -/
def opDiscard (q : Req) (slot adapter : Nat) (s : State) : State := s.unitCmd 103 q <|
  match s.heldModel q.func slot adapter with
  | none => s.complete q stProtocol 0
  | some (key, m) =>
    match (m.recs.find? (fun r => r.st == .building || r.st == .staged)) with
    | none => s.complete q stProtocol 0
    | some r => (s.failGen key r.gen stGone).complete q stOk 0

def execDiscard (q : Req) (slot adapter : Nat) (s : State) : Outcome := .next (opDiscard q slot adapter s)

/-- RETIRE. -/
def opRetire (q : Req) (slot adapter : Nat) (s : State) : State := s.unitCmd 103 q <|
  match s.heldModel q.func slot adapter with
  | none => s.complete q stProtocol 0
  | some (key, m) => match m.recIn .live with
    | none => s.complete q stProtocol 0
    | some r => (s.drainGen key r.gen).complete q stOk 0

def execRetire (q : Req) (slot adapter : Nat) (s : State) : Outcome := .next (opRetire q slot adapter s)

/-- HOLD. -/
def opHold (q : Req) (slot gen : Nat) (s : State) : State := s.unitCmd 103 q <| s.partCmd q <|
  match s.heldModel q.func slot 0 with
  | none => s.complete q stProtocol 0
  | some (key, m) => match m.recOf gen with
    | some r => if r.st == .live then (s.putModel key (m.putRec { r with holds := r.holds + 1 })).complete q stOk 0
      else s.complete q stGeneration 0
    | none => s.complete q stGeneration 0

def execHold (q : Req) (slot gen : Nat) (s : State) : Outcome := .next (opHold q slot gen s)

/-- RELEASE. One that finds no HOLD to remove is refused. -/
def opRelease (q : Req) (slot gen : Nat) (s : State) : State := s.unitCmd 103 q <|
  match s.heldModel q.func slot 0 with
  | none => s.complete q stProtocol 0
  | some (key, m) => match m.recOf gen with
    | some r =>
      if r.holds == 0 then s.complete q stProtocol 0
      else ((s.putModel key (m.putRec { r with holds := r.holds - 1 })).reapGen key gen).complete q stOk 0
    | none => s.complete q stProtocol 0

def execRelease (q : Req) (slot gen : Nat) (s : State) : Outcome := .next (opRelease q slot gen s)

/-! ### Slot records (R309) -/

/-- STATE of a generation record (R300). -/
def GenSt.code : GenSt → Nat
  | .building => 1 | .staged => 2 | .live => 3 | .draining => 4 | .failed => 5 | .cold => 6

/-- The 32 bytes of a generation record. -/
def GenRec.bytes (r : GenRec) : List Nat :=
  leBytes r.gen 2 ++ [r.st.code, r.status] ++ leBytes r.refs 4 ++ leBytes r.object 4 ++ leBytes r.done.length 4 ++ leBytes r.shape 16

/-- The 192 bytes of a slot record. -/
def State.slotRecord (s : State) (slot : Nat) : List Nat :=
  let recs := fun (m : Model) => (m.recs.flatMap GenRec.bytes) ++ List.replicate (128 - 32 * m.recs.length) 0
  match tfind s.wgt.models slot with
  | none => [0xFF] ++ List.replicate 191 0
  | some m =>
    let num := fun st => match m.recIn st with | some r => r.gen | none => 0
    [m.func, m.prio, if m.keep then 1 else 0, 0] ++ leBytes (num .live) 2 ++ leBytes (num .staged) 2 ++ leBytes m.use 4
    ++ List.replicate 4 0 ++ leBytes m.modelId 16 ++ List.replicate 32 0 ++ recs m

/-- SLOT_QUERY. -/
def opSlotQuery (q : Req) (slot addr : Nat) (s : State) : State := s.unitCmd 103 q <| s.partCmd q <|
  let mine := match tfind s.wgt.models slot with | some m => m.func == q.func | none => true
  if 4096 ≤ slot || !mine then s.refuseWrite q addr 192
  else
    let (st, s1) := s.writeDev q.func addr (s.slotRecord slot)
    s1.complete q st 0

def execSlotQuery (q : Req) (slot addr : Nat) (s : State) : Outcome := .next (opSlotQuery q slot addr s)

/-- A slot and its adapters are given back. -/
def State.dropSlot (s : State) (slot : Nat) : State :=
  let s0 := (tget s.wgt.models slot).recs.foldl (fun st r => st.purgeGen slot r.gen) s
  s0.putWgt { s.wgt with models := s.wgt.models.filter (fun e => e.2.slot != slot) }

/-- RELEASE_SLOT: none of the slot's records, its adapters' included, is in use; a COLD record becomes NONE (R294, R300). -/
def opReleaseSlot (q : Req) (slot : Nat) (s : State) : State := s.unitCmd 103 q <|
  match s.heldModel q.func slot 0 with
  | none => s.complete q stProtocol 0
  | some _ =>
    if s.wgt.models.any (fun e => e.2.slot == slot && e.2.recs.any (fun r => r.st != .cold)) then s.complete q stProtocol 0
    else (s.dropSlot slot).complete q stOk 0

def execReleaseSlot (q : Req) (slot : Nat) (s : State) : Outcome := .next (opReleaseSlot q slot s)

/-! ### Resident scrub (R304) -/

/-- The resident scrub of a generation reads output tile `i` next: a pass that runs goes on in tile order, and a new one begins
once WEIGHT_SCRUB_INTERVAL has passed since the last one began (R304). -/
def State.scrubDue (s : State) (r : GenRec) (i : Nat) : Bool :=
  i == r.scrub && (i != 0 || (match r.scrubAt with
    | some at_ => at_ + s.obj 0x2E00 3 * 1000000000 ≤ s.clk.dcount
    | none => true))

/-- The scrub has read a tile. -/
def GenRec.scrubbed (r : GenRec) (now : Nat) : GenRec :=
  { r with scrub := if r.total / 65536 ≤ r.scrub + 1 then 0 else r.scrub + 1, scrubAt := if r.scrub == 0 then some now else r.scrubAt }

/-- WEIGHT_SCRUB: planer `p` reads output tile `i` of a generation again. A planer that is out, off or has a shard to read
reads nothing: scrub has the lowest priority (R304). -/
def opWeightScrub (p slot adapter gen i : Nat) (s : State) : State :=
  if !s.domOn 62 || !s.partUp (84 + p) || (tget s.wgt.planers p).isSome || !s.wgt.queue.isEmpty then s else
  let key := modelKey slot adapter
  match tfind s.wgt.models key with
  | none => s
  | some m => match m.recOf gen with
    | none => s
    | some r =>
      let o := tget s.tier.objs r.object
      let addr := o.base + 65536 * i
      if !(r.st == .staged || r.st == .live || r.st == .draining) || r.total / 65536 ≤ i || !s.scrubDue r i then s
      else
        let (st, bs, s1) := (s.putModel key (m.putRec (r.scrubbed s.clk.dcount))).readDev m.func addr 65536
        let want := ofLE (memBytes s.mem (o.base + r.total + 32 * i) 32)
        let s2 := s1.bump 0x3402 (p + 1) bs.length
        if (st == stOk && shakeNat bs 32 == want) || (st != stOk && st != stPoison) then s2
        else
          let s3 := ((s2.bump 0x3401 5 1).logErr (objKey 0x3401 5) stDigest m.func 0xFF addr).notice m.func (some r.q.ring) 0x02
            stDigest (noticeData m.slot key gen 0)
          match r.st with
          | .live => s3.drainGen key gen
          | .staged => s3.failGen key gen stDigest
          | _ => s3

def execWeightScrub (planer slot adapter gen tile : Nat) (s : State) : Outcome :=
  onUnit (planer < 4) (opWeightScrub planer slot adapter gen tile) s

end Sys2Proof.Machine
end

