-- ==== Sys2Proof/Machine/Thicket.lean ====
section
/-!
DEFINITION. The cache pool and the prefix thicket (R310 to R312, R320 to R328): cells, runs, page lists, keys, and the
walker's operations.
-/
namespace Sys2Proof.Machine

/-! ### Cells and runs (R310, R312, R321) -/

/-- A function's cache pool. -/
def State.kv (s : State) (f : Nat) : KvPool := tget s.srv.pools f

/-- The state with a pool replaced. -/
def State.putKv (s : State) (f : Nat) (p : KvPool) : State := s.putSrv { s.srv with pools := tset s.srv.pools f p }

/-- A byte list filled with zeros to 256 bytes. -/
def cell256 (l : List Nat) : List Nat := l ++ List.replicate (256 - l.length) 0

/-- The 256 bytes of a cell (R321). -/
def Cell.bytes : Cell → List Nat
  | .inner n ch => cell256 ([1, n, 0, 0] ++ (List.range 16).flatMap (fun i => leBytes (tget ch i) 4))
  | .leaf g k r p c d h sl => cell256 ([2, 0] ++ leBytes g 2 ++ leBytes k 16 ++ leBytes r 4 ++ leBytes p 4 ++ leBytes c 4
      ++ leBytes d 4 ++ leBytes h 8 ++ leBytes sl 2)
  | .chunk nx rs => cell256 ([3, rs.length, 0, 0] ++ leBytes nx 4 ++ rs.flatMap (fun r => leBytes r 4))

/-- A cell is written, in the walker's record and in the pool's memory. -/
def State.putCell (s : State) (f c : Nat) (x : Option Cell) : State :=
  let p := s.kv f
  let s1 := s.putKv f { p with cells := match x with | some y => tset p.cells c y | none => tdel p.cells c }
  s1.store (p.base + 256 * c) (match x with | some y => y.bytes | none => List.replicate 256 0)

/-- STATE and REFS of a run: 0 FREE, 1 RESERVED, 2 PRIVATE, 3 PUBLISHED (R312). -/
def KvPool.run (p : KvPool) (r : Nat) : Nat × Nat := tget p.table r

/-- A run-table entry is written. -/
def State.putRun (s : State) (f r st refs : Nat) : State :=
  let p := s.kv f
  let s1 := s.putKv f { p with table := if st == 0 then tdel p.table r else tset p.table r (st, refs) }
  s1.store (p.base + 65536 * p.cellTiles + 4 * r) (leBytes (refs % 2 ^ 24 + st * 2 ^ 30) 4)

/-- A run loses a reference; at 0 it is FREE (R312). -/
def State.dropRun (s : State) (f r : Nat) : State :=
  let (st, n) := (s.kv f).run r
  if n ≤ 1 then s.putRun f r 0 0 else s.putRun f r st (n - 1)

/-- Free runs of a pool. -/
def KvPool.freeRuns (p : KvPool) : Nat := p.runs - p.table.length

/-- A free cell: which one the spec leaves open. -/
def State.freeCell (s : State) (f : Nat) : Option Nat :=
  s.pickNo ((s.kv f).cells.map (fun e => e.1)) ((s.kv f).cellTiles * 256)

/-! ### Keys (R320) -/

/-- The first 16 bytes of SHAKE256. -/
def key128 (bs : List Nat) : List Nat := shake256 bs 16

/-- Seed of an entry's keys. -/
def Entry.seedKey (e : Entry) : List Nat :=
  key128 ([e.func, 0] ++ leBytes e.slot 2 ++ leBytes e.gen 2 ++ leBytes e.adapter 2 ++ leBytes e.aver 2 ++ List.replicate 6 0)

/-- Tokens of block j. -/
def Entry.block (e : Entry) (j : Nat) : List Nat := ((e.prompt ++ e.toks).drop (32 * j)).take 32

/-- Bytes of K_j − 1, the seed for j = 0. -/
def Entry.keyBytes (e : Entry) : Nat → List Nat
  | 0 => e.seedKey
  | j + 1 => key128 (e.keyBytes j ++ (e.block j).flatMap (fun t => leBytes t 4))

/-- The key of block j. -/
def Entry.key (e : Entry) (j : Nat) : Nat := ofLE (e.keyBytes (j + 1))

/-- Nibble i of a key. -/
def nibble (k i : Nat) : Nat := k / 16 ^ i % 16

/-! ### The tree (R321) -/

/-- The descent for a key: the inner node and the child at which it ends, and the leaf found there (fuel: cells). -/
def KvPool.descend (p : KvPool) (k : Nat) : Nat → Nat → Nat × Nat × Option Nat
  | 0, c => (c, 0, none)
  | f + 1, c =>
    match tfind p.cells c with
    | some (.inner n ch) =>
      let i := nibble k n
      let d := tget ch i
      if d == 0 then (c, i, none)
      else match tfind p.cells d with
        | some (.inner _ _) => p.descend k f d
        | _ => (c, i, some d)
    | _ => (c, 0, none)

/-- Key of a leaf. -/
def KvPool.leafKey (p : KvPool) (c : Nat) : Option Nat :=
  match tfind p.cells c with
  | some (.leaf _ k _ _ _ _ _ _) => some k
  | _ => none

/-- The leaf with a key. -/
def KvPool.lookup (p : KvPool) (k : Nat) : Option Nat :=
  match (p.descend k (p.cells.length + 1) 0).2.2 with
  | some c => if p.leafKey c == some k then some c else none
  | none => none

/-- A child of an inner node is written. -/
def State.putChild (s : State) (f c i d : Nat) : State :=
  match tfind (s.kv f).cells c with
  | some (.inner n ch) => s.putCell f c (some (.inner n (if d == 0 then tdel ch i else tset ch i d)))
  | _ => s

/-- CHILDREN of a leaf changes. -/
def State.leafChildren (s : State) (f c : Nat) (up : Bool) : State :=
  match tfind (s.kv f).cells c with
  | some (.leaf g k r p n d h sl) => s.putCell f c (some (.leaf g k r p (if up then n + 1 else n - 1) d h sl))
  | _ => s

/-- The first nibble in which two keys differ. -/
def firstNibble (a b : Nat) : Nat := ((List.range 32).find? (fun i => nibble a i != nibble b i)).getD 0

/-- A leaf put into the tree: beside a missing child, or under a new inner node in place of the leaf found, which
branches on the first nibble in which the keys differ (R325). None where no cell is free. -/
def State.insertLeaf (s : State) (f k : Nat) (leaf : Cell) : Option State :=
  let p := s.kv f
  let (c, i, found) := p.descend k (p.cells.length + 1) 0
  match s.freeCell f with
  | none => none
  | some n =>
    let s1 := (s.tick).putCell f n (some leaf)
    match found with
    | none => some (s1.putChild f c i n)
    | some old => match s1.freeCell f with
      | none => none
      | some m =>
        let ko := (p.leafKey old).getD 0
        let b := firstNibble k ko
        some (((s1.tick).putCell f m (some (.inner b (tset (tset [] (nibble ko b) old) (nibble k b) n)))).putChild f c i m)

/-! ### Eviction and purge (R326, R327) -/

/-- Leaves that may be removed, of those that satisfy `p`: CHILDREN 0 and a run that nothing else names. -/
def KvPool.removable (x : KvPool) (p : Cell → Bool) : List (Nat × Cell) :=
  x.cells.filter (fun e => match e.2 with
    | .leaf g k r pr 0 d h sl => (x.run r).2 == 1 && p (.leaf g k r pr 0 d h sl)
    | _ => false)

/-- A leaf is removed: its cell is free, its PREV and its run lose a reference. -/
def State.removeLeaf (s : State) (f c : Nat) : State :=
  match tfind (s.kv f).cells c with
  | some (.leaf _ _ r prev _ _ _ _) =>
    let parent := (s.kv f).cells.find? (fun e => match e.2 with | .inner _ ch => ch.any (fun (x : Nat × Nat) => x.2 == c) | _ => false)
    let s1 := match parent with
      | some (pc, .inner _ ch) => match ch.find? (fun (x : Nat × Nat) => x.2 == c) with
        | some (i, _) => s.putChild f pc i 0
        | none => s
      | _ => s
    let s2 := s1.putCell f c none
    (if prev == 0 then s2 else s2.leafChildren f prev false).dropRun f r
  | _ => s

/-- LAST_HIT and DEPTH of a leaf. -/
def Cell.lastHit : Cell → Nat
  | .leaf _ _ _ _ _ _ h _ => h
  | _ => 0
def Cell.depth : Cell → Nat
  | .leaf _ _ _ _ _ d _ _ => d
  | _ => 0

/-- The eligible leaf with the oldest LAST_HIT is evicted (R326). -/
def State.evictOne (s : State) (f : Nat) : Option State :=
  (firstBy (fun (a b : Nat × Cell) => a.2.lastHit < b.2.lastHit) ((s.kv f).removable (fun _ => true))).map
    (fun e => (s.removeLeaf f e.1).bump 0x3411 6 1)

/-- Evicts until a condition holds (fuel: cells); none where that cannot be. -/
def State.evictUntil (ok : State → Bool) (f : Nat) : Nat → State → Option State
  | 0, s => if ok s then some s else none
  | n + 1, s =>
    if ok s then some s
    else match s.evictOne f with
      | none => none
      | some s1 => State.evictUntil ok f n s1

/-- A free cell, after eviction if need be (R328). -/
def State.needCell (s : State) (f : Nat) : Option (Nat × State) :=
  match State.evictUntil (fun t => (t.freeCell f).isSome) f (s.kv f).cells.length s with
  | none => none
  | some s1 => (s1.freeCell f).map (fun c => (c, s1.tick))

/-! ### Page lists (R321) -/

/-- Runs of a chain of chunks, and the chunks (fuel: cells). -/
def KvPool.list (p : KvPool) : Nat → Nat → List Nat × List Nat
  | 0, _ => ([], [])
  | f + 1, c =>
    match tfind p.cells c with
    | some (.chunk nx rs) => let (a, b) := if nx == 0 then ([], []) else p.list f nx
      (rs ++ a, c :: b)
    | _ => ([], [])

/-- Runs and chunks of an entry's page list; cell 0, the root, stands for no chunk. -/
def State.pageList (s : State) (e : Entry) : List Nat × List Nat :=
  if e.listHead == 0 then ([], []) else (s.kv e.func).list ((s.kv e.func).cells.length + 1) e.listHead

/-- A run appended to an entry's list; none where a chunk is needed and none can be had (R328). -/
def State.appendRun (s : State) (e : Entry) (r : Nat) : Option (Entry × State) :=
  let f := e.func
  let grow := fun (_ : Unit) => match s.needCell f with
    | none => none
    | some (c, s1) =>
      let s2 := s1.putCell f c (some (.chunk 0 [r]))
      if e.listHead == 0 then some ({ e with listHead := c, listTail := c }, s2)
      else
        let s3 := match tfind (s2.kv f).cells e.listTail with
          | some (.chunk _ rs) => s2.putCell f e.listTail (some (.chunk c rs))
          | _ => s2
        some ({ e with listTail := c }, s3)
  if e.listHead == 0 then grow ()
  else match tfind (s.kv f).cells e.listTail with
    | some (.chunk nx rs) =>
      if rs.length < 60 then some (e, s.putCell f e.listTail (some (.chunk nx (rs ++ [r])))) else grow ()
    | _ => grow ()

/-- The state with an entry replaced. -/
def State.putEntry (s : State) (n : Nat) (e : Entry) : State := s.putSrv { s.srv with entries := tset s.srv.entries n e }

/-- Everything of the pool that an entry holds is given back: list, chunks, reserved runs (R318 steps 4 and 5). -/
def State.giveBack (s : State) (e : Entry) : State :=
  let (rs, cs) := s.pageList e
  let s1 := rs.foldl (fun st r => st.dropRun e.func r) s
  let s2 := cs.foldl (fun st c => st.putCell e.func c none) s1
  e.reserved.foldl (fun st r => st.putRun e.func r 0 0) s2

/-! ### Publication (R325) -/

/-- The next final block of an entry is published. -/
def State.publishNext (s : State) (n : Nat) (e : Entry) : State :=
  let j := e.pubAt
  let k := e.key j
  let p := s.kv e.func
  let s0 := s.putEntry n { e with pubAt := j + 1 }
  match p.lookup k, (s.pageList e).1[j]? with
  | some _, _ => s0.bump 0x3411 4 1
  | none, none => s0
  | none, some r =>
    let prev := if j == 0 then 0 else (p.lookup (e.key (j - 1))).getD 0
    match s0.insertLeaf e.func k (.leaf e.gen k r prev 0 j s.clk.dcount e.slot) with
    | none => s0.bump 0x3411 5 1
    | some s1 =>
      let s2 := if prev == 0 then s1 else s1.leafChildren e.func prev true
      (s2.putRun e.func r 3 ((s2.kv e.func).run r |>.2 |> (· + 1))).bump 0x3411 3 1

/-- Every final block that an entry may still publish (R318, R325; fuel: blocks). -/
def State.publishAll (s : State) (n : Nat) : Nat → State
  | 0 => s
  | f + 1 =>
    match tfind s.srv.entries n with
    | none => s
    | some e => if e.noShare || e.len / 32 ≤ e.pubAt then s else (s.publishNext n e).publishAll n f

/-- An entry has a final block to publish. -/
def State.publishes (s : State) (e : Entry) : Bool := !e.noShare && e.pubAt < e.len / 32 && (tfind s.srv.pools e.func).isSome

/-- An entry has a lookup to make (R323). -/
def Entry.looksUp (e : Entry) : Bool :=
  e.st == .walking && !e.noShare && !e.walkOver && e.walkAt < (e.prompt.length - 1) / 32

/-- Entries that ask the walker for an operation of a kind: publishes (9), lookups (10). -/
def State.walkerPorts (s : State) (kind : Nat) : List Nat :=
  (s.srv.entries.filter (fun e => if kind == 9 then s.publishes e.2 else e.2.looksUp)).map (fun e => e.1)

/-- The walker's port serves an entry next: round-robin within a level, and no lookup ahead of a publish (R20, R322). -/
def State.walkerTurn (s : State) (kind n : Nat) : Bool :=
  (kind == 9 || (s.walkerPorts 9).isEmpty) && rrTurn (tget s.arb kind) 65536 (s.walkerPorts kind) n

/-- The pointer moves to the entry after the one served. -/
def State.walkerServed (s : State) (kind n : Nat) : State := { s with arb := tset s.arb kind ((n + 1) % 65536) }

/-- PUBLISH. -/
def opPublish (n : Nat) (s : State) : State :=
  match tfind s.srv.entries n with
  | none => s
  | some e => if !s.publishes e || !s.walkerTurn 9 n then s else (s.walkerServed 9 n).publishNext n e

def execPublish (entry : Nat) (s : State) : Outcome := onUnit (entry < 65536) (opPublish entry) s

/-- Runs that an entry's admission has to reserve (R323). -/
def Entry.need (e : Entry) : Nat := cdiv (e.prompt.length + e.maxNew) 32 - e.matched

/-- An admission of a function finds too few runs or cells (R323, R328). -/
def State.wantsEvict (s : State) (f : Nat) : Bool :=
  s.srv.entries.any (fun e => e.2.func == f && e.2.st == .walking &&
    ((s.kv f).freeRuns < cdiv (e.2.prompt.length + e.2.maxNew) 32 - e.2.walkAt || (s.freeCell f).isNone))

/-- EVICT_LEAF: an eviction that an admission asks for, behind every publish and lookup (R322, R323, R326, R328). -/
def opEvictLeaf (f : Nat) (s : State) : State :=
  if (s.walkerPorts 9).isEmpty && (s.walkerPorts 10).isEmpty && s.wantsEvict f then (s.evictOne f).getD s else s

def execEvictLeaf (func : Nat) (s : State) : Outcome := onUnit (func < 64) (opEvictLeaf func) s

/-- PURGE: the deepest removable leaf of a generation record that has become NONE, at the walker's lowest priority (R322,
R327). -/
def opPurge (f : Nat) (s : State) : State :=
  if !((s.walkerPorts 9).isEmpty && (s.walkerPorts 10).isEmpty
      && (List.range 64).all (fun g => !s.wantsEvict g || (s.evictOne g).isNone)) then s else
  let mine := fun (c : Cell) => match c with
    | .leaf g _ _ _ _ _ _ sl => s.srv.purge.contains (f, sl, g)
    | _ => false
  match firstBy (fun (a b : Nat × Cell) => b.2.depth < a.2.depth) ((s.kv f).removable mine) with
  | some e => (s.removeLeaf f e.1).bump 0x3411 7 1
  | none =>
    if (s.kv f).cells.any (fun e => mine e.2) then s
    else s.putSrv { s.srv with purge := s.srv.purge.filter (fun e => e.1 != f) }

def execPurge (func : Nat) (s : State) : Outcome := onUnit (func < 64) (opPurge func) s

end Sys2Proof.Machine
end

