-- ==== Sys2Proof/Machine/Bureau.lean ====
section
/-!
DEFINITION. The request bureau (R310, R313 to R319, R323) and the batcher (R329 to R332).
-/
namespace Sys2Proof.Machine

/-! ### KVPOOL, SERVE, UNSERVE (R310, R313) -/

/-- Tiles of a run table of n runs. -/
def runTableTiles (n : Nat) : Nat := cdiv (4 * n) 65536

/-- RUNS of a pool: the largest n that fits (R310). A run takes at least one tile, so n is below the tiles left. -/
def runsOf (tiles cellTiles runPages : Nat) : Nat :=
  let hi := (tiles - cellTiles) / max 1 runPages
  -- the run table takes at most one tile in 16,384, and is left room by stepping down from the bound
  ((List.range (hi / 16384 + 2)).filterMap (fun i =>
    if i ≤ hi && cellTiles + runTableTiles (hi - i) + (hi - i) * runPages ≤ tiles then some (hi - i) else none)).headD 0

/-- KVPOOL. -/
def opKvpool (q : Req) (n runPages cellTiles : Nat) (s : State) : State := s.unitCmd 100 q <| s.partCmd q <|
  match tfind s.tier.objs n with
  | none => s.complete q stProtocol 0
  | some o =>
    let runs := runsOf o.tiles cellTiles runPages
    if o.owner != q.func || o.st != .live || runPages == 0 || 64 < runPages || cellTiles == 0 || o.tiles ≤ cellTiles || runs == 0 then
      s.complete q stProtocol 0
    else if s.srv.entries.any (fun e => e.2.func == q.func) then s.complete q stResource 0
    else
      let p : KvPool := {
        object := n, base := o.base, runPages := runPages, cellTiles := cellTiles, runs := runs, cells := [], table := [] }
      let s1 := s.putKv q.func p
      let s2 := { s1 with mem := memZero s1.mem o.base (65536 * (cellTiles + runTableTiles runs)) }
      (s2.putCell q.func 0 (some (.inner 0 []))).complete q stOk runs

def execKvpool (q : Req) (object runPages cellTiles : Nat) (s : State) : Outcome := .next (opKvpool q object runPages cellTiles s)

/-- A layout handle that a function has registered. -/
def State.handleOf (s : State) (f h : Nat) : Bool :=
  match tfind s.jig.layouts h with | some l => l.func == f && !l.gone | none => false

/-- Entries of a slot that are members of a batch in flight. -/
def State.slotBusy (s : State) (slot : Nat) : Bool :=
  s.srv.entries.any (fun e => e.2.slot == slot && (e.2.st == .prefill || e.2.st == .decode))

/-- SERVEs that waited for the batches of a slot, and an UNSERVE that waited for its entries, complete (R313). -/
def State.settleSlot (s : State) (slot : Nat) : State :=
  match tfind s.srv.binds slot with
  | none => s
  | some b =>
    let s1 := if b.serve.isEmpty || s.slotBusy slot then s
      else b.serve.foldl (fun st q => st.complete q stOk 0)
        (s.putSrv { s.srv with binds := tset s.srv.binds slot { b with serve := [] } })
    match b.unserve with
    | none => s1
    | some q =>
      if s1.srv.entries.any (fun e => e.2.slot == slot) then s1
      else (s1.putSrv { s1.srv with binds := tdel s1.srv.binds slot }).complete q stOk 0

/-- SERVE. -/
def opServe (q : Req) (slot prefill decode verify groups vocab context template area areaLen : Nat) (s : State) : State :=
  s.unitCmd 100 q <| s.partCmd q <|
    let f := q.func
    let old := tfind s.srv.binds slot
    let leaving := match old with | some b => b.unserve.isSome | none => false
    let ok := (s.heldModel f slot 0).isSome && !leaving && s.handleOf f prefill && s.handleOf f decode && (verify == 0xFFFF || s.handleOf f verify)
      && 1 ≤ groups && groups ≤ (s.kv f).runPages && 1 ≤ vocab && vocab ≤ 2 ^ 20
      && 32 ≤ context && context ≤ 2 ^ 20 && context % 32 == 0 && areaLen == 262144
    let status := worst (if ok then stOk else stProtocol)
      (worst (s.transStatus f template 128) (s.transStatus f area 262144))
    if status != stOk then (s.windowCause f status).complete q status 0
    else
      let b : Binding := {
        func := f, prefill := prefill, decode := decode, verify := verify, groups := groups, vocab := vocab
        context := context, template := template, area := area
        serve := (match old with | some x => x.serve | none => []) ++ [q], unserve := none }
      (s.putSrv { s.srv with binds := tset s.srv.binds slot b }).settleSlot slot

def execServe (q : Req) (slot prefill decode verify groups vocab context template area areaLen : Nat) (s : State) : Outcome :=
  .next (opServe q slot prefill decode verify groups vocab context template area areaLen s)

/-- UNSERVE: no request is admitted any more; the binding goes with its last entry. -/
def opUnserve (q : Req) (slot : Nat) (s : State) : State := s.unitCmd 100 q <|
  match tfind s.srv.binds slot with
  | none => s.complete q stProtocol 0
  | some b =>
    if b.func != q.func || b.unserve.isSome then s.complete q stProtocol 0
    else (s.putSrv { s.srv with binds := tset s.srv.binds slot { b with unserve := some q } }).settleSlot slot

def execUnserve (q : Req) (slot : Nat) (s : State) : Outcome := .next (opUnserve q slot s)

/-! ### Entries (R316 to R319, R352) -/

/-- Codes of the entry states (R317). -/
def EntrySt.code : EntrySt → Nat
  | .walking => 1 | .waitPrefill => 2 | .prefill => 3 | .waitDecode => 4 | .decode => 5 | .finishing => 6

/-- The 128 bytes of an entry (R316, R352). -/
def Entry.bytes (e : Entry) : List Nat :=
  let b := fun (x : Bool) (n : Nat) => if x then n else 0
  [e.st.code, e.func, e.level, b e.noShare 1 + b e.draft 2 + b e.cancel 4 + b e.late 8] ++ leBytes e.slot 2 ++ leBytes e.gen 2
  ++ leBytes e.adapter 2 ++ leBytes e.aver 2 ++ leBytes e.len 4 ++ leBytes e.prompt.length 4 ++ leBytes e.generated 4
  ++ leBytes e.matched 4 ++ leBytes e.listHead 4 ++ leBytes e.listTail 4 ++ leBytes e.reserved.length 4 ++ leBytes e.admitN 8
  ++ leBytes e.deadline 4 ++ leBytes e.q.ring 4 ++ leBytes e.user 8 ++ leBytes e.out 8 ++ leBytes e.outLen 4
  ++ leBytes e.maxNew 4 ++ leBytes e.param 8 ++ leBytes e.stream 2
  ++ leBytes e.pending 4 ++ leBytes e.seed 8 ++ leBytes e.dslot 2 ++ leBytes e.dgen 2 ++ [e.dlen, e.zrun, b e.draftOff 1, 0]
  ++ leBytes e.stopState 2 ++ leBytes e.proposed 4 ++ leBytes e.accepted 4 ++ List.replicate 8 0

/-- ENTRY_QUERY. -/
def opEntryQuery (q : Req) (n addr : Nat) (s : State) : State := s.unitCmd 100 q <| s.partCmd q <|
  match tfind s.srv.entries n with
  | none => s.refuseWrite q addr 128
  | some e =>
    if e.func != q.func then s.refuseWrite q addr 128
    else
      let (st, s1) := s.writeDev q.func addr e.bytes
      s1.complete q st 0

def execEntryQuery (q : Req) (entry addr : Nat) (s : State) : Outcome := .next (opEntryQuery q entry addr s)

/-- Posts a completion of a request (R374): its code, status, and the entry's counts. -/
def State.postReq (s : State) (n : Nat) (e : Entry) (code status : Nat) : State :=
  s.queueCpl e.q.ring (cplBytes 2 status code e.q.tag e.user (e.generated + n * 2 ^ 32) (e.len + e.matched * 2 ^ 32))

/-- The entry waits, and ends at once if its end has been asked for (R318, R319). -/
def State.waitEntry (s : State) (n : Nat) (e : Entry) (st : EntrySt) : State :=
  if e.bad != 0 then s.putEntry n { e with st := .finishing, code := 6, status := e.bad }
  else if e.late then s.putEntry n { e with st := .finishing, code := 5, status := stTimeout }
  else if e.cancel then s.putEntry n { e with st := .finishing, code := 4, status := stOk }
  else s.putEntry n { e with st := st, waitAt := s.clk.dcount }

/-- An entry that waits for a batch. -/
def Entry.waits (e : Entry) : Bool := e.st == .waitPrefill || e.st == .waitDecode

/-- CANCEL. -/
def opCancel (q : Req) (n : Nat) (s : State) : State := s.unitCmd 100 q <|
  match tfind s.srv.entries n with
  | none => s.complete q stProtocol 0
  | some e =>
    if e.func != q.func then s.complete q stProtocol 0
    else
      let e1 := if e.late || e.cancel || e.st == .finishing then e else { e with cancel := true, endAt := s.clk.dcount }
      (if e1.waits then s.waitEntry n e1 e1.st else s.putEntry n e1).complete q stOk 0

def execCancel (q : Req) (entry : Nat) (s : State) : Outcome := .next (opCancel q entry s)

/-- DEADLINE. Against a CANCEL that came earlier the deadline does nothing; in the same count of dcount it wins, also over
a waiting entry that the CANCEL has ended and that has not posted (R319). -/
def opDeadline (n : Nat) (s : State) : State :=
  match tfind s.srv.entries n with
  | none => s
  | some e =>
    let beaten := e.cancel && e.code == 4 && !e.posted
    if e.deadline == 0 || s.clk.dcount < e.admitN + 1000 * e.deadline || e.late || (e.st == .finishing && !beaten)
      || (e.cancel && e.endAt != s.clk.dcount) then s
    else
      let e1 := { e with late := true, endAt := s.clk.dcount }
      if e.st == .finishing then s.putEntry n { e1 with code := 5, status := stTimeout }
      else if e1.waits then s.waitEntry n e1 e1.st else s.putEntry n e1

def execDeadline (entry : Nat) (s : State) : Outcome := onUnit (entry < 65536) (opDeadline entry) s

/-! ### REQUEST (R314, R315, R336, R344) -/

/-- The record that a request or a COMMIT of a slot or adapter would serve from. -/
def State.liveRec (s : State) (f slot adapter : Nat) : Option (Nat × GenRec) :=
  match s.heldModel f slot adapter with
  | none => none
  | some (key, m) => (m.recIn .live).map (fun r => (key, r))

/-- A record gains or loses an entry that pins it (R301). -/
def State.pin (s : State) (key gen : Nat) (up : Bool) : State :=
  match tfind s.wgt.models key with
  | none => s
  | some m => match m.recOf gen with
    | none => s
    | some r =>
      let s1 := s.putModel key (m.putRec { r with pins := if up then r.pins + 1 else r.pins - 1 })
      if up then s1 else s1.reapGen key gen

/-- A request as read: status, bytes of the descriptor, its prompt tokens, the parameter block. -/
structure ReqRead where
  st : State
  status : Nat
  desc : List Nat
  prompt : List Nat
  par : List Nat

/-- Entries that a function holds. -/
def State.entriesOf (s : State) (f : Nat) : Nat := (s.srv.entries.filter (fun e => e.2.func == f)).length

/-- Reading and checking a request (R314, R315). `hostStatus` is the outcome of reads of host memory, `hostDesc` and
`hostPrompt` the bytes they return. -/
def State.checkRequest (s : State) (f flags desc hostStatus0 : Nat) (hostDesc hostPrompt : List Nat) : ReqRead :=
  let host := bitOf flags 0
  let hostStatus := statusOf hostStatus0
  let (st0, d, s1) := if host then
      (if !s.hostOk f desc 128 then (stWindow, [], s.raiseCause f 1 0)
       else (hostStatus, if hostStatus == stOk then hostDesc.take 128 else [], s.emit (.hostRead f desc 128 0)))
    else s.readDev f desc 128
  if st0 != stOk || 4 ≤ flags then { st := s1, status := worst st0 (if 4 ≤ flags then stProtocol else stOk), desc := d, prompt := [], par := [] }
  else
    let slot := fieldAt d 0 2
    let gen := fieldAt d 2 2
    let adapter := fieldAt d 4 2
    let aver := fieldAt d 6 2
    let promptAt := fieldAt d 16 8
    let plen := fieldAt d 24 4
    let maxNew := fieldAt d 28 4
    let out := fieldAt d 32 8
    let outLen := fieldAt d 40 4
    let param := fieldAt d 44 8
    let bind := match tfind s.srv.binds slot with
      | some b => if b.func == f && b.unserve.isNone then some b else none
      | none => none
    let ctx := match bind with | some b => b.context | none => 0
    let lenOk := 1 ≤ plen && plen + 1 ≤ ctx
    let form := byteAt d 8 < 8 && byteAt d 9 < 4 && rsvZero d 60 68 && bind.isSome && lenOk && 1 ≤ maxNew && maxNew + plen ≤ ctx
      && 1 ≤ outLen && promptAt % 4 == 0 && out % 4 == 0
    let (st1, pb, s2) := if !lenOk then
        (if plen == 0 || (if host then s1.hostOk f promptAt (4 * plen) else s1.transStatus f promptAt (4 * plen) != stWindow) then
           (stOk, [], s1) else (stWindow, [], s1.raiseCause f 1 0))
      else if host then
        (if !s1.hostOk f promptAt (4 * plen) then (stWindow, [], s1.raiseCause f 1 0)
         else (hostStatus, if hostStatus == stOk then hostPrompt.take (4 * plen) else [], s1.emit (.hostRead f promptAt (4 * plen) 0)))
      else s1.readDev f promptAt (4 * plen)
    let prompt := (List.range (pb.length / 4)).map (fun i => fieldAt pb (4 * i) 4)
    let vocab := match bind with | some b => b.vocab | none => 0
    let st2 := if host then (if s2.hostOk f out (4 * outLen) then stOk else stWindow) else s2.transStatus f out (4 * outLen)
    let (st3, par, s3) := s2.readDev f param 128
    let p := params par
    let draft := bitOf (byteAt d 9) 1
    let parOk := st3 != stOk || p.ok par draft (s3.obj 0x2E20 1)
    let dgen := s3.liveRec f p.dslot 0
    let draftOk := !draft || st3 != stOk || (bitOf (s3.obj 0x2E20 2) f
      && (match bind with | some b => b.verify != 0xFFFF | none => false)
      && dgen.isSome && (match tfind s3.srv.binds p.dslot with | some b => b.func == f && b.vocab == vocab | none => false))
    let live := s3.liveRec f slot 0
    let gst := match live with | some (_, r) => if gen == 0 || gen == r.gen then stOk else stGeneration | none => stGeneration
    let ast := if adapter == 0 then (if aver == 0 then stOk else stAdapter)
      else match s3.liveRec f slot adapter, live with
        | some (_, r), some (_, b) => if (aver == 0 || aver == r.gen) && r.shape == b.shape then stOk else stAdapter
        | _, _ => stAdapter
    let room := s3.srv.entries.length < 65536 && s3.entriesOf f < s3.obj 0x2E11 (f + 1)
    let status := worstOf [st1, st2, st3,
      if form && prompt.all (· < vocab) && parOk && draftOk then stOk else stProtocol,
      if bind.isNone then stOk else gst, if bind.isNone then stOk else ast, if room then stOk else stResource]
    { st := if host && st2 == stWindow then s3.raiseCause f 1 0 else s3, status := status, desc := d, prompt := prompt, par := par }

/-- A refused request (R315, R373): a completion with code 0xFD. -/
def State.refuseReq (s : State) (q : Req) (status user : Nat) : State :=
  ((s.bump 0x3410 2 1).queueCpl q.ring (cplBytes 2 status 0xFD q.tag user 0 0)).endCmd q

/-- REQUEST: admission (R301, R306, R315). A core that rests wakes (R474); one that is being reset answers GONE (R21). -/
def opRequest (q : Req) (flags desc hostStatus : Nat) (hostDesc hostPrompt : List Nat) (s0 : State) : State :=
  let s := s0.wakeDom 61
  if s.part 100 == 2 || s.part 100 == 3 then (s0.owe 100 1).queueCpl q.ring (cplBytes 2 stGone 0xFD q.tag 0 0 0) |>.endCmd q
  else if s.recovery then s.refuseReq q stTier 0
  else if !s.keyed q.func then s.refuseReq q stProtocol 0
  else
    let r := s.checkRequest q.func flags desc hostStatus hostDesc hostPrompt
    let d := r.desc
    let user := fieldAt d 52 8
    if r.status != stOk then r.st.refuseReq q r.status user
    else match r.st.pickNo (r.st.srv.entries.map (fun e => e.1)) 65536 with
      | none => r.st.refuseReq q stResource user
      | some n =>
        let f := q.func
        let slot := fieldAt d 0 2
        let adapter := fieldAt d 4 2
        let draft := bitOf (byteAt d 9) 1
        let p := params r.par
        let live := ((r.st.liveRec f slot 0).getD (0, default)).2
        let ver := if adapter == 0 then 0 else ((r.st.liveRec f slot adapter).getD (0, default)).2.gen
        let dgen := if draft then ((r.st.liveRec f p.dslot 0).getD (0, default)).2.gen else 0
        let e : Entry := {
          st := .walking, q := q, func := f, level := max (byteAt d 8 % 8) (s.obj 0x2C31 (f + 1))
          noShare := bitOf (byteAt d 9) 0, draft := draft, host := bitOf flags 0, ack := bitOf flags 1
          cancel := false, late := false, slot := slot, gen := live.gen, adapter := adapter, aver := ver
          len := 0, generated := 0, matched := 0, listHead := 0, listTail := 0, reserved := [], admitN := s.clk.dcount
          order := s.srv.order, deadline := fieldAt d 12 4, user := user, promptAt := fieldAt d 16 8, out := fieldAt d 32 8
          outLen := fieldAt d 40 4, maxNew := fieldAt d 28 4, param := fieldAt d 44 8, stream := fieldAt d 10 2
          par := r.par, prompt := r.prompt, toks := [], pending := 0, seed := if p.seed == 0 then s.clk.dcount else p.seed
          dslot := if draft then p.dslot else 0, dgen := dgen, dlen := if draft then p.draftMax else 0, zrun := 0, draftOff := false
          stopState := 0, proposed := 0, accepted := 0, walkAt := 0, hits := [], walkOver := false, pubAt := 0, waitAt := 0, endAt := 0
          bad := 0, code := 0, status := 0, posted := false }
        let s1 := r.st.tick.pin slot live.gen true
        let s2 := if adapter == 0 then s1 else s1.pin (modelKey slot adapter) ver true
        let s3 := if draft then s2.pin p.dslot dgen true else s2
        let s4 := if s3.allNear live.object then s3 else s3.placeWhole live.object 1
        s4.putSrv { s4.srv with entries := tset s4.srv.entries n e, order := s4.srv.order + 1 }

def execRequest (q : Req) (flags desc hostStatus : Nat) (hostDesc hostPrompt : List Nat) (s : State) : Outcome :=
  .next (opRequest q flags desc hostStatus hostDesc hostPrompt s)

/-! ### The walk (R323) -/

/-- Blocks that the walk may match: the block of the last prompt token is never matched. -/
def Entry.walkBlocks (e : Entry) : Nat := (e.prompt.length - 1) / 32

/-- Everything an entry pins is unpinned (R301, R318 step 6, R344). -/
def State.unpin (s : State) (e : Entry) : State :=
  let s1 := s.pin e.slot e.gen false
  let s2 := if e.adapter == 0 then s1 else s1.pin (modelKey e.slot e.adapter) e.aver false
  if e.draft then s2.pin e.dslot e.dgen false else s2

/-- An entry ends as a failed batch does (R318, R328, R337). -/
def State.failEntry (s : State) (n : Nat) (e : Entry) (status : Nat) : State :=
  s.putEntry n { e with st := .finishing, code := 6, status := status }

/-- THICKET_LOOKUP: the lookup of the next block; a hit raises REFS and LAST_HIT and appends the run (R321, R323). -/
def opThicketLookup (n : Nat) (s0 : State) : State :=
  match tfind s0.srv.entries n with
  | none => s0
  | some e =>
    if !e.looksUp || !s0.walkerTurn 10 n then s0
    else
      let s := s0.walkerServed 10 n
      let f := e.func
      let p := s.kv f
      match p.lookup (e.key e.walkAt) with
      | none => (s.putEntry n { e with walkOver := true }).bump 0x3411 2 1
      | some c => match tfind p.cells c with
        | some (.leaf g k r pr ch d h sl) =>
          let s1 := s.putCell f c (some (.leaf g k r pr ch d s.clk.dcount sl))
          let (st, refs) := (s1.kv f).run r
          let s2 := s1.putRun f r st (refs + 1)
          match s2.appendRun e r with
          | none => (s2.putRun f r st refs).failEntry n e stResource
          | some (e1, s3) => (s3.putEntry n { e1 with walkAt := e1.walkAt + 1, hits := e1.hits ++ [(c, h, s.clk.dcount)] }).bump 0x3411 1 1
        | _ => s

def execThicketLookup (entry : Nat) (s : State) : Outcome := onUnit (entry < 65536) (opThicketLookup entry) s

/-- `k` free runs reserved for an entry: which ones the spec leaves open. -/
def State.reserveRuns (s : State) (f : Nat) : Nat → List Nat → List Nat × State
  | 0, got => (got, s)
  | k + 1, got =>
    match s.pickNo ((s.kv f).table.map (fun e => e.1)) (s.kv f).runs with
    | none => (got, s)
    | some r => (s.tick.putRun f r 1 0).reserveRuns f k (got ++ [r])

/-- LAST_HIT of the leaves that a walk has hit goes back to what it was, where no later lookup has set it (R323 step 6). -/
def State.unhit (s : State) (f : Nat) (hits : List (Nat × Nat × Nat)) : State :=
  hits.foldl (fun st h => match tfind (st.kv f).cells h.1 with
    | some (.leaf g k r pr ch d at_ sl) =>
      if at_ == h.2.2 then st.putCell f h.1 (some (.leaf g k r pr ch d h.2.1 sl)) else st
    | _ => st) s

/-- A slot's USE counts an admission (R305). -/
def State.countUse (s : State) (slot : Nat) : State :=
  match tfind s.wgt.models slot with
  | some m => s.putModel slot { m with use := m.use + 1 }
  | none => s

/-- WALK_DONE: MATCHED and LEN are set and the runs reserved, after eviction if need be; where that leaves too few, the
admission is undone and refused (R323). -/
def opWalkDone (n : Nat) (s : State) : State :=
  match tfind s.srv.entries n with
  | none => s
  | some e =>
    if e.st != .walking || !(e.noShare || e.walkOver || e.walkBlocks ≤ e.walkAt) then s
    else
      let f := e.func
      let e1 := { e with matched := e.walkAt, len := 32 * e.walkAt, pubAt := e.walkAt, hits := [] }
      match State.evictUntil (fun t => e1.need ≤ (t.kv f).freeRuns) f (s.kv f).cells.length s with
      | none =>
        let s1 := ((s.unhit f e.hits).giveBack e1).unpin e1
        (s1.putSrv { s1.srv with entries := tdel s1.srv.entries n }).refuseReq e.q stResource e.user |>.settleSlot e.slot
      | some s1 =>
        let (rs, s2) := s1.reserveRuns f e1.need []
        let e2 := { e1 with reserved := rs }
        let s3 := (s2.bump 0x3410 1 1).countUse e2.slot
        let s4 := if e2.ack then s3.postReq n e2 0xFE stOk else s3
        s4.waitEntry n e2 .waitPrefill

def execWalkDone (entry : Nat) (s : State) : Outcome := onUnit (entry < 65536) (opWalkDone entry) s

/-! ### The batcher (R329 to R331) -/

/-- Phase that an entry waits for. -/
def Entry.phase (e : Entry) : Phase3 :=
  if e.st == .waitPrefill then .prefill else if e.draft && !e.draftOff then .verify else .decode

/-- Two waiting entries share a batch key (R329, R344). -/
def Entry.sameKey (a b : Entry) : Bool :=
  a.func == b.func && a.slot == b.slot && a.gen == b.gen && a.adapter == b.adapter && a.aver == b.aver && a.level == b.level
  && a.phase == b.phase && (a.phase != .verify || (a.dslot == b.dslot && a.dgen == b.dgen))

/-- A batch in flight has the key of an entry. -/
def Batch.hasKey (b : Batch) (e : Entry) : Bool :=
  b.func == e.func && b.slot == e.slot && b.gen == e.gen && b.adapter == e.adapter && b.aver == e.aver && b.level == e.level
  && b.phase == e.phase && (b.phase != .verify || (b.dslot == e.dslot && b.dgen == e.dgen))

/-- The order within a key: absolute deadline, none latest, then admission (R330). -/
def batchLe (a b : Nat × Entry) : Bool :=
  let da := if a.2.deadline == 0 then none else some (a.2.admitN + 1000 * a.2.deadline)
  let db := if b.2.deadline == 0 then none else some (b.2.admitN + 1000 * b.2.deadline)
  match da, db with
  | some x, some y => x < y || (x == y && a.2.order ≤ b.2.order)
  | some _, none => true
  | none, some _ => false
  | none, none => a.2.order ≤ b.2.order

/-- The entries that wait under the key of one of them, in order. -/
def State.waitingLike (s : State) (e : Entry) : List (Nat × Entry) :=
  sortBy batchLe (s.srv.entries.filter (fun x => x.2.waits && x.2.sameKey e))

/-- Positions of the next step of an entry (R330, R345). -/
def Entry.step (e : Entry) (budget : Nat) : Nat :=
  match e.phase with
  | .prefill => min (e.prompt.length - e.len) budget
  | .decode => 1
  | .verify => e.dlen + 1

/-- Prefill members, whole ones in order while the budget allows; one longer than the budget is split (R330). -/
def prefillMembers (whole : Nat) : List (Nat × Entry) → Nat → List (Nat × Entry)
  | [], _ => []
  | x :: r, left =>
    let c := x.2.step whole
    if c ≤ left then x :: prefillMembers whole r (left - c) else []

/-- The members of a batch that closes now. -/
def State.batchMembers (s : State) (e : Entry) : List (Nat × Entry) :=
  let w := s.waitingLike e
  if e.phase == .prefill then prefillMembers (s.obj 0x2E10 3) w (s.obj 0x2E10 3) else w.take (s.obj 0x2E10 2)

/-- Positions that the entries of a key have waiting, for the size limit (R330). -/
def State.batchFull (s : State) (e : Entry) : Bool :=
  let w := s.waitingLike e
  if e.phase == .prefill then s.obj 0x2E10 3 ≤ (w.map (fun x => x.2.prompt.length - x.2.len)).foldl (· + ·) 0
  else s.obj 0x2E10 2 ≤ w.length

/-- Reserved runs become the runs of the blocks that positions below `stop` touch (R324); none where a list chunk is
needed and cannot be had. -/
def State.takeRuns (s : State) (stop : Nat) : Nat → Entry → Option (Entry × State)
  | 0, e => some (e, s)
  | k + 1, e =>
    if cdiv stop 32 ≤ (s.pageList e).1.length then some (e, s)
    else match e.reserved with
      | [] => some (e, s)
      | r :: rest =>
        match (s.putRun e.func r 2 1).appendRun { e with reserved := rest } r with
        | none => none
        | some (e1, s1) => s1.takeRuns stop k e1

/-- Address of a member's input tokens: its prompt, or its output for the pending token. The table holds a device
address; where the request's buffers are in host memory the spec names none, and the address is open (R331). -/
def Entry.tokensAt (e : Entry) (free : Nat) : Nat :=
  if e.host then Config.freeNat free % 2 ^ 52
  else if e.st == .waitPrefill then e.promptAt + 4 * e.len else e.out + 4 * (e.len - e.prompt.length)

/-- The 32 bytes of a batch-table row (R331). -/
def tableRow (n : Nat) (e : Entry) (count free : Nat) : List Nat :=
  leBytes n 4 ++ leBytes e.len 4 ++ leBytes count 4 ++ leBytes e.listHead 4 ++ leBytes (e.tokensAt free) 8 ++ List.replicate 8 0

/-- The object of a generation as an operand: BASE and LENGTH. -/
def State.genOperand (s : State) (key gen : Nat) : Nat × Nat :=
  match (tget s.wgt.models key).recOf gen with
  | none => (0, 0)
  | some r => let o := tget s.tier.objs r.object
    (o.base, 65536 * o.tiles)

/-- The descriptor of a batch task: the template with LAYOUT, PRIO and the shape words filled (R331, R344). -/
def batchDesc (tpl : List Nat) (layout level : Nat) (words : List (Nat × Nat)) : List Nat :=
  let put := fun (l : List Nat) (o : Nat) (v : List Nat) => l.take o ++ v ++ l.drop (o + v.length)
  words.foldl (fun l (w : Nat × Nat) => put l (40 + 4 * w.1) (leBytes w.2 4)) (put (put tpl 4 (leBytes layout 2)) 2 [level])

/-- The operand table of a batch task: the template's with some slots bound. -/
def batchTable (ob : List Nat) (slots : List (Nat × (Nat × Nat))) : List Nat :=
  slots.foldl (fun l (e : Nat × (Nat × Nat)) =>
    l.take (16 * e.1) ++ leBytes e.2.1 8 ++ leBytes e.2.2 8 ++ l.drop (16 * e.1 + 16)) ob

/-- A member takes its runs; an entry that finds no list chunk ends with RESOURCE_LIMIT (R324, R328). -/
def State.enrol (s : State) (acc : List BMember × List (Nat × Entry)) (x : Nat × Entry) :
    (List BMember × List (Nat × Entry)) × State :=
  let (n, e) := x
  let c := e.step (s.obj 0x2E10 3)
  match s.takeRuns (e.len + c) (c + 1) e with
  | none => (acc, s.failEntry n e stResource)
  | some (e1, s1) =>
    let rows := match e.phase with
      | .prefill => if e.len + c == e.prompt.length then 1 else 0
      | .decode => 1
      | .verify => c
    let first := (acc.1.map (fun m => m.rows)).foldl (· + ·) 0
    let m : BMember := {
      entry := n, start := e.len, count := c, rows := rows, firstRow := first, row := 0, cands := none, greedy := 0
      stops := [], accepted := [], isOver := false }
    ((acc.1 ++ [m], acc.2 ++ [(n, e1)]), s1)

/-- A batch closes and is submitted as a one-task graph through the engine port (R331). It waits while the binding has
four batches in flight or the jig has no graph entry free. -/
def State.closeBatch (s : State) (e : Entry) : State :=
  match tfind s.srv.binds e.slot with
  | none => s
  | some b =>
    let used := (s.srv.batches.filter (fun x => x.2.slot == e.slot)).map (fun x => x.2.table)
    match s.pickNo used 4, s.tick.pickNo (s.jig.graphs.map (fun x => x.1)) 1024 with
    | some t, some g =>
      if 262144 ≤ s.jig.tasks.length then s
      else
        let phase := e.phase
        let ((ms, es), s1) := (s.batchMembers e).foldl (fun (p : (List BMember × List (Nat × Entry)) × State) x =>
          p.2.enrol p.1 x) (([], []), s.ticks 2)
        if ms.isEmpty then s1
        else
          let f := e.func
          let rows := ((List.range ms.length).zip (ms.zip es)).flatMap (fun (x : Nat × (BMember × (Nat × Entry))) =>
            tableRow x.2.2.1 x.2.2.2 x.2.1.count (s1.free + x.1))
          let s1' := s1.ticks ms.length
          let s2 := es.foldl (fun st (x : Nat × Entry) =>
            st.putEntry x.1 { x.2 with st := if phase == .prefill then .prefill else .decode }) s1'
          let (w, s3) := s2.writeDev f (b.area + 65536 * t) rows
          let (r1, tpl, s4) := s3.readDev f b.template 128
          let opn := fieldAt tpl 8 8
          let (r2, ob, s5) := if r1 == stOk && opn != 0 then s4.readDev f opn 256 else (stOk, List.replicate 256 0, s4)
          let status := worst w (worst r1 r2)
          if status != stOk then
            ms.foldl (fun st m => match tfind st.srv.entries m.entry with
              | some x => st.failEntry m.entry x status
              | none => st) s5
          else
            let layout := match phase with | .prefill => b.prefill | .decode => b.decode | .verify => b.verify
            let count := (ms.map (fun m => m.count)).foldl (· + ·) 0
            let big := (ms.map (fun m => m.start + m.count)).foldl max 0
            let dmax := (ms.map (fun m => m.count - 1)).foldl max 0
            let pool := tget s5.tier.objs (s5.kv f).object
            let slots := [(0, s5.genOperand e.slot e.gen),
              (1, if e.adapter == 0 then (0, 0) else s5.genOperand (modelKey e.slot e.adapter) e.aver),
              (12, (b.area + 65536 * t, 65536)), (13, (pool.base, 65536 * pool.tiles))]
              ++ (if phase == .verify then [(2, s5.genOperand e.dslot e.dgen)] else [])
            let words := [(0, count), (1, ms.length), (2, big)] ++ (if phase == .verify then [(3, dmax)] else [])
            let gr : Graph := {
              func := f, halt := false, tasks := 1, taskBase := 0, edges := [], user := 0, counted := true, seq := s5.jig.graphSeq
              ring := none, port := some (batchDesc tpl layout e.level words, batchTable ob slots) }
            let bt : Batch := {
              func := f, slot := e.slot, gen := e.gen, adapter := e.adapter, aver := e.aver, phase := phase, level := e.level
              dslot := if phase == .verify then e.dslot else 0, dgen := if phase == .verify then e.dgen else 0, vocab := b.vocab
              table := t, graph := g, members := ms, rowsAt := none }
            let s6 := s5.putJig { s5.jig with
              graphs := tset s5.jig.graphs g gr
              graphSeq := s5.jig.graphSeq + 1
              tasks := tset s5.jig.tasks (taskKey g 0) { newTask f with notify := false } }
            (s6.putSrv { s6.srv with batches := tset s6.srv.batches (s6.srv.batchNext + 1) bt, batchNext := s6.srv.batchNext + 1 }).bump
              0x3412 (if phase == .prefill then 1 else 2) 1
    | _, _ => s

/-- BATCH_CLOSE: the size limit is reached, or no batch of the key is in flight (R330). -/
def opBatchClose (n : Nat) (s : State) : State :=
  match tfind s.srv.entries n with
  | none => s
  | some e =>
    if s.domOn 61 && s.partUp 100 && e.waits && (s.batchFull e || !(s.srv.batches.any (fun b => b.2.hasKey e))) then s.closeBatch e else s

def execBatchClose (entry : Nat) (s : State) : Outcome := onUnit (entry < 65536) (opBatchClose entry) s

/-- BATCH_WAIT_EXPIRY: the first member has waited BATCH_WAIT (R330). -/
def opBatchWaitExpiry (n : Nat) (s : State) : State :=
  match tfind s.srv.entries n with
  | none => s
  | some e =>
    if s.domOn 61 && s.partUp 100 && e.waits && e.waitAt + s.obj 0x2E10 1 * 1000 ≤ s.clk.dcount
      && ((s.waitingLike e).head?.map (fun x => x.1)) == some n then s.closeBatch e else s

def execBatchWaitExpiry (entry : Nat) (s : State) : Outcome := onUnit (entry < 65536) (opBatchWaitExpiry entry) s

/-! ### The end of a batch (R319, R332) -/

/-- The state with a batch replaced; one whose members are all done is over, and its slot's SERVE may complete. -/
def State.putBatch (s : State) (k : Nat) (b : Batch) : State :=
  if b.members.all (fun m => m.isOver) then (s.putSrv { s.srv with batches := tdel s.srv.batches k }).settleSlot b.slot
  else s.putSrv { s.srv with batches := tset s.srv.batches k b }

/-- A member is done with its batch. -/
def State.memberOver (s : State) (k i : Nat) : State :=
  match tfind s.srv.batches k with
  | none => s
  | some b => s.putBatch k { b with members := b.members.modify i (fun m => { m with isOver := true }) }

/-- The jig's graph of a batch is given back. -/
def State.dropPort (s : State) (g : Nat) : State :=
  s.putJig { s.jig with graphs := tdel s.jig.graphs g, tasks := tdel s.jig.tasks (taskKey g 0) }

/-- A member whose step is done waits again, or ends (R319). -/
def State.memberWaits (s : State) (n : Nat) (e : Entry) : State :=
  s.waitEntry n e (if e.prompt.length ≤ e.len then .waitDecode else .waitPrefill)

/-- BATCH_TASK_DONE. With OK the members' rows pass to the pruners, and a split prefill advances; otherwise every member
ends with end reason 0x06. -/
def opBatchTaskDone (k : Nat) (s : State) : State :=
  match tfind s.srv.batches k with
  | none => s
  | some b =>
    match s.task (taskKey b.graph 0), b.rowsAt with
    | some t, none =>
      if !t.st.isOver then s
      else
        let status := if t.st == .notRun then stGone else t.status
        let s1 := s.dropPort b.graph
        if status != stOk then
          let s2 := b.members.foldl (fun st m => match tfind st.srv.entries m.entry with
            | some e => st.failEntry m.entry e status
            | none => st) s1
          s2.putBatch k { b with members := b.members.map (fun m => { m with isOver := true }) }
        else
          let rowsAt := ((t.opnds.getD 14 (0, 0)).1, (t.opnds.getD 15 (0, 0)).1)
          let s2 := (b.members.filter (fun m => m.rows == 0)).foldl (fun st m => match tfind st.srv.entries m.entry with
            | some e => st.memberWaits m.entry { e with len := m.start + m.count }
            | none => st) s1
          (s2.putBatch k { b with rowsAt := some rowsAt, members := b.members.map (fun m => { m with isOver := m.rows == 0 }) }).wakeDom 61
    | _, _ => s

def execBatchTaskDone (batch : Nat) (s : State) : Outcome := .next (opBatchTaskDone batch s)

/-- The end completion of entry `n` is held for a full ring (R376). -/
def State.endHeld (s : State) (n : Nat) (e : Entry) : Bool :=
  (s.ring e.q.ring).held.any (fun c => byteAt c.data 0 == 2 && byteAt c.data 2 == e.code && fieldAt c.data 20 2 == n)

/-- The first three steps of FINISHING: the full blocks are published and the completion is queued (R318). -/
def State.postEnd (s : State) (n : Nat) (e : Entry) : State :=
  let s1 := s.publishAll n (e.len / 32 + 1)
  let e1 := (tfind s1.srv.entries n).getD e
  (s1.postReq n e1 e1.code e1.status).putEntry n { e1 with posted := true }

/-- ENTRY_FINISH (R318). An end completion that is held keeps the entry in FINISHING (R376). -/
def opEntryFinish (n : Nat) (s : State) : State :=
  match tfind s.srv.entries n with
  | none => s
  | some e =>
    if e.st != .finishing then s
    else
      let s2 := if e.posted then s else s.postEnd n e
      let e1 := (tfind s2.srv.entries n).getD e
      if s2.endHeld n e1 then s2
      else
      let s3 := ((s2.endCmd e1.q).giveBack e1).unpin e1
      let s4 := s3.putSrv { s3.srv with entries := tdel s3.srv.entries n }
      let s5 := if e1.code == 5 then s4.bump 0x3410 3 1 else if e1.code == 2 then s4.bump 0x3420 0x0A 1 else s4
      s5.settleSlot e1.slot

def execEntryFinish (entry : Nat) (s : State) : Outcome := onUnit (entry < 65536) (opEntryFinish entry) s

end Sys2Proof.Machine
end

