-- ==== Sys2Proof/Machine/Sampling.lean ====
section
/-!
DEFINITION. Sampling: a pruner's pass over a logit row, the writing of tokens, and the graft decision (R334 to R351).
-/
namespace Sys2Proof.Machine

/-! ### What a row is pruned with (R335 to R339) -/

/-- The pruner that takes the rows of a member: number mod 8, or the other pruner of its I/O die while that one is out
of service (R334, R351). -/
def State.prunerOf (s : State) (i : Nat) : Nat :=
  let p := i % 8
  if s.partUp (88 + p) then p else if p % 2 == 0 then p + 1 else p - 1

/-- Stride of a logit row in bytes (R335). -/
def rowStride (vocab : Nat) : Nat := cdiv vocab 64 * 256

/-- 32-bit fields of a byte list. -/
def words32 (bs : List Nat) : List Nat := (List.range (bs.length / 4)).map (fun i => fieldAt bs (4 * i) 4)

/-- The stop records: each its tokens; a record whose length is not 1 to 15 has none and never matches (R336). -/
def stopRecs (n : Nat) (bs : List Nat) : List (List Nat) :=
  (List.range n).map (fun k =>
    let len := fieldAt bs (64 * k) 4
    if 1 ≤ len && len ≤ 15 then (List.range len).map (fun i => fieldAt bs (64 * k + 4 + 4 * i) 4) else [])

/-- The bytes that a row's pass reads: logits, mask, bias, stop records; the worst status of the reads (R337, R338). -/
structure RowRead where
  st : State
  status : Nat
  logits : List Nat
  mask : List Nat
  bias : List (Nat × Nat)
  stops : List (List Nat)

/-- A device read that takes no bytes reads nothing and is OK. -/
def State.readSome (s : State) (f addr n : Nat) : Nat × List Nat × State :=
  if n == 0 then (stOk, [], s) else s.readDev f addr n

/-- The reads of one row. -/
def State.readRow (s : State) (f vocab rowAt : Nat) (p : Params) : RowRead :=
  let (a, lb, s1) := s.readSome f rowAt (4 * vocab)
  let (b, mb, s2) := s1.readSome f p.maskAddr (if p.maskEn then rowStride vocab / 32 else 0)
  let (c, bb, s3) := s2.readSome f p.biasAddr (if p.biasEn then 8 * p.biasCount else 0)
  let (d, sb, s4) := s3.readSome f p.stopAddr (64 * p.stops)
  { st := s4, status := worst (worst a b) (worst c d), logits := words32 lb, mask := mb
    bias := (List.range (bb.length / 8)).map (fun i => (fieldAt bb (8 * i) 4, fieldAt bb (8 * i + 4) 4))
    stops := stopRecs p.stops sb }

/-- Tokens at the REP_WINDOW positions before the row's position (R338 step 4): prompt, written output, and the
tokens accepted in the step so far, which are written with it. -/
def Entry.history (e : Entry) (accepted : List Nat) (window : Nat) : List Nat :=
  let all := e.prompt ++ e.toks ++ accepted
  all.drop (all.length - window)

/-! ### Writing tokens and ending (R343) -/

/-- Length of the longest tail of the output that matches a prefix of a stop record (R352). -/
def tailMatch (out rec : List Nat) : Nat :=
  (List.range (rec.length + 1)).foldl (fun best k => if k ≤ out.length && out.drop (out.length - k) == rec.take k then k else best) 0

/-- STOP_STATE: a nibble for each stop record (R352). -/
def stopStateOf (out : List Nat) (recs : List (List Nat)) : Nat :=
  ((List.range recs.length).map (fun k => tailMatch out (recs.getD k []) * 16 ^ k)).foldl (· + ·) 0

/-- END_CHECK: the first condition that holds after a token has been written (R343). -/
def Entry.endCheck (e : Entry) (x eos : Nat) (recs : List (List Nat)) : Option Nat :=
  if x == eos && eos != 0xFFFFFFFF then some 0x00
  else if recs.any (fun r => !r.isEmpty && r.length ≤ e.toks.length && e.toks.drop (e.toks.length - r.length) == r) then some 0x02
  else if e.maxNew ≤ e.generated then some 0x01
  else if e.outLen ≤ e.generated then some 0x03
  else none

/-- What a step has written: the entry, and the end reason or the status that stopped it. -/
structure Wrote where
  st : State
  e : Entry
  count : Nat
  code : Option Nat
  bad : Nat

/-- One token is written to the output buffer, in host memory or in the part (R343, R361); LEN, GENERATED, the pending
token and the stop matcher advance, and a progress completion is posted at multiples of STREAM (R318). -/
def State.writeToken (w : Wrote) (n : Nat) (recs : List (List Nat)) (eos x : Nat) : Wrote :=
  if w.code.isSome || w.bad != stOk then w
  else
    let s := w.st
    let e := w.e
    let addr := e.out + 4 * e.generated
    let (st, s1) := if e.host then
        (if s.hostOk e.func addr 4 then (stOk, s.hostWrite (.token n) e.func addr (leBytes x 4))
         else (stWindow, s.raiseCause e.func 1 0))
      else s.writeDev e.func addr (leBytes x 4)
    if st != stOk then { w with st := s1, bad := st }
    else
      let toks := e.toks ++ [x]
      let e1 := { e with
        toks := toks
        generated := e.generated + 1
        len := e.len + 1
        pending := x
        stopState := stopStateOf toks recs }
      let s2 := if e1.stream != 0 && e1.generated % e1.stream == 0 then s1.postReq n e1 0xFF stOk else s1
      { st := s2, e := e1, count := w.count + 1, code := e1.endCheck x eos recs, bad := stOk }

/-- The tokens of a step written in position order, each with the stop records of the row that gave it (R337, R343). -/
def State.writeTokens (s : State) (n : Nat) (e : Entry) (eos : Nat) (xs : List (Nat × List (List Nat))) : Wrote :=
  xs.foldl (fun w x => State.writeToken w n x.2 eos x.1) { st := s, e := e, count := 0, code := none, bad := stOk }

/-- A member's step is over: its entry ends, fails, or waits for its next batch (R318, R332, R343). -/
def State.stepOver (w : Wrote) (n k i : Nat) : State :=
  let s := if w.bad != stOk then w.st.failEntry n w.e w.bad
    else match w.code with
      | some c => w.st.putEntry n { w.e with st := .finishing, code := c, status := stOk }
      | none => w.st.memberWaits n w.e
  s.memberOver k i

/-- A member ends as though its batch task had failed (R337, R339). -/
def State.memberFails (s : State) (n k i : Nat) (e : Entry) (status : Nat) : State :=
  (s.failEntry n e status).memberOver k i

/-! ### PRUNE_ROW (R338) -/

/-- A batch's member replaced. -/
def State.putMember (s : State) (k i : Nat) (m : BMember) : State :=
  match tfind s.srv.batches k with
  | none => s
  | some b => s.putBatch k { b with members := b.members.modify i (fun _ => m) }

/-- The chosen token of a row that is not tested: the greedy choice, or the draw on a stream (R338, R341). -/
def chooseToken (r : Pruned) (greedy : Bool) (seed pos stream : Nat) : Nat :=
  let best := r.choice.getD 0
  if greedy then best else (draw r.cands (randomU seed pos stream)).getD best

/-- PRUNE_ROW: the next row of member `i` of batch `k`. A prefill or decode row gives the member's token, with the end
check after it; a verify row leaves its candidates for the graft unit. -/
def opPruneRow (k i : Nat) (s : State) : State :=
  match tfind s.srv.batches k with
  | none => s
  | some b => match b.rowsAt, b.members[i]? with
    | some (base, _), some m =>
      if m.isOver || m.rows ≤ m.row || m.cands.isSome || !s.domOn 61 || !s.partUp (88 + s.prunerOf i) then s
      else match tfind s.srv.entries m.entry with
        | none => s.memberOver k i
        | some e =>
          let p := params e.par
          let r := s.readRow b.func b.vocab (base + rowStride b.vocab * (m.firstRow + m.row)) p
          let pruner := s.prunerOf i
          let s1 := r.st.bump 0x3421 (pruner + 1) (cdiv b.vocab 64)
          if r.status != stOk then s1.memberFails m.entry k i e r.status
          else
            let out := pruneRow p r.logits r.mask r.bias (e.history m.accepted p.repWindow) s.free
            let s2 := ((s1.ticks b.vocab).bump 0x3420 2 out.nans)
            match out.choice with
            | none => (s2.bump 0x3420 3 1).memberFails m.entry k i e stProtocol
            | some best =>
              let s3 := s2.bump 0x3420 1 1
              if b.phase == .verify then
                s3.putMember k i { m with cands := some out.cands, greedy := best, stops := m.stops.take m.row ++ [r.stops] }
              else
                let pos := e.prompt.length + e.generated
                let x := chooseToken out p.greedy e.seed pos 0
                State.stepOver (s3.writeTokens m.entry { e with len := m.start + m.count - 1 } p.eos [(x, r.stops)]) m.entry k i
    | _, _ => s

def execPruneRow (batch member : Nat) (s : State) : Outcome := .next (opPruneRow batch member s)

/-! ### GRAFT_DECISION (R346 to R350) -/

/-- The draft length and zero run after a verify step with `a` of `d` accepted (R350); true beside it where the step
counts in DRAFT_FLOORED, and where it counts in DRAFT_STOPPED. -/
def adapt (p : Params) (d z a : Nat) : Nat × Nat × Bool × Bool :=
  if a == d then (min (d + 1) p.draftMax, 0, false, false)
  else if a != 0 then (max (a + 1) p.draftMin, 0, false, false)
  else if z + 1 < p.zeroRun then (d, z + 1, false, false)
  else if p.fallback == 0 then (p.draftMin, 0, true, false)
  else (d, 0, false, true)

/-- A row tests a draft token (R346). -/
def accepts (p : Params) (greedy : Nat) (cands : List (Nat × Nat)) (seed pos x : Nat) : Bool :=
  if p.greedy then x == greedy
  else
    let w := weightInt (((cands.find? (fun c => c.1 == x)).getD (0, 0)).2)
    randomU seed pos 1 * weightSum cands < w * 2 ^ 64

/-- A verify step ends with its tokens written and the draft length adapted (R348 to R350). -/
def State.verifyOver (s : State) (k i : Nat) (m : BMember) (e : Entry) (p : Params) (xs : List Nat) (y : Nat) : State :=
  let a := xs.length
  let d := m.count - 1
  let (d', z', floored, stopped) := adapt p d e.zrun a
  let s2 := ((((s.bump 0x3420 4 1).bump 0x3420 5 d).bump 0x3420 6 a).bump 0x3420 7 (d - a)).bump 0x3420 8 (if floored then 1 else 0)
  let s3 := s2.bump 0x3420 9 (if stopped then 1 else 0)
  let e1 := { e with
    dlen := d'
    zrun := z'
    draftOff := e.draftOff || stopped
    proposed := (e.proposed + d) % 2 ^ 32
    accepted := (e.accepted + a) % 2 ^ 32 }
  State.stepOver (s3.writeTokens m.entry { e1 with len := m.start } p.eos ((xs ++ [y]).zip m.stops)) m.entry k i

/-- GRAFT_DECISION: the row that the pruner has left is tested; an acceptance passes to the next row, a rejection or the
row after the last draft token ends the step. -/
def opGraftDecision (k i : Nat) (s : State) : State :=
  match tfind s.srv.batches k with
  | none => s
  | some b => match b.rowsAt, b.members[i]? with
    | some (_, drafts), some m => match m.cands with
      | none => s
      | some cs =>
        if m.isOver || b.phase != .verify || !s.domOn 61 || !s.partUp (96 + i % 8 / 2) then s
        else match tfind s.srv.entries m.entry with
          | none => s.memberOver k i
          | some e =>
            let p := params e.par
            let d := m.count - 1
            let pos := m.start + m.row + 1
            let r : Pruned := { nans := 0, choice := some m.greedy, cands := cs }
            if m.row == d then s.verifyOver k i m e p m.accepted (chooseToken r p.greedy e.seed pos 0)
            else
              let (st, bs, s1) := s.readDev b.func (drafts + 64 * i + 4 * m.row) 4
              if st != stOk then s1.memberFails m.entry k i e st
              else
                let x := fieldAt bs 0 4
                if accepts p m.greedy cs e.seed pos x then
                  s1.putMember k i { m with row := m.row + 1, cands := none, accepted := m.accepted ++ [x] }
                else
                  let r' : Pruned := { r with cands := cs.filter (fun c => c.1 != x) }
                  s1.verifyOver k i m e p m.accepted (chooseToken r' p.greedy e.seed pos 2)
    | _, _ => s

def execGraftDecision (batch member : Nat) (s : State) : Outcome := .next (opGraftDecision batch member s)

end Sys2Proof.Machine
end

