-- ==== Sys2Proof/Machine/Rings.lean ====
section
/-!
DEFINITION. Rings, their completions and vectors, and the accesses to host memory that serve them (R359, R360, R366 to
R377, R382, R521).
-/
namespace Sys2Proof.Machine

/-! ### Functions and BARs (R356, R357, R521) -/

/-- Function `f` exists (R356). -/
def State.fnExists (s : State) (f : Nat) : Bool := f == 0 || (s.host.vfEn && f ≤ s.host.numVf && f < 64)

/-- A BAR is enabled and the device's present state serves it (R354, R357, R464, R492, R521). -/
def State.barServed (s : State) (f bar : Nat) : Bool :=
  s.portUp && s.fnExists f && tget s.host.memEn f &&
  match s.clk.phase with
  | .service => bar == 0 || bar == 4 || (bar == 2 && f == 0)
  | .hold => bar == 2 && f == 0
  | _ => false

/-- The answer to a memory request that falls in no served BAR (R521). -/
def State.unsupported (s : State) (f bar : Nat) : State :=
  ({ s with host := { s.host with aer := s.host.aer + 1 } }).emit (.cxl "UR" [f, bar])

/-- A memory request to a BAR: carried out where the BAR is served, Unsupported Request elsewhere (R521). -/
def State.mmio (s : State) (f bar : Nat) (act : State) : State := if s.barServed f bar then act else s.unsupported f bar

/-- A register access that breaks the rules of R367 or R382: counted, with its cause. -/
def State.violation (s : State) (f : Nat) : State := (s.bump 0x3503 (f + 1) 1).raiseCause f 0 2

/-- Global ring of local ring `i` of a function (R358). -/
def State.localRing (s : State) (f i : Nat) : Option Nat :=
  if i < (s.fn f).ringCount then some ((s.fn f).ringFirst + i) else none

/-- A ring enters ERROR: what it has queued is dropped and its outstanding reads are not taken up (R375, R382). -/
def State.ringError (s : State) (r status : Nat) : State :=
  let x := s.ring r
  let s1 := s.dropCpls r x.toWrite.length
  let s2 := s1.putRing r { x with st := .error, err := status, toWrite := [], reading := [], unsig := 0, unsigAt := none }
  let s3 := { s2 with host := { s2.host with reads := s2.host.reads.filter (fun h => h.ring != r) } }
  match s.ringOwner r with
  | some f => s3.raiseCause f 0 0
  | none => s3

/-! ### SQ_TAIL and CQ_HEAD (R366, R370, R376, R382) -/

/-- A write to a register of a ring page. -/
def State.onRing (s : State) (f i : Nat) (act : Nat → State) : State :=
  s.mmio f 0 (match s.localRing f i with
    | none => s.violation f
    | some r => act r)

/-- SQ_TAIL: a doorbell, which wakes domains 52 and 63 (R370, R474). -/
def opSqTail (f i v : Nat) (s : State) : State := s.onRing f i fun r =>
  let s1 := [52, 63].foldl State.wakeDom (s.bump 0x3500 (f + 1) 1)
  let x := s1.ring r
  if x.st != .running then s1.violation f
  else if x.size ≤ v % 65536 then s1.ringError r stProtocol
  else s1.putRing r { x with sqTail := v % 65536 }

def execSqTail (func ring value : Nat) (s : State) : Outcome := onUnit (func < 64) (opSqTail func ring value) s

/-- CQ_HEAD. -/
def opCqHead (f i v : Nat) (s : State) : State := s.onRing f i fun r =>
  let x := s.ring r
  let h := v % 65536
  if x.st != .running && x.st != .stopping then s.violation f
  else if x.size ≤ h || (x.cqTail + x.size - x.cqHead) % x.size < (h + x.size - x.cqHead) % x.size then s.ringError r stProtocol
  else s.putRing r { x with cqHead := h }

def execCqHead (func ring value : Nat) (s : State) : Outcome := onUnit (func < 64) (opCqHead func ring value) s

/-! ### RING_CTRL (R367, R369) -/

/-- RING_CTRL fields that a write changes: all but the reserved ones while the ring is DISABLED, COAL_TIME, COAL_COUNT
and ENABLE at other times; true beside it where SIZE or VECTOR would have changed. -/
def Ring.writeCtrl (x : Ring) (v : Nat) : Ring × Bool :=
  let w := bits v 39 8 * 256 + bits v 5 0
  let keep := bits x.ctrl 15 8 * 256 + bits x.ctrl 5 1 * 2
  let ask := bits v 15 8 * 256 + bits v 5 1 * 2
  if x.st == .disabled then ({ x with ctrl := w }, false)
  else ({ x with ctrl := bits v 39 16 * 65536 + keep + bits v 0 0 }, keep != ask)

/-- A write of RING_CTRL, its fields stored or left and a breach counted (R367). -/
def State.writeCtrl (s : State) (f r v : Nat) : State :=
  let (x, bad) := (s.ring r).writeCtrl v
  let s1 := s.putRing r x
  if bad then s1.violation f else s1

/-- Why a ring may not run: the status of the checks of R369. -/
def State.ringCheck (s : State) (f : Nat) (x : Ring) : Nat :=
  let size := bits x.ctrl 5 1
  worst (if s.hostOk f x.sqBase (64 * x.size) && s.hostOk f x.cqBase (32 * x.size) then stOk else stWindow)
    (if bits x.ctrl 15 8 < (s.fn f).vectors && 4 ≤ size && size ≤ 16 then stOk else stProtocol)

/-- RING_ENABLE: RING_CTRL is written with ENABLE = 1. -/
def opRingEnable (f i v : Nat) (s : State) : State := s.onRing f i fun r =>
  let s1 := s.writeCtrl f r (setBit v 0)
  let x := s1.ring r
  if x.st != .disabled || s1.host.viralHold then s1
  else
    let st := s1.ringCheck f x
    if st != stOk then s1.ringError r st
    else s1.putRing r { x with
      st := .running, err := 0, sqHead := 0, sqTail := 0, cqTail := 0, cqHead := 0, phase := true, reading := [], toWrite := []
      unsig := 0, unsigAt := none }

def execRingEnable (func ring value : Nat) (s : State) : Outcome := onUnit (func < 64) (opRingEnable func ring value) s

/-- RING_DISABLE: RING_CTRL is written with ENABLE = 0. -/
def opRingDisable (f i v : Nat) (s : State) : State := s.onRing f i fun r =>
  let s1 := s.writeCtrl f r (clrBit v 0)
  let x := s1.ring r
  match x.st with
  | .running => s1.putRing r { x with st := .stopping }
  | .error => s1.putRing r { x with st := .disabled }
  | _ => s1

def execRingDisable (func ring value : Nat) (s : State) : Outcome := onUnit (func < 64) (opRingDisable func ring value) s

/-- Everything a STOPPING ring carried has completed (R369). -/
def State.ringQuiet (s : State) (r : Nat) : Bool :=
  let x := s.ring r
  x.inFlight == 0 && x.reading.isEmpty && x.toWrite.isEmpty && !(s.host.writes.any (fun w => w.who == .cpl r))
  && !(s.jig.graphs.any (fun g => g.2.ring == some r)) && !(s.srv.entries.any (fun e => e.2.q.ring == r))

/-- RING_STOPPED. -/
def opRingStopped (r : Nat) (s : State) : State :=
  if (s.ring r).st == .stopping && s.ringQuiet r then s.putRing r { s.ring r with st := .disabled } else s

def execRingStopped (ring : Nat) (s : State) : Outcome := onUnit (ring < 16384) (opRingStopped ring) s

/-! ### Submission entries (R370, R371, R372, R382) -/

/-- Index of the next entry that a ring reads. -/
def Ring.nextIx (x : Ring) : Nat := (x.sqHead + x.reading.length) % x.size

/-- A ring asks the upstream arbiter for an entry read: it is RUNNING, holds no completion, and an entry is ready (R370,
R376). -/
def Ring.asks (x : Ring) : Bool := x.st == .running && x.held.isEmpty && x.nextIx != x.sqTail

/-- Local rings of a function that ask for an entry read. -/
def State.ringsAsk (s : State) (f : Nat) : List Nat :=
  (List.range (s.fn f).ringCount).filter (fun i => (s.ring ((s.fn f).ringFirst + i)).asks)

/-- The upstream arbiter serves local ring `i` of function `f` next: round-robin over the functions, and over the rings of
one (R20, R289, R370). -/
def State.ringTurn (s : State) (f i : Nat) : Bool :=
  rrTurn (tget s.arb 8) 64 ((List.range 64).filter (fun g => !(s.ringsAsk g).isEmpty)) f
  && rrTurn (tget s.arb (64 + f)) 2048 (s.ringsAsk f) i

/-- RING_ENTRY_READ. -/
def opRingEntryRead (r : Nat) (s0 : State) : State :=
  match s0.ringOwner r with
  | none => s0
  | some f =>
    let x := s0.ring r
    let i := r - (s0.fn f).ringFirst
    if !x.asks || !s0.domOn 52 || !s0.ringTurn f i then s0
    else
      let s := { s0 with arb := tset (tset s0.arb 8 ((f + 1) % 64)) (64 + f) ((i + 1) % 2048) }
      if !s.hostOk f (x.sqBase + 64 * x.nextIx) 64 then s.ringError r stWindow
      else
      let h : HRead := {
        tag := s.host.nextTag, func := f, ring := r, addr := x.sqBase + 64 * x.nextIx, since := s.clk.dcount
        sent := s.hostOpen f }
      let s1 := s.putRing r { x with reading := x.reading ++ [h.tag] }
      let s2 := { s1 with host := { s1.host with reads := s1.host.reads ++ [h], nextTag := s1.host.nextTag + 1 } }
      if h.sent then s2.emit (.hostRead f h.addr 64 h.tag) else s2

def execRingEntryRead (ring : Nat) (s : State) : Outcome := onUnit (ring < 16384) (opRingEntryRead ring) s

/-- Argument bytes of a command, first and last, by opcode; none for an opcode that no command has (R372, R395, R401,
R406). -/
def commandArgs (opc : Nat) : Option (List (Nat × Nat)) :=
  match opc with
  | 0x01 => some [(8, 20), (21, 21)]
  | 0x02 => some [(8, 13)]
  | 0x03 => some [(8, 20)]
  | 0x04 => some [(8, 11)]
  | 0x05 => some [(8, 11), (16, 23)]
  | 0x10 => some [(8, 23)]
  | 0x11 => some [(8, 9)]
  | 0x12 => some [(8, 15)]
  | 0x13 => some [(8, 11)]
  | 0x20 => some [(8, 11), (16, 27), (32, 42)]
  | 0x21 => some [(8, 14), (16, 23)]
  | 0x22 => some [(8, 12)]
  | 0x23 => some [(8, 11)]
  | 0x24 => some [(8, 11)]
  | 0x25 => some [(8, 11)]
  | 0x26 => some [(8, 11)]
  | 0x27 => some [(8, 9), (16, 23)]
  | 0x28 => some [(8, 9)]
  | 0x30 => some [(8, 12), (16, 19)]
  | 0x31 => some [(8, 17), (20, 27), (32, 51)]
  | 0x32 => some [(8, 9)]
  | 0x33 => some [(8, 11), (16, 23)]
  | 0x34 => some [(8, 11)]
  | 0x60 => some [(8, 19)]
  | 0x62 => some [(8, 8)]
  | 0x63 => some [(8, 15)]
  | 0x64 => some [(8, 15)]
  | _ => none

/-- Every byte of an entry outside the header and the named arguments is 0. -/
def restZero (es : List Nat) (named : List (Nat × Nat)) : Bool :=
  (List.range 56).all (fun i => byteAt es (8 + i) == 0 || named.any (fun n => n.1 ≤ 8 + i && 8 + i ≤ n.2))

/-- An entry is accepted as a command: its opcode is one and its reserved bytes are 0 (R371, R372). -/
def commandOk (es : List Nat) : Bool :=
  byteAt es 2 == 0 && byteAt es 3 == 0 && match commandArgs (byteAt es 1) with
    | some named => restZero es named
    | none => false

/-- An entry is accepted as a request (R371). -/
def requestOk (es : List Nat) : Bool :=
  byteAt es 1 == 0 && byteAt es 2 < 4 && byteAt es 3 == 0 && restZero es [(8, 15)]

/-- A submission entry of ring `r` is taken up: handed to its unit, which a REQUEST wakes, or refused with PROTOCOL (R370, R371,
R372, R474). -/
def State.takeEntry (s : State) (f r : Nat) (es : List Nat) : State :=
  let x := s.ring r
  let s1 := (s.putRing r { x with sqHead := (x.sqHead + 1) % x.size }).bump 0x3501 (f + 1) 1
  let tag := fieldAt es 4 4
  if (byteAt es 0 == 1 && commandOk es) || (byteAt es 0 == 2 && requestOk es) then
    let s2 := (s1.putRing r { s1.ring r with inFlight := x.inFlight + 1 }).wakeDom (if byteAt es 0 == 2 then 61 else 63)
    { s2 with host := { s2.host with
      cmds := s2.host.cmds ++ [{ ring := r, tag := tag, func := f, entry := (List.range 64).map (byteAt es) }] } }
  else if byteAt es 0 == 2 then (s1.bump 0x3410 2 1).queueCpl r (cplBytes 2 stProtocol 0xFD tag 0 0 0)
  else s1.queueCpl r (cplBytes 1 stProtocol 0 tag 0 0 0)

/-- The oldest entry read of a ring has its 64 bytes: the entry is taken up. -/
def State.entryHead (s : State) (r : Nat) : State :=
  let x := s.ring r
  match x.reading with
  | [] => s
  | tag :: rest => match s.host.reads.find? (fun h => h.tag == tag) with
    | some { func := f, got := some es, .. } =>
      let s1 := s.putRing r { x with reading := rest }
      ({ s1 with host := { s1.host with reads := s1.host.reads.filter (fun h => h.tag != tag) } }).takeEntry f r es
    | _ => s

/-- A read of a ring returns with its 64 bytes: the entries are taken up in ring order, this one once those before it have
returned (R370). -/
def State.entryBack (s : State) (r tag : Nat) (es : List Nat) : State :=
  let s1 := { s with host := { s.host with
    reads := mapFirst (fun (h : HRead) => h.tag == tag && h.sent && h.got.isNone) (fun h => { h with got := some es }) s.host.reads } }
  (s1.ring r).reading.foldl (fun st _ => st.entryHead r) s1

/-- SUBMISSION_ENTRY: the oldest entry read of a ring returns. -/
def opSubmissionEntry (r : Nat) (es : List Nat) (s : State) : State :=
  match (s.ring r).reading with
  | [] => s
  | tag :: _ => s.entryBack r tag es

def execSubmissionEntry (ring : Nat) (entry : List Nat) (s : State) : Outcome :=
  onUnit (ring < 16384) (opSubmissionEntry ring entry) s

/-! ### Accesses to host memory (R360, R377, R382) -/

/-- A write to host memory has failed: so does what it serves (R360, R382). -/
def State.writeFails (s : State) (w : HWrite) (status : Nat) : State :=
  match w.who with
  | .cpl r => if (s.ring r).st == .running || (s.ring r).st == .stopping then s.ringError r status else s
  | .cmd q => s.complete q status 0
  | .token n => match tfind s.srv.entries n with
    | none => s
    | some e =>
      if e.st == .finishing then (if e.posted then s else s.putEntry n { e with code := 6, status := status })
      else if e.waits then s.failEntry n e status
      else s.putEntry n { e with bad := status }

/-- HOST_READ_RESPONSE. A good answer to a read of a ring is its entry; a bad one fails the ring with POISON. -/
def opHostReadResponse (tag : Nat) (ok : Bool) (data : List Nat) (s : State) : State :=
  match s.host.reads.find? (fun h => h.tag == tag && h.sent && h.got.isNone) with
  | none => s
  | some h =>
    if !ok then s.ringError h.ring stPoison else s.entryBack h.ring tag data

def execHostReadResponse (tag : Nat) (ok : Bool) (data : List Nat) (s : State) : Outcome :=
  .next (opHostReadResponse tag ok data s)

/-- An outstanding access has gone without an answer for HOST_READ_LIMIT. -/
def State.readLate (s : State) (since : Nat) : Bool := since + s.obj 0x2800 2 * 1000 ≤ s.clk.dcount

/-- HOST_READ_LIMIT_EXPIRY. -/
def opHostReadLimitExpiry (tag : Nat) (s : State) : State :=
  match s.host.reads.find? (fun h => h.tag == tag && h.got.isNone && s.readLate h.since) with
  | some h => s.ringError h.ring stTimeout
  | none => match takeFirst (fun (w : HWrite) => w.tag == tag && s.readLate w.since) s.host.writes with
    | some (w, rest) => ({ s with host := { s.host with writes := rest } }).writeFails w stTimeout
    | none => s

def execHostReadLimitExpiry (tag : Nat) (s : State) : Outcome := .next (opHostReadLimitExpiry tag s)

/-- The vector of a ring is raised, and its count and time start anew (R377). -/
def State.signal (s : State) (r : Nat) : State :=
  let x := s.ring r
  let s1 := s.putRing r { x with unsig := 0, unsigAt := none }
  match s.ringOwner r with
  | some f => s1.raiseVector f (bits x.ctrl 15 8)
  | none => s1

/-- The GO of a completion: with COAL_COUNT or COAL_TIME 0, or when the count is reached, the vector is raised (R377). -/
def State.cplGo (s : State) (r : Nat) : State :=
  let x := s.ring r
  let n := x.unsig + 1
  let s1 := s.putRing r { x with
    unsig := n
    unsigAt := some (x.unsigAt.getD s.clk.dcount) }
  if bits x.ctrl 23 16 ≤ n || bits x.ctrl 39 24 == 0 then s1.signal r else s1

/-- HOST_WRITE_GO. A write that the host refuses fails with POISON (R360). -/
def opHostWriteGo (tag : Nat) (ok : Bool) (s : State) : State :=
  match takeFirst (fun (w : HWrite) => w.tag == tag && w.sent) s.host.writes with
  | none => s
  | some (w, rest) =>
    let s1 := { s with host := { s.host with writes := rest } }
    if !ok then s1.writeFails w stPoison
    else match w.who with
      | .cpl r => s1.cplGo r
      | .cmd q => s1.complete q stOk 0
      | .token _ => s1

def execHostWriteGo (tag : Nat) (ok : Bool) (s : State) : Outcome := .next (opHostWriteGo tag ok s)

/-- Accesses that waited for the link or the bus-master enable go out (R382). -/
def State.flushHost (s : State) : State :=
  let rs := s.host.reads.filter (fun h => !h.sent && s.hostOpen h.func)
  let ws := s.host.writes.filter (fun w => !w.sent && s.hostOpen w.func)
  let s1 := { s with host := { s.host with
    reads := s.host.reads.map (fun h => { h with sent := h.sent || s.hostOpen h.func })
    writes := s.host.writes.map (fun w => { w with sent := w.sent || s.hostOpen w.func }) } }
  let s2 := rs.foldl (fun st h => st.emit (.hostRead h.func h.addr 64 h.tag)) s1
  ws.foldl (fun st w => st.emit (match w.who with
    | .cpl r => .completion r w.data
    | _ => .hostWrite w.func w.addr w.data)) s2

/-! ### Completions and vectors (R373, R375 to R377) -/

/-- A completion must wait for the GO of an earlier write of its request (R375). -/
def State.cplBlocked (s : State) (data : List Nat) : Bool :=
  byteAt data 0 == 2 && byteAt data 2 != 0xFD && s.host.writes.any (fun w => w.who == .token (fieldAt data 20 2))

/-- COMPLETION_WRITE: the next completion goes out, or stays held while the ring is full. -/
def opCompletionWrite (r : Nat) (s : State) : State :=
  match s.ringOwner r with
  | none => s
  | some f =>
    let x := s.ring r
    match x.toWrite with
    | [] => s
    | c :: rest =>
      if (x.st != .running && x.st != .stopping) || x.room == 0 || s.cplBlocked c.data then s
      else
        let addr := x.cqBase + 32 * x.cqTail
        if !s.hostOk f addr 32 then s.ringError r stWindow
        else
          let data := c.data.take 3 ++ [if x.phase then 1 else 0] ++ c.data.drop 4
          let tail := (x.cqTail + 1) % x.size
          let s1 := s.putRing r { x with
            toWrite := rest
            cqTail := tail
            phase := if tail == 0 then !x.phase else x.phase }
          let w : HWrite := {
            tag := s1.host.nextTag, func := f, who := .cpl r, addr := addr, data := data, since := s.clk.dcount
            sent := s.hostOpen f }
          let s2 := { s1 with host := { s1.host with writes := s1.host.writes ++ [w], nextTag := s1.host.nextTag + 1 } }
          let s3 := s2.bump 0x3502 (f + 1) 1
          if w.sent then s3.emit (.completion r data) else s3

def execCompletionWrite (ring : Nat) (s : State) : Outcome := onUnit (ring < 16384) (opCompletionWrite ring) s

/-- CQ_STALL_EXPIRY: the oldest held completion has waited longer than CQ_STALL_LIMIT. -/
def opCqStallExpiry (r : Nat) (s : State) : State :=
  match (s.ring r).held, s.ringOwner r with
  | c :: _, some f => if c.since + s.obj 0x2800 3 * 1000 < s.clk.dcount then s.raiseCause f 0 1 else s
  | _, _ => s

def execCqStallExpiry (ring : Nat) (s : State) : Outcome := onUnit (ring < 16384) (opCqStallExpiry ring) s

/-- COAL_TIME_EXPIRY. -/
def opCoalTimeExpiry (r : Nat) (s : State) : State :=
  match (s.ring r).unsigAt with
  | some t => if t + bits (s.ring r).ctrl 39 24 * 1000 ≤ s.clk.dcount then s.signal r else s
  | none => s

def execCoalTimeExpiry (ring : Nat) (s : State) : Outcome := onUnit (ring < 16384) (opCoalTimeExpiry ring) s

/-- MSIX_PENDING_SEND. -/
def opMsixPendingSend (f v : Nat) (s : State) : State :=
  let k := f * 256 + v
  if tget s.host.pba k && tget s.host.msixEn f && !tget s.host.fnMask f && !(tgetD s.host.msix k {}).masked then
    ({ s with host := { s.host with pba := tset s.host.pba k false } }).emit (.msix f v)
  else s

def execMsixPendingSend (func vector : Nat) (s : State) : Outcome :=
  onUnit (func < 64 && vector < 256) (opMsixPendingSend func vector) s

/-! ### What a ring page reads (R366, R368) -/

/-- STATE of RING_STATUS. -/
def RingSt.code : RingSt → Nat
  | .disabled => 0 | .running => 1 | .error => 2 | .stopping => 3

/-- RING_STATUS (R368). -/
def Ring.status (x : Ring) : Nat :=
  x.cqTail * 2 ^ 48 + min 255 x.held.length * 2 ^ 32 + x.sqHead * 2 ^ 16 + x.err * 2 ^ 8 + x.st.code

/-- FIRST_RING: the lowest local ring in ERROR or with HELD not 0 (R378). -/
def State.firstRing (s : State) (f : Nat) : Nat :=
  ((List.range (s.fn f).ringCount).find? (fun i =>
    let x := s.ring ((s.fn f).ringFirst + i)
    x.st == .error || !x.held.isEmpty)).getD 0xFFFF

end Sys2Proof.Machine
end

