-- ==== Sys2Proof/Machine/HostPort.lean ====
section
/-!
DEFINITION. The host port beside the rings: the function table, HDM windows, resets of functions, the link, and
configuration requests (R354 to R365, R381, R382, R394, R400).
-/
namespace Sys2Proof.Machine

/-! ### The function table (R358, R394) -/

/-- Object under which refused writes of the function table and of HDM windows are logged. -/
def hostPortObject : Nat := objKey 0x2800 0

/-- A provider write to provider control; one to a locked function's entry is ignored and logged (R394). -/
def State.provWrite (s : State) (f : Nat) (act : State) : State :=
  s.mmio 0 0 (if tget s.trust.locked f then s.logErr hostPortObject stProtocol f 0 0 else act)

/-- The state with a function's entry replaced. -/
def State.putFn (s : State) (f : Nat) (e : FnEnt) : State := { s with host := { s.host with fns := tset s.host.fns f e } }

/-- Ring ranges of two functions overlap (R358). -/
def ringsMeet (a m b n : Nat) : Bool := m != 0 && n != 0 && a < b + n && b < a + m

/-- RING_FIRST and RING_COUNT may take these values (R358). -/
def State.ringRangeOk (s : State) (f first count : Nat) : Bool :=
  (List.range (s.fn f).ringCount).all (fun i => (s.ring ((s.fn f).ringFirst + i)).st == .disabled)
  && count ≤ 2048 && first + count ≤ 16384
  && (List.range 64).all (fun g => g == f || !ringsMeet first count (s.fn g).ringFirst (s.fn g).ringCount)

/-- RING_RANGE_WRITE. -/
def opRingRangeWrite (f first count : Nat) (s : State) : State := s.provWrite f <|
  if s.ringRangeOk f first count then s.putFn f { s.fn f with ringFirst := first, ringCount := count }
  else s.logErr hostPortObject stProtocol f 0 (first + count * 65536)

def execRingRangeWrite (func first count : Nat) (s : State) : Outcome := onUnit (func < 64) (opRingRangeWrite func first count) s

/-- VECTORS may take this value: no vector in use lies at or above it (R358). -/
def State.vectorsOk (s : State) (f v : Nat) : Bool :=
  v ≤ 256 && (!bitOf (tget s.host.ssrVec f) 8 || tget s.host.ssrVec f % 256 < v)
  && (List.range (s.fn f).ringCount).all (fun i =>
    let x := s.ring ((s.fn f).ringFirst + i)
    (x.st != .running && x.st != .stopping) || bits x.ctrl 15 8 < v)

/-- VECTORS_WRITE. -/
def opVectorsWrite (f v : Nat) (s : State) : State := s.provWrite f <|
  if s.vectorsOk f v then s.putFn f { s.fn f with vectors := v } else s.logErr hostPortObject stProtocol f 0 v

def execVectorsWrite (func vectors : Nat) (s : State) : Outcome := onUnit (func < 64) (opVectorsWrite func vectors) s

/-! ### HDM windows (R362, R363, R400) -/

/-- The state with an HDM window entry replaced. -/
def State.putWin (s : State) (w : Nat) (e : HdmWin) : State := { s with host := { s.host with wins := tset s.host.wins w e } }

/-- Two DPA ranges overlap. -/
def HdmMap.meets (a b : HdmMap) : Bool := a.len != 0 && b.len != 0 && a.dpa < b.dpa + b.len && b.dpa < a.dpa + a.len

/-- Function `f` allows windows without TEE (R400). -/
def State.hostClear (s : State) (f : Nat) : Bool := match tget s.trust.keys f with | some k => bitOf k.tflags 0 | none => false

/-- A window entry is accepted (R363, R400). -/
def State.winOk (s : State) (w : Nat) (m : HdmMap) : Bool :=
  m.len == 0 || (m.dpa % 65536 == 0 && m.len % 65536 == 0 && m.dev % 65536 == 0 && 1 ≤ m.func && m.func ≤ 63
    && m.dpa + m.len ≤ 2 ^ 44 && m.dev / 2 ^ 46 == m.func && (m.dev + m.len - 1) / 2 ^ 46 == m.func
    && s.host.wins.all (fun e => e.1 == w || (!m.meets e.2.now && !m.meets (e.2.next.getD {})))
    && (bitOf m.flags 1 || s.hostClear m.func))

/-- Lines that the host holds of the range in effect of a window. -/
def State.winLines (s : State) (w : Nat) : List Nat :=
  let now := (tget s.host.wins w).now
  if now.len == 0 then [] else s.hostLines now.dev now.len

/-- Lines are recalled from the host: each leaves its snoop filter with a BISnpInv and awaits its BIRsp (R365). -/
def State.recall (s : State) (lines : List Nat) : State :=
  let s1 := { s with host := { s.host with
    snoop := tmap s.host.snoop (fun _ q => q.filter (fun l => !lines.contains l)), bi := s.host.bi ++ lines } }
  lines.foldl (fun st l => (st.emit (.cxl "BISnpInv" [l])).bump 0x3504 3 1) s1

/-- A window changes to `m`: the host-held lines of its old range are recalled, and the window is BUSY until they are
(R363, R365). -/
def State.changeWin (s : State) (w : Nat) (m : HdmMap) : State :=
  let e := tget s.host.wins w
  (s.putWin w { e with reg := { e.reg with len := m.len }, next := some m }).recall (s.winLines w)

/-- A provider write to a window entry; one with a locked function in FUNC is ignored and logged (R394). -/
def State.winWrite (s : State) (w : Nat) (act : State) : State :=
  let e := tget s.host.wins w
  s.provWrite e.reg.func (if e.now.len != 0 && tget s.trust.locked e.now.func then
    s.logErr hostPortObject stProtocol e.now.func 0 w else act)

/-- HDM_WINDOW_WRITE: a refused entry reads LENGTH 0 and maps nothing. -/
def opHdmWindowWrite (w len : Nat) (s : State) : State := s.winWrite w <|
  let m := { (tget s.host.wins w).reg with len := len }
  if s.winOk w m then s.changeWin w m else (s.changeWin w { m with len := 0 }).logErr hostPortObject stProtocol m.func 0 w

def execHdmWindowWrite (window length : Nat) (s : State) : Outcome := onUnit (window < 256) (opHdmWindowWrite window length) s

/-- HDM_INVALIDATE_DONE: no line of the old range awaits a BIRsp any more. Lines that the host has read again while the
window was BUSY are recalled first. -/
def opHdmInvalidateDone (w : Nat) (s : State) : State :=
  let e := tget s.host.wins w
  match e.next with
  | none => s
  | some m =>
    let again := s.winLines w
    if !again.isEmpty then s.recall again
    else if s.host.bi.any (fun l => e.now.len != 0 && e.now.dev / 64 ≤ l && l < (e.now.dev + e.now.len) / 64) then s
    else (s.putWin w { e with now := m, next := none }).serveWaits

def execHdmInvalidateDone (window : Nat) (s : State) : Outcome := onUnit (window < 256) (opHdmInvalidateDone window) s

/-! ### Host CXL.mem accesses and snoops (R359, R364, R365) -/

/-- HOST_MEM_READ. -/
def opHostMemRead (dpa : Nat) (tee cache : Bool) (tag : Nat) (s : State) : State :=
  if s.portUp then
    s.hostAccess { dpa := dpa, write := false, tee := tee, cache := cache, tag := tag, data := [], since := s.clk.dcount }
  else s

def execHostMemRead (dpa : Nat) (tee cache : Bool) (tag : Nat) (s : State) : Outcome := .next (opHostMemRead dpa tee cache tag s)

/-- HOST_MEM_WRITE. -/
def opHostMemWrite (dpa : Nat) (data : List Nat) (tee : Bool) (tag : Nat) (s : State) : State :=
  if s.portUp then
    s.hostAccess { dpa := dpa, write := true, tee := tee, cache := false, tag := tag, data := data, since := s.clk.dcount }
  else s

def execHostMemWrite (dpa : Nat) (data : List Nat) (tee : Bool) (tag : Nat) (s : State) : Outcome :=
  .next (opHostMemWrite dpa data tee tag s)

/-- BIRSP: the line is free; the host reads held on it proceed (R365). -/
def opBirsp (line : Nat) (s : State) : State :=
  ({ s with host := { s.host with bi := s.host.bi.filter (· != line) } }).serveWaits

def execBirsp (line : Nat) (s : State) : Outcome := .next (opBirsp line s)

/-- HOST_SNOOP. -/
def opHostSnoop (addr : Nat) (s : State) : State := if s.portUp then s.emit (.cxl "RspIHitI" [addr]) else s

def execHostSnoop (addr : Nat) (s : State) : Outcome := .next (opHostSnoop addr s)

/-! ### Resets of functions (R356, R381, R382) -/

/-- A command of a reset function completes with no completion written (R356). -/
def Req.void (f : Nat) (q : Req) : Req := if q.func == f then { q with ring := voidRing } else q

/-- The commands of a function that are still under way lose their ring. -/
def State.voidReqs (s : State) (f : Nat) : State :=
  let v := Req.void f
  { s with
    tier := { s.tier with
      moveCmds := tmap s.tier.moveCmds (fun _ c => { c with q := v c.q })
      frees := s.tier.frees.map (fun e => (e.1, e.2.map v)) }
    wgt := { s.wgt with models := tmap s.wgt.models (fun _ m =>
      { m with recs := m.recs.map (fun r => { r with q := v r.q, commits := r.commits.map v }) }) }
    srv := { s.srv with binds := tmap s.srv.binds (fun _ b => { b with serve := b.serve.map v, unserve := b.unserve.map v }) }
    trust := { s.trust with
      rollCmd := tmap s.trust.rollCmd (fun _ q => q.map v)
      endCmd := tmap s.trust.endCmd (fun _ qs => qs.map v) } }

/-- A bureau entry ends with no completion (R356). -/
def State.cutEntry (s : State) (n : Nat) (e : Entry) : State :=
  let s1 := (s.giveBack e).unpin e
  (s1.putSrv { s1.srv with entries := tdel s1.srv.entries n }).settleSlot e.slot

/-- A function's rings are DISABLED and read their reset values; SQ_BASE and CQ_BASE are open until written (R356). -/
def State.ringsOff (s : State) (f : Nat) : State :=
  (List.range (s.fn f).ringCount).foldl (fun st i =>
    let r := (s.fn f).ringFirst + i
    let n := (st.ring r).toWrite.length
    let open' := fun (k : Nat) => Config.freeNat (st.free + k) % 2 ^ 52 * 4096
    ((st.dropCpls r n).putRing r { sqBase := open' 0, cqBase := open' 1 }).ticks 2) s

/-- The registers and configuration of a function at their reset values (R356). -/
def State.resetRegs (s : State) (f : Nat) : State :=
  let h := s.host
  let s1 := { s with host := { h with
    cause := tfilter h.cause (fun k _ => k / 16 != f)
    mask := tfilter h.mask (fun k _ => k / 16 != f)
    ssrVec := tdel h.ssrVec f
    fdb := tdel h.fdb f
    msix := tfilter h.msix (fun k _ => k / 256 != f)
    pba := tfilter h.pba (fun k _ => k / 256 != f)
    msixEn := tdel h.msixEn f
    fnMask := tdel h.fnMask f
    memEn := tdel h.memEn f
    busM := tdel h.busM f } }
  if f == 0 then s1.updateAlert else s1

/-- A function level reset of one function (R356). -/
def State.resetFn (s : State) (f : Nat) : State :=
  let s1 := (s.ringsOff f).voidReqs f
  let h := s1.host
  let s2 := { s1 with host := { h with
    reads := h.reads.filter (fun x => x.func != f)
    writes := h.writes.filter (fun x => x.func != f)
    cmds := h.cmds.filter (fun x => x.func != f) } }
  let s3 := s2.putSrv { s2.srv with batches := tmap s2.srv.batches (fun _ b => if b.func == f then { b with members := [] } else b) }
  let s4 := (s3.srv.entries.filter (fun e => e.2.func == f)).foldl (fun st e => st.cutEntry e.1 e.2) s3
  (s4.endTasks (fun t => t.func == f) stGone).resetRegs f

/-- Functions that exist. -/
def State.fnList (s : State) : List Nat := (List.range 64).filter s.fnExists

/-- The virtual functions of a list are reset and the provider's SR-IOV capability takes a new setting (R356). -/
def State.setVfs (s : State) (en : Bool) (num : Nat) : State :=
  let gone := s.fnList.filter (fun f => f != 0 && !(en && f ≤ num))
  let s1 := gone.foldl State.resetFn s
  { s1 with host := { s1.host with vfEn := en, numVf := num } }

/-- VF_ENABLE_CHANGE. Virtual functions can be enabled only once the device serves (R464, R490). -/
def opVfEnableChange (en : Bool) (num : Nat) (s : State) : State :=
  if s.host.linkUp && s.serving then s.setVfs en (num % 65536) else s

def execVfEnableChange (enable : Bool) (numVfs : Nat) (s : State) : Outcome := .next (opVfEnableChange enable numVfs s)

/-- A reset of a function; that of the provider's takes its SR-IOV setting and with it every virtual function. -/
def State.flr (s : State) (f : Nat) : State := if f == 0 then (s.setVfs false 0).resetFn 0 else s.resetFn f

/-- FLR. -/
def opFlr (f : Nat) (s : State) : State := if s.fnExists f then s.flr f else s

def execFlr (func : Nat) (s : State) : Outcome := onUnit (func < 64) (opFlr func) s

/-- VIRAL: every function is reset, and rings stay DISABLED until a conventional reset (R381). -/
def opViral (s : State) : State :=
  let s1 := s.flr 0
  ({ s1 with host := { s1.host with viralHold := true } }).raiseCause 0 8 2

def execViral (s : State) : Outcome := .next (opViral s)

/-- CONVENTIONAL_RESET. -/
def opConventionalReset (s : State) : State :=
  let s1 := s.flr 0
  { s1 with host := { s1.host with viralHold := false } }

def execConventionalReset (s : State) : Outcome := .next (opConventionalReset s)

/-! ### The upstream link and configuration space (R354, R355, R382, R490, R521) -/

/-- HOST_LINK_TRAINED. -/
def opHostLinkTrained (rate width : Nat) (s : State) : State :=
  if s.clk.phase == .off then s
  else
    let s1 := ({ s with host := { s.host with linkUp := true, rate := rate, width := width } }).putObj 0x2800 1 (rate % 256 * 256 + width % 256)
    let s2 := if rate < 64 || width < 16 then (s1.logErr (objKey 0x2800 1) stOk 0 0 (rate * 256 + width)).raiseCause 0 8 1 else s1
    s2.flushHost

def execHostLinkTrained (rate width : Nat) (s : State) : Outcome := .next (opHostLinkTrained rate width s)

/-- HOST_LINK_DOWN. -/
def opHostLinkDown (s : State) : State :=
  if !s.host.linkUp then s
  else
    let s1 := s.flr 0
    ({ s1 with host := { s1.host with linkUp := false } }).raiseCause 0 8 1

def execHostLinkDown (s : State) : Outcome := .next (opHostLinkDown s)

/-- BUS_MASTER_CLEAR. -/
def opBusMasterClear (f : Nat) (s : State) : State := { s with host := { s.host with busM := tset s.host.busM f false } }

def execBusMasterClear (func : Nat) (s : State) : Outcome := onUnit (func < 64) (opBusMasterClear func) s

/-- UNSUPPORTED_REQUEST. -/
def opUnsupportedRequest (f bar : Nat) (s : State) : State := if s.barServed f bar then s else s.unsupported f bar

def execUnsupportedRequest (func bar : Nat) (s : State) : Outcome := .next (opUnsupportedRequest func bar s)

/-- A bit as 0 or 1. -/
def bit01 (b : Bool) : Nat := if b then 1 else 0

/-- Value of a configuration register that the model holds (R354, R377, R382). -/
def State.cfgRead (s : State) (f : Nat) (r : CfgReg) : Nat :=
  match r with
  | .command => bit01 (tget s.host.memEn f) * 2 + bit01 (tget s.host.busM f) * 4
  | .msix => bit01 (tget s.host.msixEn f) * 2 ^ 15 + bit01 (tget s.host.fnMask f) * 2 ^ 14 + 255
  | .other o => Config.freeNat (s.free + o)

/-- A write of a configuration register. -/
def State.cfgWrite (s : State) (f : Nat) (r : CfgReg) (v : Nat) : State :=
  match r with
  | .command => ({ s with host := { s.host with
      memEn := tset s.host.memEn f (bitOf v 1), busM := tset s.host.busM f (bitOf v 2) } }).flushHost
  | .msix => { s with host := { s.host with
      msixEn := tset s.host.msixEn f (bitOf v 15), fnMask := tset s.host.fnMask f (bitOf v 14) } }
  | .other _ => s

/-- CONFIGURATION_REQUEST: Retry Status until start-up ends; configuration space is served in HOLD and BOOT_WAIT too
(R464, R492). -/
def opConfigurationRequest (f : Nat) (r : CfgReg) (w : Option Nat) (s : State) : State :=
  if !s.host.linkUp then s
  else if s.clk.phase == .starting then s.emit (.cxl "RetryStatus" [f])
  else if !s.fnExists f then s.emit (.cxl "UR" [f])
  else match w with
    | some v => (s.cfgWrite f r v).emit (.cxl "Cpl" [f])
    | none => (s.emit (.cxl "CplD" [f, s.cfgRead f r])).tick

def execConfigurationRequest (func : Nat) (reg : CfgReg) (write : Option Nat) (s : State) : Outcome :=
  onUnit (func < 64) (opConfigurationRequest func reg write) s

/-! ### Cause registers (R378 to R380) -/

/-- Defined bits of a group's CAUSE and MASK in a function's block; none where the group does not exist there (R379). -/
def causeBits (f g : Nat) : Option Nat :=
  if f != 0 && 8 ≤ g then none
  else match g with
    | 0 => some 7 | 1 => some 15 | 2 => some 3 | 3 => some 3
    | 8 => some 7 | 9 => some 15 | 10 => some 3 | 11 => some 3 | 12 => some 3
    | _ => none

/-- CAUSE_WRITE: write-1-to-clear. -/
def opCauseWrite (f g v : Nat) (s : State) : State := s.mmio f 0 <|
  match causeBits f g with
  | none => s.violation f
  | some _ =>
    let k := f * 16 + g
    let s1 := { s with host := { s.host with cause := tset s.host.cause k (andNot (tget s.host.cause k) v) } }
    if f == 0 then s1.updateAlert else s1

def execCauseWrite (func group value : Nat) (s : State) : Outcome := onUnit (func < 64) (opCauseWrite func group value) s

end Sys2Proof.Machine
end

