-- ==== Sys2Proof/Machine/Network.lean ====
section
/-!
DEFINITION. Tokens between bays: the panel networks and the carcass, segment by segment under credits (R48, R52, R53,
R81, R83). Nodes are the panel networks 0 to 7 and the port cells, 16 + bay × 120 + site.
-/
namespace Sys2Proof.Machine

/-- Tokens that a segment holds before its sender has no credit left: the 8 of every lane of the fabric (R46, R48). -/
def segmentCredits : Nat := 8

/-- The node of a port cell. -/
def portNode (b site : Nat) : Nat := 16 + siteKey b site

/-- The segments from one port cell to another, in order: into the panel network, through the panels of the carcass
route, and out to the port cell (R52, R53). -/
def segments (b site b2 site2 : Nat) : List (Nat × Nat) :=
  let nodes := [portNode b site] ++ panelPath (b / 4) (b2 / 4) ++ [portNode b2 site2]
  nodes.zip (nodes.drop 1)

/-- Tokens of the kind of `f` that have crossed a segment and wait behind it. -/
def State.behind (s : State) (seg : Nat × Nat) (isData : Bool) : Nat :=
  (s.net.filter (fun f => f.here == seg && f.data.isSome == isData)).length

/-- A segment can be crossed: its receiver has room, and the panels at its ends are in service (R48, R494). -/
def State.segmentOpen (s : State) (seg : Nat × Nat) (isData : Bool) : Bool :=
  s.behind seg isData < segmentCredits && (16 ≤ seg.1 || s.partUp (32 + seg.1)) && (16 ≤ seg.2 || s.partUp (32 + seg.2))

/-- The input lane of the destination port cell has credit for a token. -/
def State.landing (s : State) (f : Flit) : Bool :=
  if f.data.isSome then ((s.site f.bay f.site).dchan f.lane).cred != 0 else ((s.site f.bay f.site).cchan f.lane).cred != 0

/-- A token leaves the network towards the queue of the destination port cell. -/
def State.land (s : State) (f : Flit) : State :=
  let y := s.site f.bay f.site
  match f.data, f.ctl with
  | some t, _ => s.putSite f.bay f.site (y.putD f.lane ((y.dchan f.lane).send true t))
  | none, some t => s.putSite f.bay f.site (y.putC f.lane ((y.cchan f.lane).send true t))
  | none, none => s

/-- The first token that can go on goes on by one segment, or lands; none where no token can (R48). `done` are the tokens
ahead of it, which keep their places. -/
def State.netStep (s : State) : List Flit → List Flit → Option State
  | _, [] => none
  | ahead, f :: r =>
    let blocked := ahead.any (fun g => g.here == f.here && g.data.isSome == f.data.isSome)
    match f.ahead with
    | [] =>
      if !blocked && s.landing f then some (({ s with net := ahead ++ r } : State).land f) else s.netStep (ahead ++ [f]) r
    | seg :: rest =>
      if !blocked && s.segmentOpen seg f.data.isSome then
        some { s with net := ahead ++ r ++ [{ f with here := seg, ahead := rest }] }
      else s.netStep (ahead ++ [f]) r

/-- Every token goes on as far as credits allow (fuel: moves). -/
def State.netRun (s : State) : Nat → State
  | 0 => s
  | n + 1 => match s.netStep [] s.net with
    | none => s
    | some s1 => s1.netRun n

/-- The network settles: a token makes at most eight moves. -/
def State.netSettle (s : State) : State := s.netRun (8 * s.net.length)

/-- A port cell hands a token to the panel network; none where the cross-bay route leads to no bay or the network has
no room (R48, R81, R83). -/
def State.netPut (s : State) (b site lane ctx : Nat) (data : Option DTok) (ctl : Option CTok) : Option State :=
  let d := s.drawer b ctx
  match d.crossAt site lane with
  | none => none
  | some (off, n, i) =>
    match segments b site (d.b0 + off) n with
    | [] => none
    | seg :: rest =>
      if 32 ≤ d.b0 + off || !s.segmentOpen seg data.isSome then none
      else some (({ s with net := s.net ++ [{
        here := seg, ahead := rest, bay := d.b0 + off, site := n, lane := i, data := data, ctl := ctl }] } : State).netSettle)

/-- Tokens on their way to a bay, or still before its port cells, are dropped with it (R21, R494). -/
def State.netDrop (s : State) (b : Nat) : State :=
  { s with net := s.net.filter (fun f => !(f.bay == b || (16 ≤ f.here.1 && (f.here.1 - 16) / 120 == b))) }

end Sys2Proof.Machine
end

