-- ==== Sys2Proof/Machine/Escutcheon.lean ====
section
/-!
DEFINITION. The escutcheon: key delivery, the end of a tenancy, debug, attestation and the configuration lock (R385 to
R407).
-/
namespace Sys2Proof.Machine

/-- The state with the escutcheon's part replaced. -/
def State.putTrust (s : State) (t : Trust) : State := { s with trust := t }

/-! ### KEY_LOAD (R395, R396, R403) -/

/-- Current epoch of a function (R396, R401). -/
def State.epochOf (s : State) (f : Nat) : Nat := tget s.trust.epoch f

/-- A roll of a function runs (R403). -/
def State.rolling (s : State) (f : Nat) : Bool := (tget s.trust.old f).isSome

/-- A zeroisation or TENANT_END of a function is accepted in this iclk (R402). -/
def State.zeroedNow (s : State) (f : Nat) : Bool := tget s.trust.zeroAt f == some s.iclkNow

/-- The second row of R396: the plain fields of the bundle. A zeroisation of the same iclk leaves ROLL as it was required before
it (R402). -/
def State.bundleOk (s : State) (f : Nat) (b : List Nat) : Bool :=
  fieldAt b 0 4 == 0x4B424851 && fieldAt b 4 2 == 1 && byteAt b 6 == f && 1 ≤ f && byteAt b 7 < 2
  && fieldAt b 8 4 == (s.epochOf f + 1) % 2 ^ 32 && fieldAt b 12 16 == s.trust.serial
  && rsvZero b 28 4 && rsvZero b 88 8 && (s.zeroedNow f || bitOf (byteAt b 7) 0 == s.keyed f)

/-- The payload fields are in range (R395). -/
def payloadOk (p : List Nat) : Bool :=
  byteAt p 112 ≤ 8 && byteAt p 113 < 4 && 1 ≤ fieldAt p 114 2 && rsvZero p 116 4 && rsvZero p 576 64

/-- The key set of a payload (R395). -/
def keySetOf (p : List Nat) (epoch : Nat) : KeySet :=
  { xts := fieldAt p 0 64, tag := fieldAt p 64 32, tenant := fieldAt p 96 16
    owners := (List.range (byteAt p 112)).map (fun i => fieldAt p (120 + 57 * i) 57)
    tflags := byteAt p 113, alarm := fieldAt p 114 2, epoch := epoch }

/-- The status of a KEY_LOAD by the rows of R396, and the bundle's address and its read before them (R361, R382). -/
def State.keyLoadStatus (s : State) (q : Req) (addr len hostStatus : Nat) (bundle : List Nat) (tagOk : Bool) (payload : List Nat) : Nat :=
  if s.trust.noId || s.trust.opened || len != 752 then stProtocol
  else if !s.hostOk q.func addr 752 then stWindow
  else if hostStatus != stOk then statusOf hostStatus
  else if !s.bundleOk q.func bundle then stProtocol
  else if !tagOk then stDigest
  else if !payloadOk payload then stProtocol
  else if s.rolling q.func then stProtocol
  else stOk

/-- Windows of a function whose acceptance HOST_CLEAR allowed are cleared (R400). -/
def State.clearWindows (s : State) (f : Nat) : State :=
  (s.host.wins.map (fun e => e.1)).foldl (fun st w =>
    let e := tget st.host.wins w
    let hit := fun (m : HdmMap) => m.len != 0 && m.func == f && !bitOf m.flags 1
    if hit (e.next.getD e.now) then st.changeWin w { e.reg with len := 0 } else st) s

/-- A key set is installed: the first of a tenancy at once, one over another beside it; with a zeroisation of the same iclk none,
and the bundle is spent (R392, R396, R402, R403). -/
def State.installKeys (s : State) (q : Req) (k : KeySet) : State :=
  let f := q.func
  let s0 := s.putTrust { s.trust with epoch := tset s.trust.epoch f k.epoch }
  let s1 := s0.bump 0x3600 1 1
  if s.zeroedNow f then s0.complete q stGone 0
  else match tget s.trust.keys f with
  | none =>
    (s1.putTrust { s1.trust with
      keys := tset s1.trust.keys f (some k)
      layoutLog := tset s1.trust.layoutLog f 0
      manifestLog := tset s1.trust.manifestLog f 0 }).complete q stOk k.epoch
  | some o =>
    let s2 := s1.putTrust { s1.trust with
      keys := tset s1.trust.keys f (some k)
      old := tset s1.trust.old f (some o)
      rollCmd := tset s1.trust.rollCmd f (some q) }
    if bitOf k.tflags 0 then s2 else s2.clearWindows f

/-- KEY_LOAD. -/
def opKeyLoad (q : Req) (addr len hostStatus : Nat) (bundle : List Nat) (tagOk : Bool) (payload : List Nat) (s : State) : State :=
  s.unitCmd 104 q <|
  let st := s.keyLoadStatus q addr len hostStatus bundle tagOk payload
  let s1 := if st == stWindow then s.raiseCause q.func 1 0 else s
  if st == stOk then s1.installKeys q (keySetOf payload (fieldAt bundle 8 4))
  else if st == stDigest then (s1.bump 0x3600 2 1).complete q st 0
  else s1.complete q st 0

def execKeyLoad (q : Req) (addr len hostStatus : Nat) (bundle : List Nat) (tagOk : Bool) (payload : List Nat) (s : State) :
    Outcome := onUnit (q.func < 64) (opKeyLoad q addr len hostStatus bundle tagOk payload) s

/-- A tier group or port recalibrates, which holds a roll (R498, R501 note h). -/
def State.recalibrating (s : State) : Bool := (List.range 12).any (fun i => s.obj 0x2012 (40 + i + 1) == 4)

/-- The words of a function's LIVE and DAMAGED objects that a roll re-encrypts. -/
def State.rolls (s : State) (f w : Nat) : Bool := (s.objOf (w / 2048)).any (fun o => o.owner == f) && !(s.leaf (w / 2048)).lost

/-- The roll reads the words of a function's tiles, those named by `tagBad` failing their tag on both reads, and writes them
under the new set: those that answer POISON with the poison mark (R239, R398, R403). -/
def State.rollWords (s : State) (f : Nat) (tagBad : List Nat) : State :=
  let sick := (dedup' (s.tier.poison.map (fun e => e.1) ++ s.code.bad.map (fun e => e.1) ++ s.code.flips.map (fun e => e.1))).filter
    (fun w => s.rolls f w && s.sick w)
  let (bad, s1) := State.readWords sick s
  let s2 := ((dedup' tagBad).filter (fun w => s.rolls f w && !bad.contains w)).foldl State.tagLost s1
  let done := sick.filter (fun w => !bad.contains w)
  { s2 with code := { s2.code with flips := s2.code.flips.filter (fun e => !done.contains e.1) } }

/-- KEY_ROLL_DONE. A tag alarm of the roll's own reads may zeroise the function, which ends the roll. -/
def opKeyRollDone (f : Nat) (tagBad : List Nat) (s : State) : State :=
  if (tget s.trust.rollCmd f).isNone || s.recalibrating then s
  else
    let s1 := s.rollWords f tagBad
    match tget s1.trust.rollCmd f with
    | none => s1
    | some q =>
      (s1.putTrust { s1.trust with old := tset s1.trust.old f none, rollCmd := tset s1.trust.rollCmd f none }).complete q stOk
        (s1.epochOf f)

def execKeyRollDone (func : Nat) (tagBad : List Nat) (s : State) : Outcome := onUnit (func < 64) (opKeyRollDone func tagBad) s

/-! ### TENANT_END (R401) -/

/-- Every object of some functions begins to be freed. -/
def State.freeParts (s : State) (p : Nat → Bool) : State :=
  (s.tier.objs.filter (fun e => p e.2.owner && (e.2.st == .live || e.2.st == .damaged))).foldl (fun st e =>
    st.beginFree e.1 e.2 none) s

/-- A function's slots, pools and layouts are released. -/
def State.releaseAll (s : State) (f : Nat) : State :=
  let mine := (s.wgt.models.filter (fun e => e.2.func == f)).map (fun e => e.2.slot)
  let s1 := (dedup' mine).foldl State.dropSlot s
  let s2 := s1.putSrv { s1.srv with
    pools := tdel s1.srv.pools f
    binds := tfilter s1.srv.binds (fun _ b => b.func != f) }
  let s3 := { s2 with jig := { s2.jig with
    pools := tdel s2.jig.pools f
    layouts := tmap s2.jig.layouts (fun _ l => if l.func == f then { l with gone := true } else l) } }
  s3.reapLayouts

/-- TENANT_END. -/
def opTenantEnd (q : Req) (f : Nat) (s : State) : State := s.unitCmd 104 q <|
  if q.func != 0 || f == 0 || 63 < f then s.complete q stProtocol 0
  else
    let s0 := ((s.resetFn f).freeParts (· == f)).releaseAll f
    let s1 := if s0.keyed f then s0.zeroise f else s0
    let s2 := s1.putTrust { s1.trust with
      layoutLog := tset s1.trust.layoutLog f 0
      manifestLog := tset s1.trust.manifestLog f 0
      locked := tset s1.trust.locked f false
      zeroAt := tset s1.trust.zeroAt f (some s1.iclkNow)
      endCmd := tset s1.trust.endCmd f (tget s1.trust.endCmd f ++ [q]) }
    s2.settleTenant f

def execTenantEnd (q : Req) (func : Nat) (s : State) : Outcome := .next (opTenantEnd q func s)

/-! ### Debug (R406, R407) -/

/-- DEBUG_NONCE: the command completes when the nonce's write has its GO. -/
def opDebugNonce (q : Req) (addr : Nat) (s : State) : State := s.unitCmd 104 q <|
  let st := worst (if q.func != 0 || addr % 32 != 0 then stProtocol else stOk) (if s.hostOk 0 addr 32 then stOk else stWindow)
  if st != stOk then (s.windowCause q.func st).complete q st 0
  else
    let n := (Config.freePayload s.free).toNat
    ((s.tick.putTrust { s.trust with nonces := s.trust.nonces ++ [n] }).hostWrite (.cmd q) 0 addr (leBytes n 32))

def execDebugNonce (q : Req) (addr : Nat) (s : State) : Outcome := .next (opDebugNonce q addr s)

/-- The five steps by which debug opens (R407): keys, objects, memories, the measurement, the scope. -/
def State.openDebug (s : State) (scope : Nat) : State :=
  let tenants := (List.range 64).filter (fun f => (tget s.trust.keys f).isSome)
  let s1 := (tenants.foldl State.zeroise s).endTasks (fun _ => true) stGone
  let s2 := s1.tier.moveCmds.foldl (fun st e => st.complete e.2.q stGone 0) s1
  let s3 := s2.tier.frees.foldl (fun st e => match e.2 with | some q => st.complete q stOk 0 | none => st) s2
  let s4 := (s3.trust.endCmd.flatMap (fun e => e.2)).foldl (fun st q => st.complete q stOk 0) s3
  let gone := fun (a : Acc) => if a.st == AccSt.done then a else { a with st := AccSt.done, status := stGone, data := [] }
  { s4 with
    mem := []
    sram := []
    drawers := []
    trust := { s4.trust with provKeys := false, provXts := 0, provTag := 0, opened := true, scope := scope, endCmd := [] }
    tier := { s4.tier with
      objs := [], leaf := [], poison := [], cache := [], walk := [], old := [], moveQ := [], moveCmds := [], frees := []
      accs := s4.tier.accs.map gone }
    code := { s4.code with bad := [], flips := [] }
    jig := { s4.jig with pools := [] }
    srv := { s4.srv with pools := [] } }

/-- What a debug token leads to (R407). -/
def State.tokenStatus (s : State) (serial nonce : Nat) (sigOk : Bool) : Nat :=
  if serial != s.trust.serial || !s.trust.nonces.contains nonce then stProtocol else if !sigOk then stDigest else stOk

/-- A token is presented: the status, and debug open where it verifies. -/
def State.presentToken (s : State) (serial nonce scope : Nat) (sigOk : Bool) : Nat × State :=
  let st := s.tokenStatus serial nonce sigOk
  if st != stOk then (st, s)
  else
    let s1 := s.putTrust { s.trust with nonces := s.trust.nonces.erase nonce }
    (stOk, ((s1.openDebug scope).serveWaits).bump 0x3600 3 1)

/-- DEBUG_UNLOCK. -/
def opDebugUnlock (q : Req) (addr serial nonce scope : Nat) (sigOk : Bool) (s : State) : State := s.unitCmd 104 q <|
  let st := worst (if q.func != 0 then stProtocol else stOk) (s.transStatus 0 addr 1)
  if st != stOk then (s.windowCause q.func st).complete q st 0
  else
    let (st', s1) := s.presentToken serial nonce scope sigOk
    s1.complete q st' 0

def execDebugUnlock (q : Req) (addr serial nonce scope : Nat) (sigOk : Bool) (s : State) : Outcome :=
  .next (opDebugUnlock q addr serial nonce scope sigOk s)

/-! ### SPDM (R388 to R391) -/

/-- An answer on a function's mailbox. -/
def State.spdm (s : State) (f : Nat) (what : String) (data : List Nat) : State := s.emit (.spdm f what data)

/-- A session of a function is open. -/
def State.hasSession (s : State) (f n : Nat) : Bool := s.trust.sessions.contains (n, f)

/-- KEY_EXCHANGE: a session, at most 4 per function and 64 per device; its number is open (R390). -/
def State.openSession (s : State) (f : Nat) : State :=
  let ses := s.trust.sessions
  match s.pickNo (ses.map (fun e => e.1)) 65536 with
  | none => s.spdm f "ERROR" []
  | some n =>
    if 4 ≤ (ses.filter (fun e => e.2 == f)).length || 64 ≤ ses.length then s.spdm f "ERROR" []
    else (((s.tick.putTrust { s.trust with sessions := ses ++ [(n, f)] }).bump 0x3600 4 1).spdm f "KEY_EXCHANGE_RSP" [n])

/-- The answer to a message that the device supports, an ERROR to any other. -/
def State.spdmAnswer (s : State) (f : Nat) : SpdmMsg → State
  | .version => s.spdm f "VERSION" [0x12, 0x13]
  | .capabilities other => if other then s.spdm f "ERROR" [] else s.spdm f "CAPABILITIES" []
  | .algorithms ours => if ours then s.spdm f "ALGORITHMS" [] else s.spdm f "ERROR" []
  | .digests => s.spdm f "DIGESTS" [0]
  | .certificate slot => if slot == 0 then s.spdm f "CERTIFICATE" ([0, 1, 2, 3] ++ s.trust.aliasCert) else s.spdm f "ERROR" []
  | .challenge n => s.spdm f "CHALLENGE_AUTH" [n]
  | .keyExchange => s.openSession f
  | .heartbeat n => if s.hasSession f n then s.spdm f "HEARTBEAT_ACK" [n] else s.spdm f "ERROR" []
  | .keyUpdate n => if s.hasSession f n then s.spdm f "KEY_UPDATE_ACK" [n] else s.spdm f "ERROR" []
  | .endSession n =>
    if s.hasSession f n then
      (s.putTrust { s.trust with sessions := s.trust.sessions.filter (· != (n, f)) }).spdm f "END_SESSION_ACK" [n]
    else s.spdm f "ERROR" []
  | .chunk => s.spdm f "CHUNK" []
  | .ideKm n => if f == 0 && s.hasSession 0 n then s.spdm f "IDE_KM" [n] else s.spdm f "ERROR" []
  | .other => s.spdm f "ERROR" []

/-- The mailbox of a function answers: its configuration space exists and is served. -/
def State.mailbox (s : State) (f : Nat) : Bool := s.host.linkUp && s.fnExists f && s.clk.phase != .off && s.clk.phase != .starting

/-- SPDM_REQUEST. -/
def opSpdmRequest (f version : Nat) (m : SpdmMsg) (s : State) : State :=
  if !s.mailbox f then s
  else if s.trust.noId then s.spdm f "ERROR" []
  else if m != .version && version != 0x12 && version != 0x13 then s.spdm f "ERROR" []
  else s.spdmAnswer f m

def execSpdmRequest (func version : Nat) (msg : SpdmMsg) (s : State) : Outcome :=
  onUnit (func < 64) (opSpdmRequest func version msg) s

/-- Measurement block 0x10: epoch, TENANT_ID, digest of the owner keys, FLAGS (R391). -/
def State.keyBlock (s : State) (f : Nat) : List Nat :=
  let k : KeySet := (tget s.trust.keys f).getD default
  leBytes (s.epochOf f) 4 ++ leBytes k.tenant 16 ++ shake256 (k.owners.flatMap (fun o => leBytes o 57)) 64 ++ [k.tflags]

/-- The blocks of a quote, each as its index and its bytes (R391). -/
def State.quote (s : State) (f : Nat) (own : Bool) : List (Nat × List Nat) :=
  (List.range 5).map (fun i => (i + 1, leBytes (tget s.trust.meas (i + 1)) 64)) ++ [(6, [bit01 s.trust.opened])]
  ++ if own then [(0x10, s.keyBlock f), (0x11, leBytes (tget s.trust.layoutLog f) 64), (0x12, leBytes (tget s.trust.manifestLog f) 64)]
    else []

/-- MEASUREMENTS. -/
def opMeasurements (f : Nat) (session : Option Nat) (nonce : Nat) (s : State) : State :=
  if !s.mailbox f then s
  else if s.trust.noId then s.spdm f "ERROR" []
  else
    let own := match session with | some n => s.hasSession f n | none => false
    if session.isSome && !own then s.spdm f "ERROR" []
    else s.spdm f "MEASUREMENTS" (nonce :: (s.quote f own).flatMap (fun b => b.1 :: b.2))

def execMeasurements (func : Nat) (session : Option Nat) (nonce : Nat) (s : State) : Outcome :=
  onUnit (func < 64) (opMeasurements func session nonce) s

/-! ### The configuration lock (R394) -/

/-- TSP_LOCK: the tenant of a function that holds a key set locks its configuration. -/
def opTspLock (f : Nat) (s : State) : State :=
  if s.mailbox f && 1 ≤ f && s.keyed f then s.putTrust { s.trust with locked := tset s.trust.locked f true } else s

def execTspLock (func : Nat) (s : State) : Outcome := onUnit (func < 64) (opTspLock func) s

/-- TSP_UNLOCK. -/
def opTspUnlock (f : Nat) (s : State) : State := s.putTrust { s.trust with locked := tset s.trust.locked f false }

def execTspUnlock (func : Nat) (s : State) : Outcome := onUnit (func < 64) (opTspUnlock func) s

/-- KEY_STATE (R408). -/
def State.keyState (s : State) (f : Nat) : Nat :=
  s.epochOf f + bit01 (tget s.trust.keys f).isSome * 2 ^ 32 + bit01 (s.rolling f) * 2 ^ 33 + bit01 (s.hostClear f) * 2 ^ 34
  + bit01 (tget s.trust.locked f) * 2 ^ 35

end Sys2Proof.Machine
end

