-- ==== Sys2Proof/Machine/SplineLinks.lean ====
section
/-!
DEFINITION. The spline links: frames, replays and credits (R414 to R421), the messages received (R422 to R431), bring-up,
keys, lanes, sleep and mapping out (R404, R413, R419, R434 to R440).
-/
namespace Sys2Proof.Machine

/-! ### Requests that end (R428) -/

/-- A request that this device has sent is open no more. The access of a bay that has left since goes with it (R495). -/
def State.closeReq (s : State) (r : LReq) : State :=
  let left := fun (a : Acc) => match r.who, a.who with
    | .acc id, .gone _ => a.id == id
    | _, _ => false
  { s with
    link := { s.link with reqs := s.link.reqs.filter (fun x => x.xid != r.xid) }
    tier := { s.tier with accs := s.tier.accs.filter (fun a => !left a) } }

/-- A remote request ends: its access is answered, or the pacer that claimed has its answer (R190, R428). -/
def State.endReq (s : State) (r : LReq) (status arg : Nat) (data : List Nat) : State :=
  let s1 := s.closeReq r
  match r.who with
  | .acc id => s1.putAcc id (fun a =>
      if a.st == .remote then
        { a with st := .done, status := status, data := if status == stOk && !a.write then (data.drop (a.addr % 32)).take a.len else [] }
      else a)
  | .claim k => match tfind s1.insts k with
    | none => s1
    | some i =>
      if !i.asked then s1
      else if status == stOk then
        { s1 with insts := tset s1.insts k { i with answer := some (if bitOf arg 32 then none else some (arg % 2 ^ 32)) } }
      else { s1 with insts := tset s1.insts k { i with refused := some status } }

/-- The requests a link carries end with GONE as it leaves UP (R428). -/
def State.endLinkReqs (s : State) (l : Nat) : State :=
  (s.link.reqs.filter (fun r => r.link == l)).foldl (fun st r => st.endReq r stGone 0 []) s

/-- A link is mapped out (R436). One that start-up has not brought up is logged (R491). -/
def State.mapOut (s : State) (l : Nat) : State :=
  let x := s.lnk l
  if x.st == .mappedOut then s
  else
    let s0 := s.endLinkReqs l
    let s1 := ({ s0 with link := { s0.link with atomHeld := tdel s0.link.atomHeld l } } : State).putLnk l
      { peer := x.peer, txSwap := x.txSwap, rxSwap := x.rxSwap, st := .mappedOut }
    let s2 := ((s1.putObj 0x2601 1 (setBit (s1.obj 0x2601 1) l)).emit (.link l "IDLE" [])).raiseCause 0 10 0
    if x.first then s2.logErr (objKey 0x2602 (l + 1)) 0 0xFF l 0 else s2

/-- A violation of the peer's is counted (R440). -/
def State.linkViolation (s : State) (l : Nat) : State := s.bump 0x3612 (l + 1) 1

/-! ### Credits and parsing (R420, R422, R440) -/

/-- Segments of a pool are free again and their credit is owed to the peer. -/
def Link.free (x : Link) (p n : Nat) : Link := { x with due := tset x.due p (tget x.due p + n) }

/-- Segments that messages received hold in a pool. -/
def Link.used (x : Link) (p : Nat) : Nat := ((x.inbox.filter (fun m => poolOf m.type == p)).map Msg.size).foldl (· + ·) 0

/-- A message's type is one of R422. -/
def typeKnown (t : Nat) : Bool := (1 ≤ t && t ≤ 6) || t == 0x10 || t == 0x20

/-- An answer to a request of a peer goes into the queue of a link (R422). -/
def State.respond (s : State) (m : Msg) (status arg : Nat) (data : List Nat) : State :=
  match s.route m.src s.faddr (tileOf m.addr) with
  | none => s
  | some l => s.queueMsg l {
      type := 0x10, dest := m.src, src := s.faddr, incarn := m.incarn, status := status, len := cdiv data.length 32
      xid := m.xid, addr := m.addr, arg := arg, data := data, ans := m.type }

/-- Whole messages leave the released segments for the inbox. A reserved type or a LEN out of range is dropped, and a
request answered PROTOCOL; link control is performed by commands of its own; a message beyond the credit maps the link
out (R422, R440). -/
def State.parseMsgs (l : Nat) : Nat → State → State
  | 0, s => s
  | k + 1, s =>
    let x := s.lnk l
    match x.rxSegs with
    | [] => s
    | h :: rest =>
      let m := headerOf h
      if !typeKnown m.type || 128 < m.len then
        let n := 1 + (if typeKnown m.type then 0 else m.len)
        let s1 := (s.putLnk l ({ x with rxSegs := x.rxSegs.drop n }.free (poolOf m.type) (min n x.rxSegs.length))).linkViolation l
        State.parseMsgs l k (if isRequest m.type then s1.respond m stProtocol 0 [] else s1)
      else if x.rxSegs.length < m.size then s
      else
        let ext := if hasExt m.type then fieldAt (rest.headD []) 0 32 else 0
        let body := (rest.drop (if hasExt m.type then 1 else 0)).take m.len
        let m1 := { m with tenant := ext % 2 ^ 128, cmp := bits ext 191 128, data := body.flatMap id }
        let x1 := { x with rxSegs := x.rxSegs.drop m.size }
        if m.type == 0x20 then State.parseMsgs l k (s.putLnk l (x1.free 0 m.size))
        else if poolSize (poolOf m.type) < x.used (poolOf m.type) + m.size then (s.linkViolation l).mapOut l
        else State.parseMsgs l k (s.putLnk l { x1 with inbox := x1.inbox ++ [m1] })

/-! ### Lanes (R411, R417, R434, R435) -/

/-- A receive lane is swapped for the spare; a second failure maps the link out (R434, R435). -/
def State.swapLane (s : State) (l lane : Nat) : State :=
  let x := s.lnk l
  if x.rxSwap.isSome then s.mapOut l
  else ((s.putLnk l { x with rxSwap := some lane }).emit (.link l "SWAP" [lane])).raiseCause 0 10 1

/-- A corrected symbol counts for its lane; at LANE_THRESHOLD the lane is reported (R411, R417, R434, R499). -/
def State.laneCorrected (s : State) (l pos : Nat) : State :=
  let x := s.lnk l
  let lane := if x.rxSwap == some pos then 4 else pos
  let c := s.obj 0x3610 (l + 1)
  let k := c / 2 ^ (12 * lane) % 4096
  let s1 := s.putObj 0x3610 (l + 1) (if k < 4095 then c + 2 ^ (12 * lane) else c)
  let n := tget s1.link.laneWin (l * 5 + lane) + 1
  let s2 := { s1 with link := { s1.link with laneWin := tset s1.link.laneWin (l * 5 + lane) n } }
  if n == s2.obj 0x2600 7 then
    let s3 := s2.report (.lane l lane)
    if s3.obj 0x2010 1 == 2 then s3.logErr (objKey 0x3610 (l + 1)) stOk 0xFF l lane else s3
  else s2

/-! ### FRAME_TRANSMIT (R414, R416, R418, R420) -/

/-- Tier accesses made for peers that are done are answered (R424). -/
def State.collectResps (s : State) : State :=
  (s.tier.accs.filter (fun a => a.st == .done)).foldl (fun st a => match tfind st.link.serving a.id with
    | none => st
    | some (_, m) =>
      let s1 := { st with
        tier := { st.tier with accs := st.tier.accs.filter (fun b => b.id != a.id) }
        link := { st.link with serving := tdel st.link.serving a.id } }
      s1.respond m a.status 0 (if a.status == stOk && !a.write then a.data else [])) s

/-- Level of a pool that carries no responses (R420). -/
def poolLevel (p : Nat) : Nat := p + 1

/-- Levels of the transmit arbiter: link control, then requests of pool 1, token streams, reads and writes; a response
takes the level of the request it answers. Of one that is forwarded only its data shows which that was (R420; DESIGN CHOICE,
log 102). -/
def Msg.level (m : Msg) : Nat :=
  if poolOf m.type != 4 then poolLevel (poolOf m.type)
  else if m.ans != 0 then poolLevel (poolOf m.ans)
  else if m.len == 0 then 2 else 4

/-- The messages a link may begin: of each pool the oldest, with credit for all its segments. -/
def Link.heads (x : Link) : List Msg :=
  [0, 1, 2, 3, 4].filterMap (fun p => (x.outq.find? (fun m => poolOf m.type == p)).bind (fun m =>
    if m.size ≤ tget x.cred p then some m else none))

/-- The next message a link begins: of the first level that has been passed over three times, else of the lowest; round-robin
over the pools of one level (R20, R289). -/
def Link.nextMsg (x : Link) : Option Msg :=
  let hs := sortBy (fun (a b : Msg) => a.level ≤ b.level) x.heads
  match (hs.find? (fun m => 3 ≤ tget x.skips m.level)).or hs.head? with
  | none => none
  | some h =>
    let mine := hs.filter (fun m => m.level == h.level)
    mine.find? (fun m => rrTurn (tget x.turn h.level) 5 (mine.map (fun m => poolOf m.type)) (poolOf m.type))

/-- The arbiter after a message: its level has been served, the other levels with a message have been passed over once more. -/
def Link.served (x : Link) (m : Msg) : Link :=
  { x with
    turn := tset x.turn m.level ((poolOf m.type + 1) % 5)
    skips := (x.heads.map Msg.level).foldl (fun t v => if v == m.level then t else tset t v (tget t v + 1)) (tset x.skips m.level 0) }

/-- Messages are begun until a frame's 15 segments are filled or none can begin. -/
def Link.fill : Nat → Link → Link
  | 0, x => x
  | k + 1, x =>
    if 15 ≤ x.txSegs.length then x
    else match x.nextMsg with
      | none => x
      | some m =>
        let p := poolOf m.type
        Link.fill k { x.served m with outq := x.outq.erase m, txSegs := x.txSegs ++ m.segments, cred := tset x.cred p (tget x.cred p - m.size) }

/-- What a header shows of the receiver and the credits: ACK, NAK, five credit returns (R415). -/
def Link.back (x : Link) : List Nat :=
  [(x.expect + 4095) % 4096, bit01 x.nak] ++ (List.range 5).map (fun p => min 255 (tget x.due p))

/-- The link once a header has carried its credit returns and its NAK. -/
def Link.sent (x : Link) : Link :=
  { x with nak := false, due := tmap x.due (fun _ n => n - min 255 n) }

/-- A frame goes out: FSEQ, REPLAY, KPHASE, the returns, SEGMAP and its segments. -/
def State.emitFrame (s : State) (l : Nat) (x : Link) (f : Frame) (replay : Bool) : State :=
  s.emit (.link l "FRAME" ([f.fseq, bit01 replay, bit01 f.phase] ++ x.back ++ [2 ^ f.segs.length - 1] ++ f.segs.flatMap id))

/-- FRAME_TRANSMIT. -/
def opFrameTransmit (l : Nat) (s0 : State) : State :=
  let s := s0.collectResps
  let x := s.lnk l
  match x.st with
  | .sleep => if x.outq.isEmpty then s else ((s.putLnk l { x with st := .waking }).emit (.link l "WAKE" [])).wakeDom (53 + l / 4)
  | .up => match x.replay with
    | f :: rest => (s.emitFrame l x f true).putLnk l { x.sent with replay := rest, ackAt := s.clk.dcount }
    | [] =>
      if 128 ≤ x.held.length || 2 ^ 36 ≤ x.fcount - x.keyCount then s
      else
        let x1 := x.fill 15
        let phase := if x1.newKey then !x1.phase else x1.phase
        let f : Frame := { fseq := x1.fseq, phase := phase, segs := x1.txSegs.take 15, since := s.clk.dcount }
        let x2 := { x1.sent with
          txSegs := x1.txSegs.drop 15
          fseq := (x1.fseq + 1) % 4096
          fcount := x1.fcount + 1
          phase := phase
          newKey := false
          keyCount := if x1.newKey then x1.fcount else x1.keyCount
          held := x1.held ++ [f]
          ackAt := if x1.held.isEmpty then s.clk.dcount else x1.ackAt
          idleAt := if f.segs.isEmpty then x1.idleAt else s.clk.dcount }
        ((s.emitFrame l x1 f false).putLnk l x2).bump 0x3615 (l + 1) (32 * f.segs.length)
  | _ => s

def execFrameTransmit (link : Nat) (s : State) : Outcome := onUnit (link < 32) (opFrameTransmit link) s

/-! ### FRAME_RECEIVE (R417, R418, R440) -/

/-- The transmitter replays its held frames; a frame replayed LINK_RETRY_LIMIT times in succession maps the link out
(R418). -/
def State.replayFrom (s : State) (l : Nat) : State :=
  let x := s.lnk l
  if x.held.isEmpty then s
  else if s.obj 0x2600 4 ≤ x.retries then s.mapOut l
  else s.putLnk l { x with replay := x.held, retries := x.retries + 1, ackAt := s.clk.dcount }

/-- An ACK frees the frames it covers; one that names a frame not sent maps the link out (R418, R440). -/
def State.takeAck (s : State) (l ack : Nat) : State :=
  let x := s.lnk l
  let oldest := (x.fseq + 4096 - x.held.length) % 4096
  let n := (ack + 1 + 4096 - oldest) % 4096
  if x.held.length < n then (s.linkViolation l).mapOut l
  else if n == 0 then s
  else s.putLnk l { x with
    held := x.held.drop n
    replay := x.replay.filter (fun f => (x.held.drop n).any (fun h => h.fseq == f.fseq))
    retries := 0
    ackAt := s.clk.dcount }

/-- A frame that fails a check: it and every later one are discarded, and a NAK is owed. The receiver counts it (R417, R440;
DEDUCED, log 138). -/
def State.badFrame (s : State) (l : Nat) : State :=
  let x := s.lnk l
  (s.putLnk l { x with wait := none, nak := true, dropping := true }).bump 0x3611 (l + 1) 1

/-- A PTAG failure; more than 64 within one second map the link out (R440). -/
def State.badPtag (s : State) (l : Nat) : State :=
  let x := s.lnk l
  let at_ := (x.ptagAt ++ [s.clk.dcount]).filter (fun t => s.clk.dcount < t + 1000000000)
  let s1 := (s.putLnk l { x with ptagAt := at_ }).badFrame l
  if 64 < at_.length then (s1.bump 0x3602 (l + 1) 1).mapOut l else s1

/-- The frame that waited is accepted and its payload released (R417). -/
def State.acceptFrame (s : State) (l : Nat) (f : Frame) : State :=
  let x := s.lnk l
  let x1 := { x with
    wait := none
    expect := (f.fseq + 1) % 4096
    rxPhase := f.phase
    rxSegs := x.rxSegs ++ f.segs
    idleAt := if f.segs.isEmpty then x.idleAt else s.clk.dcount }
  State.parseMsgs l (x1.rxSegs.length + 1) (s.putLnk l x1)

/-- The header of a frame: acknowledgement, NAK and credit returns. -/
def State.takeHeader (s : State) (l : Nat) (f : RxFrame) : State :=
  let s1 := s.takeAck l f.ack
  let x := s1.lnk l
  let x1 := { x with cred := (List.range 5).foldl (fun t p => tset t p (min (poolSize p) (tget t p + byteAt f.credit p))) x.cred }
  if x.st != .up then s1 else if f.nak then (s1.putLnk l x1).replayFrom l else s1.putLnk l x1

/-- A frame whose header and place are good: the frame before it is judged by the PTAG, then this one by its segments. -/
def State.takeFrame_ (s : State) (l : Nat) (f : RxFrame) : State :=
  let x := s.lnk l
  let fr : Frame := { fseq := f.fseq, phase := f.phase, segs := f.segs, since := s.clk.dcount }
  match x.wait with
  | some w =>
    if !f.ptagOk then s.badPtag l
    else
      let s1 := s.acceptFrame l w
      if (s1.lnk l).st != .up then s1
      else if !f.segsOk then s1.badFrame l
      else s1.putLnk l { s1.lnk l with wait := some fr }
  | none => if !f.segsOk then s.badFrame l else s.putLnk l { x with wait := some fr }

/-- FRAME_RECEIVE. -/
def opFrameReceive (l : Nat) (f : RxFrame) (s : State) : State :=
  if (s.lnk l).st != .up then s
  else
    let s1 := (f.corr.filter (· < 4)).foldl (fun st p => st.laneCorrected l p) s
    if !f.hdrOk then s1.badFrame l
    else if !f.rsvOk then (s1.linkViolation l).mapOut l
    else
      let s2 := s1.takeHeader l f
      let x := s2.lnk l
      let next := match x.wait with | some w => (w.fseq + 1) % 4096 | none => x.expect
      if x.st != .up then s2
      else if f.fseq == next then (s2.putLnk l { x with dropping := false }).takeFrame_ l f
      else if x.dropping && !f.replay then s2
      else if f.replay && (next + 4095 - f.fseq) % 4096 < 128 then s2
      else ((s2.putLnk l { x with nak := true, wait := none, dropping := true }).linkViolation l)

def execFrameReceive (link : Nat) (f : RxFrame) (s : State) : Outcome := onUnit (link < 32) (opFrameReceive link f) s

/-- ACK_TIMEOUT: 2 µs without an ACK (R418). -/
def opAckTimeout (l : Nat) (s : State) : State :=
  let x := s.lnk l
  if x.st == .up && !x.held.isEmpty && x.ackAt + 2000 ≤ s.clk.dcount then s.replayFrom l else s

def execAckTimeout (link : Nat) (s : State) : Outcome := onUnit (link < 32) (opAckTimeout link) s

/-- LANE_LOCK_LOSS: a lane in service is swapped under every policy (R434). -/
def opLaneLockLoss (l lane : Nat) (s : State) : State :=
  let x := s.lnk l
  let inService := if lane == 4 then x.rxSwap.isSome else x.rxSwap != some lane
  if (x.st == .up || x.st == .sleep) && inService then s.swapLane l lane else s

def execLaneLockLoss (link lane : Nat) (s : State) : Outcome := onUnit (link < 32 && lane < 5) (opLaneLockLoss link lane) s

/-! ### Messages for this device (R424 to R428) -/

/-- A message acts on a tile. -/
def Msg.onTile (m : Msg) : Bool := isRequest m.type && m.type != 4

/-- The oldest message of a type for this device, and the others: none while one from the same source to the same tile stands
before it (R427). `seen`: sources and tiles of those before. -/
def takeNext (type faddr : Nat) : List (Nat × Nat) → List Msg → Option (Msg × List Msg)
  | _, [] => none
  | seen, m :: r =>
    if m.type == type && m.dest == faddr then (if m.onTile && seen.contains (m.src, tileOf m.addr) then none else some (m, r))
    else (takeNext type faddr (if m.onTile && m.dest == faddr then (m.src, tileOf m.addr) :: seen else seen) r).map
      (fun e => (e.1, m :: e.2))

/-- The next message of a type for this device leaves the inbox, and its segments' credit is owed. -/
def State.takeMsg (s : State) (l type : Nat) : Option (Msg × State) :=
  let x := s.lnk l
  match takeNext type s.faddr [] x.inbox with
  | none => none
  | some (m, rest) => some (m, s.putLnk l ({ x with inbox := rest }.free (poolOf type) m.size))

/-- The TENANT_ID of a message is that of the key set of the part it names (R424). -/
def State.tenantOk (s : State) (m : Msg) : Bool :=
  match tget s.trust.keys (partOf m.addr) with | some k => k.tenant == m.tenant | none => false

/-- Status that a request meets before it runs: WINDOW_VIOLATION under R424, PROTOCOL for fields out of range. -/
def State.msgStatus (s : State) (m : Msg) (ok : Bool) : Nat := if !s.tenantOk m then stWindow else if ok then stOk else stProtocol

/-- A request of a peer runs as a tier access under the part's function (R424). -/
def State.serveMsg (s : State) (l : Nat) (m : Msg) (addr len : Nat) (write : Bool) (data : List Nat) : State :=
  let (id, s1) := s.newAcc (.link l) (partOf m.addr) addr len write data
  { s1 with link := { s1.link with serving := tset s1.link.serving id (l, m) } }

/-- LINK_READ. -/
def opLinkRead (l : Nat) (s : State) : State :=
  match s.takeMsg l 1 with
  | none => s
  | some (m, s1) =>
    let n := m.arg % 2 ^ 13
    let st := s1.msgStatus m (n % 32 == 0 && 32 ≤ n && n ≤ 4096)
    if st != stOk then s1.respond m st 0 [] else s1.serveMsg l m m.addr n false []

def execLinkRead (link : Nat) (s : State) : Outcome := onUnit (link < 32) (opLinkRead link) s

/-- LINK_WRITE. A byte mask names the bytes of one word that are written. -/
def opLinkWrite (l : Nat) (s : State) : State :=
  match s.takeMsg l 2 with
  | none => s
  | some (m, s1) =>
    let n := m.arg % 2 ^ 13
    let mask := bits m.arg 44 13
    let st := s1.msgStatus m (1 ≤ n && n ≤ 4096 && m.len == cdiv n 32 && (mask == 0 || (n == 32 && m.addr % 32 == 0)))
    if st != stOk then s1.respond m st 0 []
    else if mask == 0 then s1.serveMsg l m m.addr n true (m.data.take n)
    else
      let on := (List.range 32).filter (bitOf mask)
      let lo := on.headD 0
      let hi := on.foldl max 0
      s1.serveMsg l m (m.addr + lo) (hi + 1 - lo) true
        ((List.range (hi + 1 - lo)).map (fun i => if bitOf mask (lo + i) then byteAt m.data (lo + i) else 256))

def execLinkWrite (link : Nat) (s : State) : Outcome := onUnit (link < 32) (opLinkWrite link) s

/-- The new value of an atomic operand of `n` bytes (R422). -/
def atomicResult (op n old operand cmp : Nat) : Nat :=
  match op with
  | 0 => (old + operand) % 2 ^ (8 * n)
  | 1 => (old + operand) % 2 ^ (8 * n)
  | 2 => operand
  | _ => if old == cmp then operand else old

/-- Accesses of a link's peers that an ATOMIC of theirs to the same tile comes after (R427). -/
def State.linkBefore (s : State) (l addr : Nat) : Bool :=
  s.tier.accs.any (fun a => a.who == .link l && a.st != .done && a.touches (tileOf addr))

/-- An ATOMIC stays first in line: the time from which its tile has been MOVING is kept, and its tier wakes (R228, R232). -/
def State.holdAtomic (s : State) (l addr n : Nat) : State :=
  let s1 := s.wakeTiers addr n
  if (s.leaf (tileOf addr)).moving && (tfind s.link.atomHeld l).isNone then
    { s1 with link := { s1.link with atomHeld := tset s1.link.atomHeld l s.clk.dcount } }
  else s1

/-- A hold of an ATOMIC ends, and counts (R228). -/
def State.freeAtomic (s : State) (l : Nat) : State :=
  match tfind s.link.atomHeld l with
  | none => s
  | some t => ({ s with link := { s.link with atomHeld := tdel s.link.atomHeld l } } : State).countHold (s.clk.dcount - t)

/-- LINK_ATOMIC: a read-modify-write on an aligned operand of 4 or 8 bytes. It is held while its tile is MOVING, its tier
cannot serve it, or an access before it is open. -/
def opLinkAtomic (l : Nat) (s : State) : State :=
  match s.takeMsg l 3 with
  | none => s
  | some (m, s0) =>
    let op := m.arg % 16
    let n := if op == 0 then 4 else 8
    let f := partOf m.addr
    let st := s0.msgStatus m (op < 4 && m.addr % n == 0)
    if st != stOk then (s0.freeAtomic l).respond m st 0 []
    else if s.transStatus f m.addr n == stOk &&
      ((s.leaf (tileOf m.addr)).moving || s.tierBusy m.addr n || s.linkBefore l m.addr) then s.holdAtomic l m.addr n
    else
      let s1 := s0.freeAtomic l
      let (r, bs, s2) := s1.readDev f m.addr n
      if r != stOk then s2.respond m r 0 []
      else
        let old := ofLE bs
        let (w, s3) := s2.writeDev f m.addr (leBytes (atomicResult op n old (bits m.arg 67 4) m.cmp) n)
        s3.respond m w (if w == stOk then old else 0) []

def execLinkAtomic (link : Nat) (s : State) : Outcome := onUnit (link < 32) (opLinkAtomic link) s

/-- LINK_CLAIM: a tally is claimed from, in its arbiter's turn, if its join key matches; one that has been freed answers GONE,
whatever key comes (R190, R191, R193, R424). -/
def opLinkClaim (l : Nat) (s : State) : State :=
  match s.takeMsg l 4 with
  | none => s
  | some (m, s0) =>
    let k := m.arg % 256
    let port := 32 + l % 8
    if !s.tallyTurn (k / 64) port then s
    else
      let s1 := { s.tallyServed (k / 64) port with link := s0.link }
      let t := tget s1.tallies k
      if !t.used then s1.respond m stGone 0 []
      else if t.key != bits m.arg 23 8 then s1.respond m stProtocol 0 []
      else match s1.fetchAdd k with
        | (some n, s2) => s2.respond m stOk n []
        | (none, s2) => s2.respond m stOk (2 ^ 32) []

def execLinkClaim (link : Nat) (s : State) : Outcome := onUnit (link < 32) (opLinkClaim link) s

/-- The data tokens of a TOKENS message (R426). -/
def Msg.tokens (m : Msg) : List DTok :=
  (List.range m.len).map (fun i =>
    mkD (BitVec.ofNat 256 (fieldAt m.data (32 * i) 32)) (bits m.arg 13 12) (bitOf m.arg 30 && i + 1 == m.len) (bitOf m.arg (14 + i))
      ((m.arg % 4096 + i) % 4096))

/-- The receiving instance of a TOKENS message is saved, or being saved or restored (R426). -/
def State.tokensSaved (s : State) (b handle : Nat) : Bool :=
  (s.bay b).frozen.isSome || (match s.task (Config.tokenTask handle) with
    | some t => t.st == .saving || t.st == .saved || t.st == .restoring
    | none => false)

/-- LINK_TOKENS: the tokens enter the port cell's lane once it has credit for them all and its instance is not saved; until
then they hold the pool (R426). -/
def opLinkTokens (l : Nat) (s : State) : State :=
  match s.takeMsg l 5 with
  | none => s
  | some (m, s1) =>
    let (b, site, lane) := Config.tokenTarget (bits m.arg 54 39) (bits m.arg 38 31)
    let y := s1.site (b % 32) (site % 120)
    let c := y.dchan (lane % 5)
    if m.len == 0 || 16 < m.len then s1.linkViolation l
    else if c.cred < m.len || s.tokensSaved (b % 32) (bits m.arg 54 39) then s
    else s1.putSite (b % 32) (site % 120) (y.putD (lane % 5) (m.tokens.foldl (fun ch t => ch.send true t) c))

def execLinkTokens (link : Nat) (s : State) : Outcome := onUnit (link < 32) (opLinkTokens link) s

/-- LINK_DOORBELL: it wakes domains 52 and 63 (R425, R474). -/
def opLinkDoorbell (l : Nat) (s : State) : State :=
  match s.takeMsg l 6 with
  | none => s
  | some (m, s1) =>
    let f := partOf m.addr
    if !s1.tenantOk m then s1.respond m stWindow 0 []
    else
      let s2 := { s1 with host := { s1.host with fdb := tset s1.host.fdb f (tget s1.host.fdb f ||| m.arg % 2 ^ 64) } }
      let v := tget s2.host.ssrVec f
      (([52, 63].foldl State.wakeDom (if bitOf v 8 then s2.raiseVector f (v % 256) else s2)).respond m stOk 0 [])

def execLinkDoorbell (link : Nat) (s : State) : Outcome := onUnit (link < 32) (opLinkDoorbell link) s

/-- LINK_RESP: a late, stale or unknown response is dropped and counted (R428, R440, R495). -/
def opLinkResp (l : Nat) (s : State) : State :=
  match s.takeMsg l 0x10 with
  | none => s
  | some (m, s1) =>
    match s1.link.reqs.find? (fun r => r.xid == m.xid) with
    | some r =>
      if m.incarn != s1.incarn r.part then
        ((s1.closeReq r).bump 0x3613 (l + 1) 1).bump 0x3722 (r.part + 1) 1
      else s1.endReq r (statusOf m.status) m.arg m.data
    | none =>
      if s1.link.late.contains m.xid then
        ({ s1 with link := { s1.link with late := s1.link.late.erase m.xid } }).bump 0x3614 (l + 1) 1
      else s1.linkViolation l

def execLinkResp (link : Nat) (s : State) : Outcome := onUnit (link < 32) (opLinkResp link) s

/-- MESSAGE_FORWARD: passed on once the next link has credit; at TTL 0 dropped; a request that cannot go on is answered
GONE (R430, R431). -/
def opMessageForward (l : Nat) (s : State) : State :=
  let x := s.lnk l
  match takeFirst (fun (m : Msg) => m.dest != s.faddr) x.inbox with
  | none => s
  | some (m, rest) =>
    let s1 := s.putLnk l ({ x with inbox := rest }.free (poolOf m.type) m.size)
    let gone := fun (st : State) => if isRequest m.type then st.respond m stGone 0 [] else st
    if m.ttl ≤ 1 then gone (s1.linkViolation l)
    else match s1.route m.dest m.src (if m.type == 5 then bits m.arg 38 31 else tileOf m.addr) with
      | none => gone s1
      | some o =>
        let y := s1.lnk o
        let p := poolOf m.type
        let ahead := ((y.outq.filter (fun n => poolOf n.type == p)).map Msg.size).foldl (· + ·) 0
        if tget y.cred p < ahead + m.size then s else s1.queueMsg o { m with ttl := m.ttl - 1 }

def execMessageForward (link : Nat) (s : State) : Outcome := onUnit (link < 32) (opMessageForward link) s

/-- LINK_REQ_EXPIRY. -/
def opLinkReqExpiry (xid : Nat) (s : State) : State :=
  match s.link.reqs.find? (fun r => r.xid == xid) with
  | none => s
  | some r =>
    if s.clk.dcount < r.since + s.obj 0x2600 5 * 1000 then s
    else (({ s with link := { s.link with late := s.link.late ++ [xid] } }).endReq r stTimeout 0 [])

def execLinkReqExpiry (xid : Nat) (s : State) : Outcome := .next (opLinkReqExpiry xid s)

/-! ### Bring-up and keys (R404, R413, R419, R420) -/

/-- A link begins step 1 of bring-up (R413). -/
def State.startLink (s : State) (l : Nat) : State :=
  let x := s.lnk l
  s.putLnk l { st := .training, txSwap := x.txSwap, rxSwap := x.rxSwap, idleAt := s.clk.dcount }

/-- LINK_TRAINING_DONE. -/
def opLinkTrainingDone (l : Nat) (ok : Bool) (s : State) : State :=
  let x := s.lnk l
  match x.st with
  | .training =>
    if ok then (s.putLnk l { x with aligned := true }).emit (.link l "HELLO" ([s.faddr, s.objIn 0x2600 1] ++ (List.range 5).map poolSize))
    else if 3 ≤ x.attempts + 1 then s.mapOut l
    else s.putLnk l { x with attempts := x.attempts + 1, aligned := false }
  | .waking => if ok then s.putLnk l { x with st := .up, idleAt := s.clk.dcount } else s
  | _ => s

def execLinkTrainingDone (link : Nat) (ok : Bool) (s : State) : Outcome := onUnit (link < 32) (opLinkTrainingDone link ok) s

/-- Credits of the five pools from a list. -/
def creditTbl (cs : List Nat) : Tbl Nat := (List.range 5).map (fun p => (p, min (poolSize p) (cs.getD p 0)))

/-- Peer serials that LINK_PEER_POLICY and LINK_ALLOW admit, none for any (R404, R408). -/
def State.allowNow (s : State) : Option (List Nat) :=
  if s.obj 0x2A00 5 == 1 then some (((List.range 32).map (fun i => s.obj 0x2A01 (i + 1))).filter (· != 0)) else none

/-- A key agreement that begins now: the policy in force is the one it is judged by (R448). -/
def Link.beginsAgreement (x : Link) (s : State) : Link := { x with allow := s.allowNow }

/-- HELLO. -/
def opHello (l addr mode : Nat) (credits : List Nat) (s : State) : State :=
  let x := s.lnk l
  if x.st != .training || !x.aligned then s
  else if addr % 2 ^ 18 == s.faddr || mode != s.objIn 0x2600 1 then (s.linkViolation l).mapOut l
  else s.putLnk l { x.beginsAgreement s with st := .agreeing, peer := addr % 2 ^ 18, cred := creditTbl credits }

def execHello (link addr mode : Nat) (credits : List Nat) (s : State) : Outcome :=
  onUnit (link < 32) (opHello link addr mode credits) s

/-- CREDIT_INIT. -/
def opCreditInit (l : Nat) (credits : List Nat) (s : State) : State :=
  let x := s.lnk l
  if x.st == .agreeing || x.st == .training then s.putLnk l { x with cred := creditTbl credits } else s

def execCreditInit (link : Nat) (credits : List Nat) (s : State) : Outcome := onUnit (link < 32) (opCreditInit link credits) s

/-- REKEY: the peer starts a fresh agreement, which this end takes up (R419). -/
def opRekey (l : Nat) (s : State) : State :=
  let x := s.lnk l
  if x.st == .up then (s.putLnk l { x.beginsAgreement s with rekey := true }).emit (.link l "REKEY" []) else s

def execRekey (link : Nat) (s : State) : Outcome := onUnit (link < 32) (opRekey link) s

/-- REKEY_INTERVAL_EXPIRY: the interval has passed, or FCOUNT under the present key comes within 4,096 of 2^36. -/
def opRekeyIntervalExpiry (l : Nat) (s : State) : State :=
  let x := s.lnk l
  if x.st == .up && !x.rekey
    && (x.keyedAt + s.obj 0x2600 6 * 1000000000 ≤ s.clk.dcount || 2 ^ 36 - 4096 ≤ x.fcount - x.keyCount) then
    (s.putLnk l { x.beginsAgreement s with rekey := true }).emit (.link l "REKEY" [])
  else s

def execRekeyIntervalExpiry (link : Nat) (s : State) : Outcome := onUnit (link < 32) (opRekeyIntervalExpiry link) s

/-- The peer's serial is allowed (R404, R408, R448). -/
def Link.admits (x : Link) (serial : Nat) : Bool := match x.allow with | none => true | some l => l.contains serial

/-- KEY_AGREEMENT_DONE: the link goes UP, or has a new transmit key; a failure maps it out (R388, R404, R419). -/
def opKeyAgreementDone (l : Nat) (ok : Bool) (serial : Nat) (s : State) : State :=
  let x := s.lnk l
  let good := ok && !s.trust.noId && x.admits serial
  if x.st == .agreeing || (x.st == .up && x.rekey) then
    if !good then (s.bump 0x3602 (l + 1) 1).mapOut l
    else if x.st == .agreeing then
      s.putLnk l { x with
        st := .up, fseq := 0, fcount := 0, keyCount := 0, phase := false, rxPhase := false, expect := 0
        keyedAt := s.clk.dcount, idleAt := s.clk.dcount, attempts := 0, first := false }
    else s.putLnk l { x with rekey := false, newKey := true, keyedAt := s.clk.dcount }
  else s

def execKeyAgreementDone (link : Nat) (ok : Bool) (serial : Nat) (s : State) : Outcome :=
  onUnit (link < 32) (opKeyAgreementDone link ok serial) s

/-! ### Swap, sleep and wake (R434, R438, R439) -/

/-- SWAP: the transmitter drives the spare in the lane's position; a SLEEP in the same frame is refused (R434). -/
def opSwap (l lane : Nat) (sleep : Bool) (s : State) : State :=
  let x := s.lnk l
  if x.st != .up then s
  else if x.txSwap.isSome then s.mapOut l
  else
    let s1 := (s.putLnk l { x with txSwap := some lane }).raiseCause 0 10 1
    if sleep then s1.emit (.link l "SLEEP_REFUSED" []) else s1

def execSwap (link lane : Nat) (sleep : Bool) (s : State) : Outcome := onUnit (link < 32 && lane < 5) (opSwap link lane sleep) s

/-- No payload is queued on a link. -/
def Link.quiet (x : Link) : Bool := x.outq.isEmpty && x.txSegs.isEmpty

/-- A link goes to SLEEP; the requests it carried end (R428, R438). -/
def State.sleepLink (s : State) (l : Nat) : State := (s.endLinkReqs l).putLnk l { s.lnk l with st := .sleep, offered := false }

/-- SLEEP: the peer offers sleep; it is abandoned while payload is queued (R438). -/
def opSleep (l : Nat) (s0 : State) : State :=
  let s := s0.collectResps
  let x := s.lnk l
  if x.st == .up && x.quiet then (s.sleepLink l).emit (.link l "SLEEP_ACK" [x.fseq]) else s

def execSleep (link : Nat) (s : State) : Outcome := onUnit (link < 32) (opSleep link) s

/-- SLEEP_ACK: the offer is taken up, unless payload has been queued meanwhile (R438). -/
def opSleepAck (l : Nat) (s0 : State) : State :=
  let s := s0.collectResps
  let x := s.lnk l
  if x.st != .up || !x.offered then s
  else if x.quiet then s.sleepLink l
  else s.putLnk l { x with offered := false }

def execSleepAck (link : Nat) (s : State) : Outcome := onUnit (link < 32) (opSleepAck link) s

/-- LINK_IDLE_EXPIRY. -/
def opLinkIdleExpiry (l : Nat) (s : State) : State :=
  let x := s.lnk l
  if x.st == .up && x.quiet && !x.offered && x.idleAt + s.obj 0x2600 3 * 1000 ≤ s.clk.dcount then
    (s.putLnk l { x with offered := true }).emit (.link l "SLEEP" [])
  else s

def execLinkIdleExpiry (link : Nat) (s : State) : Outcome := onUnit (link < 32) (opLinkIdleExpiry link) s

/-- WAKE_PATTERN: a sleeping link relocks; one whose group is off is brought up afresh. The group's domain wakes (R439). -/
def opWakePattern (l : Nat) (s0 : State) : State :=
  let s := if (s0.lnk l).st == .mappedOut then s0 else s0.wakeDom (53 + l / 4)
  let x := s.lnk l
  match x.st with
  | .sleep => s.putLnk l { x with st := .waking }
  | .off => s.startLink l
  | _ => s

def execWakePattern (link : Nat) (s : State) : Outcome := onUnit (link < 32) (opWakePattern link) s

/-! ### Maintenance (R436, R437) -/

/-- LINK_READMIT. -/
def opLinkReadmit (l code : Nat) (s : State) : State :=
  let ok := match s.link.maint with | some (c, t) => c == code && s.clk.dcount < t | none => false
  if !ok then s.logErr (objKey 0x2601 3) stProtocol 0xFF l code
  else if (s.lnk l).st != .mappedOut then s
  else
    let s1 := s.putObj 0x2601 1 (clrBit (s.obj 0x2601 1) l)
    let s2 := [0x3610, 0x3611, 0x3612, 0x3613, 0x3614, 0x3615].foldl (fun st ix => st.putObj ix (l + 1) 0) s1
    let s3 := { s2 with link := { s2.link with laneWin := tfilter s2.link.laneWin (fun k _ => k / 5 != l) } }
    (s3.putLnk l { st := .training, idleAt := s.clk.dcount }).wakeDom (53 + l / 4)

def execLinkReadmit (link code : Nat) (s : State) : Outcome := onUnit (link < 32) (opLinkReadmit link code) s

/-- LINK_MAP_OUT. -/
def opLinkMapOut (l : Nat) (s : State) : State := s.mapOut l

def execLinkMapOut (link : Nat) (s : State) : Outcome := onUnit (link < 32) (opLinkMapOut link) s

/-- LINK_MAINT_SWAP. -/
def opLinkMaintSwap (l lane : Nat) (s : State) : State := if (s.lnk l).st == .up then s.swapLane l lane else s

def execLinkMaintSwap (link lane : Nat) (s : State) : Outcome := onUnit (link < 32 && lane < 5) (opLinkMaintSwap link lane) s

/-- MAINT_WINDOW. -/
def opMaintWindow (v : Nat) (s : State) : State :=
  { s with link := { s.link with maint := some (bits v 31 0, s.clk.dcount + bits v 63 32 * 1000000000) } }

def execMaintWindow (value : Nat) (s : State) : Outcome := .next (opMaintWindow value s)

/-- MAINT_WINDOW_CLOSE. -/
def opMaintWindowClose (s : State) : State :=
  match s.link.maint with
  | some (_, t) => if t ≤ s.clk.dcount then { s with link := { s.link with maint := none } } else s
  | none => s

def execMaintWindowClose (s : State) : Outcome := .next (opMaintWindowClose s)

/-! ### FABRIC_WINDOW_WRITE (R423) -/

/-- A fabric window read from the 32 bytes of its entry. -/
def fabWinOf (bs : List Nat) : FabWin :=
  { local_ := fieldAt bs 0 8, len := fieldAt bs 8 8, remote := fieldAt bs 16 8, faddr := fieldAt bs 24 4 % 2 ^ 18
    func := byteAt bs 28, flags := byteAt bs 29 % 8 }

/-- The 32 bytes of a fabric window's entry; reserved fields read 0 (R7, R423). -/
def FabWin.bytes (w : FabWin) : List Nat :=
  leBytes w.local_ 8 ++ leBytes w.len 8 ++ leBytes w.remote 8 ++ leBytes w.faddr 4 ++ [w.func, w.flags, 0, 0]

/-- A fabric window is accepted. -/
def State.fabWinOk (s : State) (n : Nat) (w : FabWin) : Bool :=
  w.len == 0 || (w.local_ % 65536 == 0 && w.len % 65536 == 0 && w.remote % 65536 == 0 && 1 ≤ w.func && w.func ≤ 63
    && w.local_ / 2 ^ 46 == w.func && (w.local_ + w.len - 1) / 2 ^ 46 == w.func
    && w.remote / 2 ^ 46 == w.func && (w.remote + w.len - 1) / 2 ^ 46 == w.func
    && !(s.overlaps w.local_ (w.len / 65536))
    && s.link.wins.all (fun e => e.1 == n || e.2.len == 0 || w.local_ + w.len ≤ e.2.local_ || e.2.local_ + e.2.len ≤ w.local_))

/-- FABRIC_WINDOW_WRITE: a refused entry reads LENGTH 0. -/
def opFabricWindowWrite (n : Nat) (bs : List Nat) (s : State) : State :=
  let w := fabWinOf bs
  let ok := s.fabWinOk n w
  let w1 := if ok then w else { w with len := 0 }
  let s1 := ({ s with link := { s.link with wins := tset s.link.wins n w1 } }).putObj 0x2620 (n + 1) (ofLE w1.bytes)
  if ok then s1 else s1.logErr (objKey 0x2620 (n + 1)) stProtocol w.func 0xFF n

def execFabricWindowWrite (window : Nat) (entry : List Nat) (s : State) : Outcome :=
  onUnit (window < 128) (opFabricWindowWrite window entry) s

/-! ### LINK_STATE (R412, R441) -/

/-- Code of a link state. -/
def LinkSt.code : LinkSt → Nat
  | .off => 0 | .training => 1 | .agreeing => 2 | .up => 3 | .sleep => 4 | .waking => 5 | .mappedOut => 6

/-- 0x2602 of a link. -/
def Link.state (x : Link) : Nat :=
  x.st.code + x.txSwap.getD 7 * 2 ^ 4 + x.rxSwap.getD 7 * 2 ^ 7 + x.peer * 2 ^ 10

end Sys2Proof.Machine
end

