-- ==== Sys2Proof/Machine/Power.lean ====
section
/-!
DEFINITION. Power (18_power_domains_and_caps.md): the domains' idle times, ready chains and wakes (R468 to R475), the
cap controller with its limits, gate, operating points, floor and ramp limiter (R476 to R485), and thermal throttle
(R486).
-/
namespace Sys2Proof.Machine

/-- The state with power control replaced. -/
def State.putPwr (s : State) (p : Pwr) : State := { s with pwr := p }

/-! ### Domains (R468 to R475) -/

/-- A domain has nothing to do: the condition of the third column of the domains table (R468, R470). -/
def State.domIdle (s : State) (d : Nat) : Bool :=
  if d < 32 then
    (tget s.jig.held d).isNone && (tget s.jig.reserved d).isNone && !s.edging d &&
    (List.range 4).all (fun k => (s.drawer d k).load.isNone)
  else if d < 40 then !s.routeThrough (d - 32)
  else if d < 52 then
    let t := domTier d
    !(s.tier.accs.any (fun a => a.tier == t && (a.st == .flight || a.st == .reread))) &&
    !(s.tier.leaf.any (fun e => e.2.moving && (e.2.home == t || e.2.dest == t)))
  else if d == 52 then
    s.host.reads.isEmpty && s.host.writes.isEmpty && s.host.waits.isEmpty &&
    s.host.rings.all (fun e => e.2.reading.isEmpty && e.2.toWrite.isEmpty)
  else if d < 61 then
    (List.range 4).all (fun j =>
      let l := s.link.links
      let st := (tget l (4 * (d - 53) + j)).st
      st == .sleep || st == .mappedOut || st == .off)
  else if d == 61 then
    s.srv.entries.all (fun e => e.2.waits) && s.srv.batches.all (fun b => b.2.rowsAt.isNone)
  else if d == 62 then s.wgt.queue.isEmpty && (List.range 4).all (fun p => (tget s.wgt.planers p).isNone)
  else if d == 63 then
    (List.range 32).all s.domDown && (List.range 23).all (fun i => s.domDown (40 + i)) &&
    s.jig.tasks.all (fun e => e.2.st != .issued && e.2.st != .placed)
  else false

/-- Idle time of a domain in ns (R468, R489); those without one of their own leave as soon as they are idle. -/
def State.idleTime (s : State) (d : Nat) : Nat :=
  1000 * (if d < 32 then s.obj 0x2100 0xA
    else if domTier d == 1 then s.obj 0x2100 0xC
    else if domTier d == 2 then s.obj 0x2100 0xD
    else if domTier d == 3 then s.obj 0x2100 0xE
    else if d == 61 then s.obj 0x2100 0xF
    else 0)

/-- Domains that are busy at a tick start their idle time again (R468). -/
def State.watchDomains (s : State) : State :=
  s.putPwr { s.pwr with doms := tmap s.pwr.doms (fun d x =>
    if x.st == .on && !s.domIdle d then { x with usedAt := s.clk.dcount } else x) }

/-- A tier's state follows its groups: RETENTION from the moment they begin to leave, IN_SERVICE once all are on again
(R232, R468). -/
def State.settleTier (s : State) (t : Nat) : State :=
  if t == 0 then s
  else
    let on := (s.tierDoms t).all s.domOn
    let st := s.tierSt t
    if st == 1 && !on then { s with tier := { s.tier with st := tset s.tier.st t 2 } }
    else if st == 2 && on then { s with tier := { s.tier with st := tset s.tier.st t 1 } }
    else s

/-- Domains that leave together with `d`: the enabled groups of a tier, else the domain alone (R468). -/
def State.leaveWith (s : State) (d : Nat) : List Nat := if domTier d != 0 then s.tierDoms (domTier d) else [d]

/-- DOMAIN_IDLE_EXPIRY. -/
def opDomainIdleExpiry (d : Nat) (s : State) : State :=
  let ds := s.leaveWith d
  let last := (s.dom (if domTier d != 0 then tierDom (domTier d) else d)).usedAt
  if ds.contains d && ds.all s.domOn && s.domIdle d && last + s.idleTime d ≤ s.clk.dcount then
    (ds.foldl (fun st x => st.putDom x { st.dom x with st := .sleeping, step := 4, deep := false, turn := false }) s).settleTier
      (domTier d)
  else s

def execDomainIdleExpiry (domain : Nat) (s : State) : Outcome := onUnit (domain < 65) (opDomainIdleExpiry domain) s

/-- A DDR5 channel group or downstream port in use whose tier holds tiles (R215). -/
def State.tierHolds (s : State) (d : Nat) : Bool :=
  2 ≤ domTier d && (s.tierDoms (domTier d)).contains d && !(s.usedFrames (domTier d)).isEmpty

/-- A domain in retention may go off: the last column of the domains table (R468). -/
def State.mayGoOff (s : State) (d : Nat) : Bool :=
  let long := (s.dom d).retAt + 1000 * s.obj 0x2100 0xB ≤ s.clk.dcount
  if d < 32 then long
  else if d < 40 then
    long && !s.routeThrough (d - 32) && (List.range 4).all (fun j => (s.dom (4 * (d - 32) + j)).st == .off)
  else if 45 ≤ d && d < 52 then long && !s.tierHolds d
  else if 53 ≤ d && d < 61 then
    long || (List.range 4).all (fun j =>
      let st := (tget s.link.links (4 * (d - 53) + j)).st
      st == .off || st == .mappedOut)
  else if d == 62 then long
  else false

/-- RETENTION_OFF_EXPIRY: the last step of the chain, the regulator, is undone. A channel group or port whose tier holds tiles
is not switched off: the attempt is refused with RESOURCE_LIMIT (R215). -/
def opRetentionOffExpiry (d : Nat) (s : State) : State :=
  let x := s.dom d
  if x.st != .retention then s
  else if s.mayGoOff d then s.putDom d { x with st := .sleeping, step := 1, deep := true, turn := false }
  else if s.tierHolds d then s.emit (.refused stResource)
  else s

def execRetentionOffExpiry (domain : Nat) (s : State) : Outcome := onUnit (domain < 65) (opRetentionOffExpiry domain) s

/-- What a domain loses as it goes OFF: a bay its drawers, banks, accumulators and scratch (R468, R471), a link group its
keys and sequence state. -/
def State.loseDomain (s : State) (d : Nat) : State :=
  if d < 32 then s.wipeBay d
  else if 53 ≤ d && d < 61 then
    { s with link := { s.link with links := tmap s.link.links (fun l x =>
      if l / 4 == d - 53 then { st := if x.st == .mappedOut then .mappedOut else .off } else x) } }
  else s

/-- The wake of a link group from OFF brings its links up under R413. -/
def State.trainGroup (s : State) (d : Nat) : State :=
  if 53 ≤ d && d < 61 then
    (List.range 4).foldl (fun st j =>
      let l := 4 * (d - 53) + j
      if (tget st.link.links l).st == .off then st.startLink l else st) s
  else s

/-- A domain's next wake step: ON after the fourth. A bay waits there for its panel's uncore, a route of which its logic
step needs (R470, R472). -/
def State.wakeStep (s : State) (d : Nat) (x : Domain) : State :=
  if x.step < 3 then s.putDom d { x with step := x.step + 1 }
  else if d < 32 && !s.domOn (32 + d / 4) then s
  else
    let s1 := s.putDom d { x with st := .on, step := 4, deep := false, usedAt := s.clk.dcount }
    (if x.deep then s1.trainGroup d else s1).settleTier (domTier d)

/-- A domain's next sleep step, the steps in reverse order. A wake source that has come turns it at this boundary
(R472, R475). -/
def State.sleepStep (s : State) (d : Nat) (x : Domain) : State :=
  let n := x.step - 1
  if n == 0 && x.deep then
    let s1 := (s.putDom d { x with st := .off, step := 0, deep := false, turn := false }).loseDomain d
    if x.turn then s1.wakeOne d else s1
  else if x.turn then s.putDom d { x with st := .waking, step := n, turn := false }
  else if n == 0 then s.putDom d { x with st := .retention, step := 0, retAt := s.clk.dcount }
  else s.putDom d { x with step := n }

/-- READY_CHAIN_STEP. -/
def opReadyChainStep (d : Nat) (s : State) : State :=
  let x := s.dom d
  match x.st with
  | .waking => s.wakeStep d x
  | .sleeping => s.sleepStep d x
  | _ => s

def execReadyChainStep (domain : Nat) (s : State) : Outcome := onUnit (domain < 65) (opReadyChainStep domain) s

/-- Domains that a wake source wakes (R474). -/
def wakeDomains : WakeSrc → List Nat
  | .link l => [53 + l / 4]
  | .cxl p => [p]
  | .doorbell requests => [52, 63] ++ (if requests then [61] else [])
  | .timer ds => ds
  | .demand d => [d]

/-- WAKE_SOURCE. -/
def opWakeSource (w : WakeSrc) (s : State) : State := (wakeDomains w).foldl (fun st d => st.wakeDom d) s

def execWakeSource (source : WakeSrc) (s : State) : Outcome := onUnit (wakeSourceOk source) (opWakeSource source) s

/-! ### The cap in force (R478, R480) -/

/-- Relative dynamic power of the operating points in thousandths (R476). -/
def opRelative : List Nat := [1000, 859, 730, 611, 504, 407, 339]

/-- Dynamic power of the present work at an operating point with A = 256, in mW (R476, R480). -/
def State.dynAt (s : State) (op : Nat) : Nat := s.pwr.dyn * opRelative.getD op 339 / 1000

/-- The highest operating point at which the present work stays within a power, OP6 if none does (R480). -/
def State.bestPoint (s : State) (limit : Nat) : Nat :=
  ((List.range 7).find? (fun op => s.pwr.fixed + s.dynAt op ≤ limit)).getD 6

/-- A panel uncore is being reset (R501 note p). -/
def State.uncoreReset (s : State) : Bool := (List.range 8).any (fun p => tget s.ren.action (32 + p) == 1)

/-- The next step towards the target begins, unless one is in progress or an uncore is being reset (R477, R501). -/
def State.beginStep (s : State) : State :=
  let p := s.pwr
  if p.stepTo.isSome || p.op == p.target || p.trip || s.uncoreReset then s
  else s.putPwr { p with stepTo := some (if p.op < p.target then p.op + 1 else p.op - 1) }

/-- The lowest of the limits (R478, R484, R486). -/
def State.lowestLimit (s : State) : Nat :=
  let p := s.pwr
  let provider := s.obj 0x2100 2
  let limits := [if p.orphan then p.orphanW else p.rackW, if provider == 0 then 1800 else provider,
    if p.throttle then p.thermMw / 1000 else 1800]
  limits.foldl min 1800

/-- A power in W less CAP_MARGIN, in mW (R479). -/
def State.within (s : State) (watts : Nat) : Nat := (watts - s.obj 0x2100 8) * 1000

/-- PWR_ALERT_N holds power down: asserted, or within PWR_ALERT_HOLD of its release (R485). -/
def State.alertHeld (s : State) : Bool := s.pwr.alertN || s.pwr.holdFrom.isSome

/-- The power that the gate keeps to, in mW (R479, R485). -/
def State.follow (s : State) : Nat :=
  s.within (if s.alertHeld then min s.pwr.capW (s.obj 0x2100 1) else s.pwr.capW)

/-- A for a power: the largest, from 8 to 256, at which the present work stays within it (R479). -/
def State.admitFor (s : State) (limit : Nat) : Nat :=
  let d := s.dynAt s.pwr.op
  if d == 0 then 256 else max 8 (min 256 ((limit - s.pwr.fixed) * 256 / d))

/-- Largest of a list, 0 for none. -/
def maxOf (l : List Nat) : Nat := l.foldl max 0

/-- Smallest of a list, `d` for none. -/
def minOf (d : Nat) (l : List Nat) : Nat := l.foldl min d

/-- The power above which POWER_W may not rise within its 100 µs window, in mW (R483). -/
def State.riseTo (s : State) : Nat :=
  match s.pwr.means with
  | [] => s.follow
  | m :: r => minOf m r + s.obj 0x2100 3 * 100 + 20000

/-- A is set for the cap and the rising limit: 8 while the cap is below the floor (R479 to R481, R483). -/
def State.setAdmit (s : State) : State :=
  s.putPwr { s.pwr with admitN := if s.pwr.unreach then 8 else s.admitFor (min s.follow s.riseTo) }

/-- The cap in force lies below POWER_FLOOR: OP6 with A = 8, its cause, its log entry and its count, once (R481). -/
def State.underFloor (s : State) : State :=
  if s.pwr.unreach then s
  else
    let s1 := s.putPwr { s.pwr with unreach := true, target := 6, admitN := 8 }
    (((s1.raiseCause 0 9 0).logErr (objKey 0x3700 2) stCap 0xFF 0xFF s.pwr.capW).bump 0x3700 2 1).beginStep

/-- The cap in force is taken anew. A change of it counts, sets a new target, begins a step towards it and sets A for it; below
the floor the target is OP6 (R480 to R482). -/
def State.recap (s : State) : State :=
  let c := s.lowestLimit
  if c == s.pwr.capW then s
  else
    let s1 := (s.putPwr { s.pwr with capW := c, target := if s.pwr.unreach then 6 else s.bestPoint (s.within c) }).bump 0x3700 1 1
    (if c < s.pwr.floorW then s1.underFloor else s1).beginStep.setAdmit

/-- The falling limit is suspended: power falls to meet a lower cap, or a fault or the trip stops work (R483). -/
def State.fallFree (s : State) : Bool :=
  s.follow < maxOf s.pwr.means || s.pwr.trip || s.jig.tasks.any (fun e => e.2.st == .teardown)

/-- The power below which POWER_W may not fall within its 100 µs window, in mW (R483). -/
def State.fallTo (s : State) : Nat := maxOf s.pwr.means - (s.obj 0x2100 4 * 100 + 20000)

/-- CAP_SAMPLE: POWER_W, the energies, ballast where power falls too fast, and A. -/
def opCapSample (power fixed dyn : Nat) (s : State) : State :=
  if s.pwr.trip || !s.clk.vin12 then s
  else
    let samples := power :: s.pwr.samples.take 99
    let mean := samples.sum / samples.length
    let short := if s.fallFree then 0 else s.fallTo - power
    let s1 := s.putPwr { s.pwr with
      samples := samples
      means := mean :: s.pwr.means.take 99
      fixed := fixed
      dyn := dyn
      energy := s.pwr.energy + power
      ballast := s.pwr.ballast + short
      ballastOn := short != 0 }
    s1.recap.setAdmit

def execCapSample (power fixed dyn : Nat) (s : State) : Outcome := .next (opCapSample power fixed dyn s)

/-- OP_STEP_DONE: the point is reached, A rises as far as the cap allows, and the next step may begin (R477, R480). -/
def opOpStepDone (s : State) : State :=
  match s.pwr.stepTo with
  | none => s
  | some n => ((s.putPwr { s.pwr with op := n, stepTo := none }).setAdmit).beginStep

def execOpStepDone (s : State) : Outcome := .next (opOpStepDone s)

/-- FLOOR_ESTIMATE. -/
def opFloorEstimate (watts : Nat) (s : State) : State :=
  let s1 := s.putPwr { s.pwr with floorW := watts }
  if s.pwr.capW < watts then s1.underFloor
  else if s.pwr.unreach then
    let s2 := s1.putPwr { s1.pwr with unreach := false }
    (s2.putPwr { s2.pwr with target := s2.bestPoint (s2.within s2.pwr.capW) }).beginStep
  else s1

def execFloorEstimate (watts : Nat) (s : State) : Outcome := .next (opFloorEstimate watts s)

/-! ### Orphan cap and PWR_ALERT_N (R484, R485) -/

/-- CAP_W as a rack cap: 0 and values above 1,800 give 1,800 (R478). -/
def rackCap (w : Nat) : Nat := if w == 0 || 1800 < w then 1800 else w

/-- A rack cap reaches power control; a good write ends the orphan cap where `ends` (R478, R484). -/
def State.rackArrives (s : State) (w id : Nat) (ends : Bool) : State :=
  (s.putPwr { s.pwr with rackW := rackCap w, rackId := id, orphan := s.pwr.orphan && !ends }).recap

/-- Process data is lost: the lower of ORPHAN_CAP and the last rack cap replaces the rack cap (R484). -/
def State.orphanCap (s : State) : State :=
  let s1 := s.putPwr { s.pwr with orphan := true, orphanW := min (s.obj 0x2100 1) s.pwr.rackW }
  (if s.pwr.orphan then s1 else (s1.bump 0x3700 3 1).raiseCause 0 9 3).recap

/-- PWR_ALERT_ASSERT: A drops to 8 at once. A renewed assertion within the hold extends it. -/
def opPwrAlertAssert (s : State) : State :=
  if s.pwr.alertN then s
  else
    let s1 := s.putPwr { s.pwr with alertN := true, holdFrom := none, admitN := 8 }
    if s.alertHeld then s1 else (s1.bump 0x3700 4 1).raiseCause 0 9 2

def execPwrAlertAssert (s : State) : Outcome := .next (opPwrAlertAssert s)

/-- PWR_ALERT_RELEASE. -/
def opPwrAlertRelease (s : State) : State :=
  if s.pwr.alertN then s.putPwr { s.pwr with alertN := false, holdFrom := some s.clk.dcount } else s

def execPwrAlertRelease (s : State) : Outcome := .next (opPwrAlertRelease s)

/-- PWR_ALERT_HOLD_EXPIRY: power returns to the cap in force under the rising limit. -/
def opPwrAlertHoldExpiry (s : State) : State :=
  match s.pwr.holdFrom with
  | none => s
  | some t => if t + 1000 * s.obj 0x2100 5 ≤ s.clk.dcount then (s.putPwr { s.pwr with holdFrom := none }).setAdmit else s

def execPwrAlertHoldExpiry (s : State) : Outcome := .next (opPwrAlertHoldExpiry s)

/-! ### Thermal throttle (R486) -/

/-- Thermal throttle comes into force at THERM_CAP. -/
def State.throttleOn (s : State) : State :=
  if s.pwr.throttle then s
  else
    let s1 := s.putPwr { s.pwr with
      throttle := true, thermMw := s.obj 0x2200 2 * 1000, throttleAt := s.clk.dcount, coolAt := none }
    (s1.raiseCause 0 9 1).recap

/-- THERM_ALERT_ASSERT. -/
def opThermAlertAssert (s : State) : State := (s.putPwr { s.pwr with thermN := true, coolAt := none }).throttleOn

def execThermAlertAssert (s : State) : Outcome := .next (opThermAlertAssert s)

/-- THERM_ALERT_RELEASE. -/
def opThermAlertRelease (s : State) : State := s.putPwr { s.pwr with thermN := false }

def execThermAlertRelease (s : State) : Outcome := .next (opThermAlertRelease s)

/-- Junction sensors: 16 of each of the 8 panels, then 8 of each of the 4 I/O dies (R23, R486). -/
def sensors : Nat := 160

/-- Die of a sensor, panels 0 to 7, then I/O dies 0 to 3 as 8 to 11 (R486, R489). -/
def sensorDie (n : Nat) : Nat := if n < 128 then n / 16 else 8 + (n - 128) / 8

/-- TJ_DIE: the highest sensor of a die (R489). -/
def State.dieTj (s : State) (die : Nat) : Nat := maxOf ((s.pwr.tj.filter (fun e => sensorDie e.1 == die)).map (fun e => e.2))

/-- JUNCTION_THROTTLE_REACHED: a sensor reads TJ_THROTTLE or more. -/
def opJunctionThrottleReached (sensor reading : Nat) (s : State) : State :=
  let s1 := s.putPwr { s.pwr with tj := tset s.pwr.tj sensor (max reading (tget s.pwr.tj sensor)) }
  if s.obj 0x2200 1 ≤ reading then s1.throttleOn else s1

def execJunctionThrottleReached (sensor reading : Nat) (s : State) : Outcome :=
  onUnit (sensor < sensors) (opJunctionThrottleReached sensor reading) s

/-- µs of throttle so far in the present span (THROTTLE_TIME). -/
def State.throttleSpan (s : State) : Nat := if s.pwr.throttle then (s.clk.dcount - s.pwr.throttleAt) / 1000 else 0

/-- THERMAL_STEP: while a sensor is hot the limit falls by a tenth, down to POWER_FLOOR; throttle ends once THERM_ALERT_N
is released and every sensor has been below TJ_THROTTLE − 5 °C for 10 ms. -/
def opThermalStep (readings : List Nat) (s : State) : State :=
  let tj := (List.range sensors).foldl (fun m i => tset m i (readings.getD i 0)) []
  let top := maxOf readings
  let limit := s.obj 0x2200 1
  let s0 := s.putPwr { s.pwr with tj := tj }
  if !s0.pwr.throttle then (if limit ≤ top then s0.throttleOn else s0)
  else if limit ≤ top then
    let w := s0.pwr.thermMw
    (s0.putPwr { s0.pwr with coolAt := none, thermMw := max (min w (s0.pwr.floorW * 1000)) (w * 9 / 10) }).recap
  else if s0.pwr.thermN || limit ≤ top + 50 then s0.putPwr { s0.pwr with coolAt := none }
  else match s0.pwr.coolAt with
    | none => s0.putPwr { s0.pwr with coolAt := some s.clk.dcount }
    | some t =>
      if t + 10000000 ≤ s.clk.dcount then
        let s1 := s0.bump 0x3700 5 s0.throttleSpan
        (s1.putPwr { s1.pwr with throttle := false, coolAt := none }).recap
      else s0

def execThermalStep (readings : List Nat) (s : State) : Outcome := .next (opThermalStep readings s)

end Sys2Proof.Machine
end

