-- ==== Sys2Proof/Machine/Renewal.lean ====
section
/-!
DEFINITION. Renewal of partitions (19_startup_renewal_and_mode_combinations.md): RENEW_CMD with its refusals (R496 to
R498), what each action does to each partition (R494), self-test and spares (R32, R70, R499), the return to service and
the ways out of a tier's failure (R235, R493, R495), and what the device does on its own under coppice (R499).
-/
namespace Sys2Proof.Machine

/-! ### Spares (R31, R32, R70, R499) -/

/-- The spare that serves a site's kind in its half of the bay, if one does (R32, R70). -/
def spareFor (row col : Nat) : Option Nat :=
  match siteKind row col with
  | .mxc => some (if row < 5 then 0 else 1)
  | .scc => some (if row < 5 then 2 else 3)
  | _ => none

/-- Entry `j` of a SUBST_MAP (R70). -/
def substEntry (m j : Nat) : Nat := m / 2 ^ (16 * j) % 65536

/-- A spare stands in for a site (R70). -/
def substituted (m row col : Nat) : Bool := (List.range 4).any (fun j => substEntry m j == 0x8000 + row * 16 + col)

/-- Spare `j` of a bay stands in for a site; SUBST_GEN counts the change (R70, R496). -/
def State.substitute (s : State) (b j row col : Nat) : State :=
  let m := s.obj 0x2C02 (b + 1)
  let s1 := s.putObj 0x2C02 (b + 1) (m - substEntry m j * 2 ^ (16 * j) + (0x8000 + row * 16 + col) * 2 ^ (16 * j))
  s1.putObj 0x2C03 (b + 1) ((s1.obj 0x2C03 (b + 1) + 1) % 65536)

/-- Self-test of one site that fails: its spare is brought in, and the site is tested again (R491, R499). -/
def testSite (b : Nat) (badSpares : List Nat) (log : Bool) (p : Bool × State) (key : Nat) : Bool × State :=
  let site := key % 120
  let row := site / 12
  let col := site % 12
  let s := if log then p.2.logErr (objKey 0x2C02 (b + 1)) 0 0xFF b (row * 16 + col) else p.2
  let m := s.obj 0x2C02 (b + 1)
  match spareFor row col with
  | none => (false, s)
  | some j =>
    if 0x8000 ≤ substEntry m j || substituted m row col then (false, s)
    else (p.1 && !badSpares.contains (b * 4 + j), s.substitute b j row col)

/-- Self-test of a bay: whether it passes, and the state with the spares it has brought in. -/
def State.selfTest (s : State) (b : Nat) (badSites badSpares : List Nat) (log : Bool) : Bool × State :=
  (badSites.filter (fun k => k / 120 == b && k % 120 < 120)).foldl (testSite b badSpares log) (true, s)

/-- A bay with no spare left stays out until the next start-up (R32, R499). -/
def State.bayNoSpare (s : State) (b : Nat) : State :=
  let s1 := ((s.setPart b 5).setBayIn b false).setAction b 0
  s1.putRen { s1.ren with noSpare := if s1.ren.noSpare.contains b then s1.ren.noSpare else s1.ren.noSpare ++ [b] }

/-! ### Firmware banks (R405, R459) -/

/-- What a bank of the flash holds: as the device wrote it, else as start-up found it. -/
def State.bank (s : State) (n : Nat) : Bank :=
  tgetD s.mgmt.flash n (((s.mgmt.facts.flash.find? (fun e => e.1 == n)).map (fun e => e.2)).getD {})

/-- SVN floor of a firmware kind, 0 Rhotur, 1 escutcheon (R405). -/
def State.svnFloor (s : State) (kind : Nat) : Nat := if kind == 0 then s.trust.svnFloor % 64 else s.trust.svnFloor / 256 % 64

/-- A firmware bank's image passes R405. -/
def State.bankRuns (s : State) (n : Nat) : Bool :=
  (s.bank n).ok && (s.bank n).svn < 64 && s.svnFloor (n / 2) ≤ (s.bank n).svn

/-- Running bank of a firmware kind. -/
def State.running (s : State) (kind : Nat) : Nat := 2 * kind + (if bitOf s.mgmt.fwBanks kind then 1 else 0)

/-- An image that has completed start-up raises the SVN floor of its kind to its own, where ADVANCE is set (R405). -/
def State.advance (s : State) (kind : Nat) : State :=
  let b := s.bank (s.running kind)
  let floors := if kind == 0 then s.trust.svnFloor / 64 * 64 + b.svn else s.trust.svnFloor % 256 + b.svn * 256
  if b.advance && b.svn < 64 && s.svnFloor kind < b.svn then { s with trust := { s.trust with svnFloor := floors } } else s

/-- Measurement blocks 0x02, 0x03 and 0x05 follow the running images (R391, R393). -/
def State.measureFirmware (s : State) : State :=
  let r := s.bank (s.running 0)
  let e := s.bank (s.running 1)
  { s with trust := { s.trust with
    meas := tset (tset (tset s.trust.meas 2 r.digest) 3 e.digest) 5 (s.trust.svnFloor + r.svn * 65536 + e.svn * 16777216) } }

/-! ### What leaves and restarts with a partition (R494) -/

/-- Units whose correction reserves a tier group or port renews: every near set has a device in each GDDR7 group
(R24, R212, R256). -/
def groupUnits (p : Nat) : List Nat :=
  if p < 45 then List.range 16
  else if p < 48 then (List.range 4).map (fun i => 16 + 3 * i + (p - 45))
  else [28 + 2 * (p - 48), 29 + 2 * (p - 48)]

/-- The correction reserves of a group's units are returned (R256, R496). -/
def State.returnReserves (s : State) (p : Nat) : State :=
  { s with code := { s.code with
    spent := s.code.spent.filter (fun e => !(groupUnits p).contains e.1)
    renew := s.code.renew.filter (fun e => !(groupUnits p).contains e.1) } }

/-- Tasks that hold, save, are saved on or restore a bay (R288). -/
def onBay (b : Nat) (t : Task) : Bool :=
  t.base ≤ b && b < t.base + t.nb &&
  (t.st == .placed || t.st == .saving || t.st == .saved || t.st == .restoring)

/-- RESET of a bay: its tasks are torn down with GONE, the instances that it is the base of end FAULTED, and it is cleared,
with the tokens on their way to it (R113, R288, R494). -/
def State.resetBay (s : State) (b : Nat) : State :=
  let n := (s.jig.tasks.filter (fun e => onBay b e.2)).length
  let s1 := (((s.abandonBay b).setBayIn b false).endTasks (onBay b) stGone).owe b n
  let s2 := (s1.insts.filter (fun e => e.1 / 4 == b)).foldl (fun st e => st.closeInst e.1 stGone true) s1
  (s2.netDrop b).wipeBay b

/-- A planer's shard goes back to the head of the queue, for another planer to take (R296, R494). -/
def State.requeueShard (s : State) (p : Nat) : State :=
  match tget s.wgt.planers p with
  | none => s
  | some x => s.putWgt { s.wgt with planers := tset s.wgt.planers p none, queue := x.job :: s.wgt.queue }

/-- Decisions of a graft unit restart from row 0 (R494). -/
def State.restartGraft (s : State) (g : Nat) : State :=
  s.putSrv { s.srv with batches := tmap s.srv.batches (fun _ b =>
    if b.phase == .verify then
      { b with members := ((List.range b.members.length).zip b.members).map (fun (e : Nat × BMember) =>
        if e.1 % 8 / 2 == g && !e.2.isOver then { e.2 with row := 0, cands := none, stops := [], accepted := [] } else e.2) }
    else b) }

/-- RESET of the serving-engine core: every entry ends with end reason 0x06 and GONE; thickets stay (R494). -/
def State.resetCore (s : State) : State :=
  let live := s.srv.entries.filter (fun e => e.2.st != .finishing)
  (s.putSrv { s.srv with
    entries := tmap s.srv.entries (fun _ e => if e.st == .finishing then e else { e with st := .finishing, code := 6, status := stGone })
    batches := tmap s.srv.batches (fun _ b => { b with members := [] }) }).owe 100 live.length

/-- RESET of the active jig: every graph and task is torn down with GONE (R494). -/
def State.resetJig (s : State) (p : Nat) : State :=
  (s.endTasks (fun _ => true) stGone).owe p (s.jig.tasks.filter (fun e => !e.2.st.isOver)).length

/-- A link leaves: its requests complete with GONE and its keys are given up (R428, R494). -/
def State.dropLink (s : State) (l : Nat) : State :=
  let n := (s.link.reqs.filter (fun r => r.link == l)).length
  let x := s.lnk l
  (((s.endLinkReqs l).putLnk l { txSwap := x.txSwap, rxSwap := x.rxSwap }).emit (.link l "IDLE" [])).owe (52 + l) n

/-- What a partition of a kind other than bay and uncore gives up as it leaves service. -/
def State.giveUp (s : State) (p : Nat) : State :=
  if p < 52 then s
  else if p < 84 then s.dropLink (p - 52)
  else if p < 88 then s.requeueShard (p - 84)
  else if p < 96 then s
  else if p < 100 then s.restartGraft (p - 96)
  else if p == 100 then s.resetCore
  else if p == s.ren.active then s.resetJig p
  else s

/-- An uncore begins to leave: its four bays are first taken OUT (R494). -/
def State.panelOut (s : State) (p a : Nat) : State :=
  let s1 := (s.setPart (32 + p) 1).setAction (32 + p) a
  ((panelBays p).foldl (fun st b => if st.part b == 0 && tget st.ren.action b == 0 then st.bayOut b else st) s1).settlePanel p

/-! ### RENEW_CMD (R496, R497) -/

/-- A tier group or port that the part and the tray enable (R26, R468). -/
def State.groupEnabled (s : State) (p : Nat) : Bool := (s.tierDoms (domTier p)).contains p

/-- A partition is out: OUT or OUT_NO_SPARE. -/
def State.isOut (s : State) (p : Nat) : Bool := s.part p == 2 || s.part p == 5

/-- A link that is mapped out returns only by LINK_MAINT (R437, R497). -/
def State.linkMapped (s : State) (p : Nat) : Bool := 52 ≤ p && p < 84 && (s.lnk (p - 52)).st == .mappedOut

/-- Spare, row and column of a SUBST's argument fit the bay (R32, R70, R497). -/
def State.substOk (s : State) (b arg : Nat) : Bool :=
  let row := bits arg 11 8
  let col := bits arg 15 12
  let m := s.obj 0x2C02 (b + 1)
  row < 10 && col < 12 && !siteSpare row col && spareFor row col == some (arg % 4) &&
  substEntry m (arg % 4) < 0x8000 && !substituted m row col

/-- An action applies to a partition in its present state (R494, R496, R497, R501 note k). -/
def State.renewApplies (s : State) (p act arg : Nat) : Bool :=
  let tier := domTier p
  match act with
  | 1 =>
    if 40 ≤ p && p < 52 then s.groupEnabled p && (if tier == 1 then s.recovery else s.tierSt tier == 3 && !s.recovery)
    else if p == s.ren.active then !s.ren.inStep
    else !s.linkMapped p
  | 2 => (p < 40 || (52 ≤ p && p < 100)) && s.part p == 0 && !s.linkMapped p
  | 3 => (p < 40 || (52 ≤ p && p < 100)) && s.isOut p && !s.linkMapped p
  | 4 => (40 ≤ p && p < 52 && s.groupEnabled p && s.part p == 0 && (s.tierSt tier == 1 || s.tierSt tier == 2)) ||
    (p == 100 && s.part p == 0)
  | 5 =>
    if p == 101 || p == 102 then p == s.ren.active && s.ren.inStep
    else (p == 103 || p == 104) && s.part p == 0 && s.bankRuns (2 * (p - 103) + (if bitOf s.mgmt.fwBanks (p - 103) then 0 else 1))
  | 6 => p < 32 && s.isOut p && s.substOk p arg
  | _ => false

/-- RESET (R494, R496). A partition that is out already leaves no more. -/
def State.renewReset (s : State) (p : Nat) : State :=
  if 32 ≤ p && p < 40 then
    if s.part p == 0 then s.panelOut (p - 32) 1 else (s.setAction p 1).setPart p 3
  else
    let s1 := if s.isOut p then s else s.leave p
    let s2 := if p < 32 then s1.resetBay p else s1.giveUp p
    let s3 := if 101 ≤ p && p < 103 then s2.putRen { s2.ren with inStep := false } else s2
    let s4 := (s3.setAction p 1).setPart p 3
    if 52 ≤ p && p < 84 then s4.startLink (p - 52) else s4

/-- OUT (R494, R496). -/
def State.renewOut (s : State) (p : Nat) : State :=
  if p < 32 then s.bayOut p
  else if p < 40 then s.panelOut (p - 32) 2
  else ((((s.leave p).giveUp p).setPart p 2).setAction p 0).renewResult p 2

/-- IN: a bay is cleared for its self-test, a link brought up (R496). -/
def State.renewIn (s : State) (p : Nat) : State :=
  let s1 := (s.setAction p 3).setPart p 3
  if p < 32 then s1.wipeBay p else if 52 ≤ p && p < 84 then s1.startLink (p - 52) else s1

/-- RECAL: the partition stays in service and its accesses are held (R496). -/
def State.renewRecal (s : State) (p : Nat) : State :=
  let s1 := (s.setAction p 4).setPart p 4
  s1.putRen { s1.ren with leftAt := tset s1.ren.leftAt p s1.clk.dcount }

/-- The standby bit of a jig partition (R502). -/
def State.setStandby (s : State) (p : Nat) (on : Bool) : State :=
  s.putObj 0x2012 (p + 1) (s.part p + (if on then 128 else 0))

/-- HANDOVER: service moves to the partner; the other verified bank of a firmware kind runs (R393, R405, R459, R496). -/
def State.renewHandover (s : State) (p : Nat) : State :=
  let s1 := if p < 103 then
      ((s.setStandby p true).setStandby (203 - p) false).putRen { s.ren with active := 203 - p, inStep := false }
    else
      let k := p - 103
      let s0 := { s with mgmt := { s.mgmt with fwBanks := putBit s.mgmt.fwBanks k (!bitOf s.mgmt.fwBanks k) } }
      (s0.advance k).measureFirmware
  (s1.bump 0x3720 (p + 1) 1).renewResult p 2

/-- SUBST (R496). -/
def State.renewSubst (s : State) (p arg : Nat) : State :=
  (s.substitute p (arg % 4) (bits arg 11 8) (bits arg 15 12)).renewResult p 2

/-- A write of RENEW_CMD: refused with RESULT 3 and an error-log entry, or carried out (R496, R497). An OUT of a channel group
or port whose tier holds tiles is logged with RESOURCE_LIMIT (R215). -/
def State.renewCmd (s : State) (v : Nat) : State :=
  let p := v % 256
  let act := bits v 11 8
  let arg := v / 65536
  let s1 := s.putObj 0x2010 3 (p + act * 256 + 4096)
  if s.clk.phase != .service || 104 < p || tget s.ren.action p != 0 || !(s.renewApplies p act arg) then
    let st := if act == 2 && p < 52 && s.tierHolds p then stResource else stOk
    (s1.putObj 0x2010 3 (p + act * 256 + 3 * 4096)).logErr (objKey 0x2010 2) st 0xFF p v
  else match act with
    | 1 => s1.renewReset p
    | 2 => s1.renewOut p
    | 3 => s1.renewIn p
    | 4 => s1.renewRecal p
    | 5 => s1.renewHandover p
    | _ => s1.renewSubst p arg

/-- RESET. -/
def opReset (p : Nat) (s : State) : State := s.renewCmd (p + 0x100)
def execReset (part : Nat) (s : State) : Outcome := onUnit (part < 256) (opReset part) s

/-- OUT. -/
def opOut (p : Nat) (s : State) : State := s.renewCmd (p + 0x200)
def execOut (part : Nat) (s : State) : Outcome := onUnit (part < 256) (opOut part) s

/-- IN. -/
def opIn (p : Nat) (s : State) : State := s.renewCmd (p + 0x300)
def execIn (part : Nat) (s : State) : Outcome := onUnit (part < 256) (opIn part) s

/-- RECAL. -/
def opRecal (p : Nat) (s : State) : State := s.renewCmd (p + 0x400)
def execRecal (part : Nat) (s : State) : Outcome := onUnit (part < 256) (opRecal part) s

/-- HANDOVER. -/
def opHandover (p : Nat) (s : State) : State := s.renewCmd (p + 0x500)
def execHandover (part : Nat) (s : State) : Outcome := onUnit (part < 256) (opHandover part) s

/-- SUBST. -/
def opSubst (b arg : Nat) (s : State) : State := s.renewCmd (b + 0x600 + arg % 65536 * 65536)
def execSubst (bay arg : Nat) (s : State) : Outcome := onUnit (bay < 256) (opSubst bay arg) s

/-! ### How a renewal ends (R495 to R497) -/

/-- RECAL_DONE: the reserves are returned and the accesses go on; ACCESS_LIMIT has not run for them. -/
def opRecalDone (p : Nat) (s : State) : State :=
  if s.part p != 4 then s
  else
    let gone := s.clk.dcount - tget s.ren.leftAt p
    let s1 := if p < 52 then
        let go := fun (a : Acc) =>
          if a.tier == domTier p && (a.st == AccSt.flight || a.st == AccSt.reread) then
            { a with since := min s.clk.dcount (a.since + gone) }
          else a
        ({ s with tier := { s.tier with accs := s.tier.accs.map go } } : State).returnReserves p
      else s
    ((s1.setPart p 0).setAction p 0).renewResult p 2

def execRecalDone (part : Nat) (s : State) : Outcome := onUnit (part < 105) (opRecalDone part) s

/-- STANDBY_RESYNC: a standby that is in service is in step again (R496). -/
def opStandbyResync (s : State) : State :=
  if s.part (203 - s.ren.active) == 0 then s.putRen { s.ren with inStep := true } else s

def execStandbyResync (s : State) : Outcome := .next (opStandbyResync s)

/-- A partition is back in service (R495). -/
def State.partBack (s : State) (p : Nat) : State :=
  (((s.setPart p 0).setAction p 0).bump 0x3720 (p + 1) 1).renewResult p 2

/-- A partition fails its return and stays out (R497). -/
def State.partFails (s : State) (p : Nat) : State := ((s.setPart p 2).setAction p 0).renewResult p 4

/-- A FAILED tier returns once every enabled group or port of it has passed: with all frames free, and with the near
tier the device leaves recovery service (R235, R493). -/
def State.tierBack (s : State) (t : Nat) : State :=
  let mine := s.tierDoms t
  if !(mine.all s.ren.passed.contains) then s
  else
    let s1 := s.putRen { s.ren with passed := s.ren.passed.filter (fun p => !mine.contains p) }
    if t == 1 then
      let st := fun (m : Tbl Nat) (x : Nat) => if tget m x == 0 then m else tset m x 1
      ({ s1 with tier := { s1.tier with st := [1, 2, 3].foldl st s1.tier.st, objs := [], leaf := [] } }).putObj 0x2010 5 0
    else { s1 with tier := { s1.tier with st := tset s1.tier.st t 1 } }

/-- PARTITION_RETURN: no sooner than the drain bound after the partition left. A bay runs its self-test; a link returns
once it is UP and fails once it is mapped out. -/
def opPartitionReturn (p : Nat) (ok : Bool) (badSites badSpares : List Nat) (s : State) : State :=
  if s.part p != 3 || s.clk.dcount < tget s.ren.leftAt p + s.drainBound p then s
  else if p < 32 then
    let (passes, s1) := s.selfTest p badSites badSpares false
    if !passes || s.ren.noSpare.contains p then (s1.bayNoSpare p).renewResult p 4
    else if !ok then s1.partFails p
    else (s1.setBayIn p true).partBack p
  else if 52 ≤ p && p < 84 then
    match (s.lnk (p - 52)).st with
    | .up => s.partBack p
    | .mappedOut => s.partFails p
    | _ => s
  else if !ok then s.partFails p
  else if p < 40 then (s.partBack p).netSettle.beginStep
  else if p < 52 then
    let s1 := (s.partBack p).returnReserves p
    (s1.putRen { s1.ren with passed := if s1.ren.passed.contains p then s1.ren.passed else s1.ren.passed ++ [p] }).tierBack
      (domTier p)
  else s.partBack p

/-! ### Coppice (R499) -/

/-- COPPICE_ACTION: the device acts on the oldest report. A bay goes OUT, and once it is out it is taken IN again; a lane
is swapped. A report of a bay on which a renewal runs goes to the end of the list. -/
def opCoppiceAction (s : State) : State :=
  match s.ren.reports with
  | [] => s
  | r :: rest =>
    let done := s.putRen { s.ren with reports := rest }
    let later := fun (x : Report) => s.putRen { s.ren with reports := rest ++ [x] }
    if s.clk.phase != .service then s
    else match r with
      | .lane l lane => done.swapLane l lane
      | .bay b =>
        if tget s.ren.action b != 0 then later r
        else if s.part b == 0 then (later (.back b)).bayOut b
        else done
      | .back b =>
        if tget s.ren.action b != 0 then later r
        else if s.part b == 2 then done.renewIn b
        else done

def execCoppiceAction (s : State) : Outcome := .next (opCoppiceAction s)

end Sys2Proof.Machine
end

