-- ==== Sys2Proof/Machine/StartUp.lean ====
section
/-!
DEFINITION. The supplies and start-up (R488, R490 to R492, R510, R512): what a loss of a supply takes, the start-up
steps with the places where a start-up waits (R464, R492, R512, R518), the trip (R487), and the loss and return of the
reference clocks.
-/
namespace Sys2Proof.Machine

/-- The state with the management port replaced. -/
def State.putMgmt (s : State) (m : Mgmt) : State := { s with mgmt := m }

/-! ### What a loss of VIN12 takes (R488) -/

/-- The mapped-out links keep their state; every other link is OFF (R436). -/
def State.mappedLinks (s : State) : Tbl Link :=
  ((List.range 32).filter (fun l => bitOf (s.obj 0x2601 1) l)).map (fun l => (l, { st := .mappedOut }))

/-- Every domain but the always-on one goes OFF at once and what it held is lost. The always-on domain keeps the clock,
the dictionary, the error log, the mapped-out set, the EtherCAT controller and power control's lands (R436, R442, R447,
R466, R488); the one-time-programmable floors and the flash keep what they hold. -/
def State.powerLost (s : State) : State :=
  let r := State.reset
  let s1 : State := { r with
    clk := { s.clk with phase := .off }
    dict := { s.dict with staged := none }
    log := s.log
    trust := { r.trust with svnFloor := s.trust.svnFloor, powerOns := s.trust.powerOns, serial := s.trust.serial }
    link := { r.link with links := s.mappedLinks }
    pwr := { r.pwr with
      doms := [(64, { st := .on })]
      rackW := s.pwr.rackW
      rackId := s.pwr.rackId
      alertN := s.pwr.alertN
      holdFrom := s.pwr.holdFrom
      thermN := s.pwr.thermN
      tj := s.pwr.tj
      trip := s.pwr.trip
      vin12Mv := s.pwr.vin12Mv
      vaon33Mv := s.pwr.vaon33Mv
      refLost := s.pwr.refLost }
    mgmt := { s.mgmt with path := none, held := [], waitAt := none }
    out := s.out
    free := s.free
    pending := s.pending }
  if s.host.alert then s1.emit (.land "ALERT_N" false) else s1

/-! ### The memories that start-up finds (R207, R213 to R215, R246, R247, R251, R252) -/

/-- Data capacities accepted, in GiB (R246). -/
def dimmFits (d : Dimm) : Bool :=
  d.ecc && d.trained && (if d.mr then [64, 96, 128, 256] else [32, 64, 96, 128, 256]).contains d.gib

/-- DIMM of a channel. -/
def dimmAt (x : StartFacts) (c : Nat) : Option Dimm := x.dimms.find? (fun d => d.channel == c)

/-- A channel group passes: every channel of it carries a DIMM that fits, and all are of one type (R246, R247). -/
def groupPasses (x : StartFacts) (g : Nat) : Bool :=
  let ds := (List.range 4).map (fun i => dimmAt x (3 * i + g))
  bitOf x.groups g && ds.all (fun d => match d with | some d => dimmFits d | none => false) &&
  (ds.all (fun d => match d with | some d => d.mr | none => false) || ds.all (fun d => match d with | some d => !d.mr | none => false))

/-- Type of a group's DIMMs. -/
def groupType (x : StartFacts) (g : Nat) : Bool := match dimmAt x g with | some d => d.mr | none => false

/-- The groups that join the middle tier's set: those that pass and are of the type of the lowest of them (R246). -/
def groupsIn (x : StartFacts) : List Nat :=
  let ok := [0, 1, 2].filter (groupPasses x)
  ok.filter (fun g => groupType x g == groupType x (ok.headD 0))

/-- Capacity in GiB that every channel of the set is limited to (R215). -/
def midCapacity (x : StartFacts) : Nat :=
  let caps := (groupsIn x).flatMap (fun g => (List.range 4).map (fun i =>
    match dimmAt x (3 * i + g) with | some d => d.gib | none => 0))
  minOf (maxOf caps) caps

/-- The expanders that join the large tier's set: supported, ×8 or wider, of 4 GiB or more; the upper group of a port only
where CXL_BIFURCATE splits it (R214, R251, R252). -/
def State.expandersIn (s : State) (x : StartFacts) : List Expander :=
  x.expanders.filter (fun e => e.pos < 8 && e.good && 8 ≤ e.width && 2 ^ 32 ≤ e.raw &&
    (e.pos % 2 == 0 || bitOf (s.obj 0x2422 1) (e.pos / 2)))

/-- Mask of a list of numbers. -/
def maskOf (l : List Nat) : Nat := l.foldl setBit 0

/-- The tiers as start-up brings them up (R207, R215, R247, R251); what stays out of a set is logged. -/
def State.startTiers (s : State) (x : StartFacts) : State :=
  let gs := groupsIn x
  let channels := gs.flatMap (fun g => (List.range 4).map (fun i => 3 * i + g))
  let es := s.expandersIn x
  let raw := minOf (maxOf (es.map (fun e => e.raw))) (es.map (fun e => e.raw))
  let mid := channels.length * midCapacity x * 16384
  let large := es.length * (raw / 320) / 256
  let s1 := { s with tier := { s.tier with
    st := [(1, 1), (2, if channels.isEmpty then 0 else 1), (3, if es.isEmpty then 0 else 1)]
    frames := [(1, 16777216), (2, mid), (3, large)]
    channels := maskOf channels
    expanders := maskOf (es.map (fun e => e.pos))
    expCap := raw } }
  let lost := [0, 1, 2].filter (fun g => bitOf x.groups g && !gs.contains g)
  let left := x.expanders.filter (fun e => !es.contains e)
  let s2 := lost.foldl (fun st g => st.logErr (objKey 0x2400 1) 0 0xFF g 0) s1
  let s3 := left.foldl (fun st e => st.logErr (objKey 0x3317 (e.pos + 1)) 0 0xFF (28 + e.pos) 0) s2
  let slow := es.filter (fun e => e.rate ≤ 32)
  let s4 := slow.foldl (fun st e =>
    (st.logErr (objKey 0x2422 (e.pos + 2)) 0 0xFF (28 + e.pos) (e.rate * 256 + e.width)).bump 0x3317 (e.pos + 1) 1) s3
  if x.gddrOk then s4 else s4.failTier 1

/-! ### The start-up steps (R490, R491) -/

/-- Objects whose written value waits for the next start-up and is kept for it (R447, R448). -/
def keptObjects : List Nat := [objKey 0x2400 6, objKey 0x2422 1, objKey 0x2600 1, objKey 0x2600 2]

/-- Step 6: every object takes its default, the record of the configuration image in its place where it has one, and the
kept value of an object of R448 before either (R447). The mapped-out set is the always-on domain's (R436). -/
def State.applyDefaults (s : State) (records : List (Nat × Nat × Nat)) : State :=
  let base : Tbl Nat := tset Dict.reset.vals (objKey 0x2601 1) (s.obj 0x2601 1)
  let v1 := records.foldl (fun m r => tset m (objKey r.1 r.2.1) r.2.2) base
  let v2 := s.dict.kept.foldl (fun m e => tset m e.1 e.2) v1
  { s with dict := { Dict.reset with vals := v2, kept := s.dict.kept, probe := tget v2 (objKey 0x2402 5) } }

/-- The fabric windows of the DEFAULTS section take effect (R423, R447). -/
def State.startWindows (s : State) : State :=
  (List.range 128).foldl (fun st n =>
    match tfind s.dict.vals (objKey 0x2620 (n + 1)) with
    | some v => opFabricWindowWrite n (leBytes v 32) st
    | none => st) s

/-- A JTAG test instruction is loaded, which holds step 7 off (R518). -/
def testOp (o : JtagOp) : Bool :=
  match o with
  | .extest | .extestPulse | .extestTrain | .clamp | .highz => true
  | _ => false

/-- Domains at the end of start-up: all are on but DDR5 groups and ports that are not enabled (R26, R468). -/
def State.startDomains (s : State) : State :=
  let ds := (List.range 65).filter (fun d =>
    if 45 ≤ d && d < 52 then (s.tierDoms (domTier d)).contains d else true)
  s.putPwr { s.pwr with doms := ds.map (fun d => (d, { st := .on, step := 4, usedAt := s.clk.dcount })) }

/-- Power control begins: the orphan cap is in force, at OP0 (R484); a land that is still asserted acts again. -/
def State.startPower (s : State) : State :=
  let s1 := s.putPwr { s.pwr with orphan := true, orphanW := s.obj 0x2100 1, op := 0, target := 0, stepTo := none, admitN := 256 }
  let s2 := s1.putPwr { s1.pwr with capW := s1.lowestLimit }
  let s3 := if s2.pwr.alertN then (s2.bump 0x3700 4 1).raiseCause 0 9 2 else s2
  if s3.pwr.thermN || s3.obj 0x2200 1 ≤ maxOf (s3.pwr.tj.map (fun e => e.2)) then s3.throttleOn else s3

/-- Step 8: the self-test of the 32 bays, each failing site answered by its spare (R491, R499). -/
def State.testBays (s : State) (x : StartFacts) : State :=
  (List.range 32).foldl (fun st b =>
    let (ok, s1) := st.selfTest b x.badSites x.badSpares true
    if ok then s1.setBayIn b true else (s1.bayNoSpare b).raiseCause 0 11 1) s

/-- Bring-up of a link at start-up (R413, R491). -/
def State.bringUp (s : State) (l : Nat) : State := let s1 := s.startLink l; s1.putLnk l { s1.lnk l with first := true }

/-- Steps 7 to 9: the memories and links, the self-test, the jig and its mirror in step; then the device serves. -/
def State.startRest (s : State) : State :=
  let x := s.mgmt.facts
  let s1 := ((s.putMgmt { s.mgmt with waitAt := none }).startTiers x).startWindows
  let s2 := { s1 with clk := { s1.clk with phase := .service } }
  let s3 := (List.range 32).foldl (fun st l => if (st.lnk l).st == .mappedOut then st else st.bringUp l) s2
  let s4 := (s3.testBays x).startDomains
  let s5 := s4.putRen { s4.ren with active := 101, inStep := true }
  let s6 := (((s5.advance 0).advance 1).measureFirmware).startPower
  s6.putObj 0x2010 4 x.micros

/-- Step 7 begins, or waits while a test instruction is loaded (R518). -/
def State.startStep7 (s : State) : State :=
  if testOp s.clk.jtag then
    ({ s with clk := { s.clk with phase := .starting } } : State).putMgmt { s.mgmt with waitAt := some .scan }
  else s.startRest

/-- Of the configuration copies that pass, the one with the higher SEQ, copy A on equal SEQ (R461). -/
def State.pickConfig (s : State) : Option Nat :=
  let a := s.bank 4
  let b := s.bank 5
  if a.ok && b.ok then some (if a.seq < b.seq then 5 else 4)
  else if a.ok then some 4
  else if b.ok then some 5
  else none

/-- In HOLD EtherCAT stays in PRE-OP, in BOOT_WAIT in INIT or BOOT: a higher state is left (R464, R492). -/
def State.dropEsm (s : State) (low : EsmSt) : State :=
  match s.mgmt.esm with
  | .safeop | .op => s.putMgmt { s.mgmt with esm := low }
  | .preop => s.putMgmt { s.mgmt with esm := if low == .init then .init else .preop }
  | _ => s

/-- Step 6 (R447, R461, R464, R491). -/
def State.startStep6 (s : State) : State :=
  match s.pickConfig with
  | none =>
    let s1 := (s.applyDefaults []).logErr (objKey 0x2000 1) 0 0xFF 0xFF 0
    (({ s1 with clk := { s1.clk with phase := .hold } } : State).putMgmt { s1.mgmt with waitAt := some .config }).dropEsm .preop
  | some n =>
    let b := s.bank n
    let s1 := (s.applyDefaults b.dflts).putMgmt { s.mgmt with cfgBank := n }
    let s2 := { s1 with trust := { s1.trust with meas := tset s1.trust.meas 4 b.digest } }
    s2.startStep7

/-- The bank of a firmware kind that starts: the preferred one if it passes, else the other (R459). -/
def State.pickBank (s : State) (kind : Nat) : Option Nat :=
  let p := 2 * kind + (if bitOf (s.obj 0x2001 1) kind then 1 else 0)
  let q := 4 * kind + 1 - p
  if s.bankRuns p then some p else if s.bankRuns q then some q else none

/-- The alias certificate of this power-on: agreement public key, firmware measurement, power-on count (R389). -/
def State.issueAlias (s : State) : State :=
  let m := fun (i : Nat) => leBytes (tget s.trust.meas i) 64
  let cert := Config.x448Public s.trust.agree ++ m 2 ++ m 3 ++ leBytes s.trust.powerOns 8
  { s with trust := { s.trust with aliasCert := cert } }

/-- Steps 4 and 5: the firmware banks, the alias certificate, the measurement blocks (R389, R391, R459, R491, R492). -/
def State.startStep4 (s : State) : State :=
  match s.pickBank 1, s.pickBank 0 with
  | some e, some r =>
    let s1 := s.putMgmt { s.mgmt with waitAt := none, fwBanks := r % 2 + e % 2 * 2 }
    ({ s1 with
      clk := { s1.clk with phase := .starting }
      trust := { s1.trust with meas := tset s1.trust.meas 1 s1.mgmt.facts.rom } } : State).measureFirmware.issueAlias.startStep6
  | _, _ =>
    let s1 := s.logErr (objKey 0x2001 2) 0 0xFF 0xFF 0
    (({ s1 with clk := { s1.clk with phase := .bootWait } } : State).putMgmt { s1.mgmt with waitAt := some .firmware }).dropEsm .init

/-- Step 3: the keys of the escutcheon, each SHAKE256 over the device secret and its label, and the agreement key from the random
source. A PUF that does not match the certificate gives a secret of its own (R387, R388). -/
def State.deriveKeys (s : State) : State :=
  let x := s.mgmt.facts
  let secret := if x.devIdOk then Config.deviceSecret else leBytes (Config.freeNat (s.free + 1)) 32
  let key := fun (label n : Nat) => shakeNat (secret ++ [label]) n
  { s with
    free := s.free + 2
    trust := { s.trust with
      provKeys := true, devId := key 1 57, provXts := key 2 64, provTag := key 3 32
      agree := Config.freeNat s.free % 2 ^ 448
      noId := !x.devIdOk, serial := x.serial, powerOns := s.trust.powerOns + 1 } }

/-- Steps 2 and 3: the boot ROM starts; without REFCLK_CORE the device stays here. A key that does not match the DevID
certificate gives NO_IDENTITY (R388, R490, R512). -/
def State.startStep2 (s : State) : State :=
  let s0 := { s with clk := { s.clk with phase := .starting } }
  if bitOf s0.pwr.refLost 0 then (s0.putMgmt { s0.mgmt with waitAt := some .clock }).logErr (objKey 0x2000 4) 0 0xFF 0xFF 0
  else
    let x := s0.mgmt.facts
    let s1 := s0.deriveKeys
    let s2 := if x.devIdOk then s1 else s1.logErr (objKey 0x2A00 1) 0 0xFF 0xFF 0
    (s2.putMgmt { s2.mgmt with waitAt := none }).startStep4

/-! ### Supplies (R488, R490, R510) -/

/-- The population that a set of channel groups stands for: D12, D08 or D04 (R26). -/
def populationOf (groups : Nat) : Nat := if bitOf groups 2 then 7 else if bitOf groups 1 then 3 else 1

/-- VIN12_RISE: VIN12 has stayed in range; with VAON33 present start-up runs from step 2. A trip that is still held keeps
the device down (R487). -/
def opVin12Rise (mv : Nat) (x : StartFacts) (s : State) : State :=
  if s.clk.vin12 then s
  else
    let pop := s.mgmt.population.getD (populationOf x.groups)
    let s1 := { s with
      clk := { s.clk with vin12 := true }
      pwr := { s.pwr with vin12Mv := mv }
      mgmt := { s.mgmt with facts := { x with groups := pop }, population := some pop } }
    if s1.clk.vaon33 && !s1.pwr.trip then s1.startStep2 else s1

def execVin12Rise (mv : Nat) (facts : StartFacts) (s : State) : Outcome := .next (opVin12Rise mv facts s)

/-- VIN12_LOW. -/
def opVin12Low (mv : Nat) (s : State) : State :=
  if !s.clk.vin12 then s
  else
    let s1 := { s with clk := { s.clk with vin12 := false }, pwr := { s.pwr with vin12Mv := mv } }
    if s1.clk.vaon33 then ((s1.powerLost).logErr (objKey 0x3700 8) 0 0xFF 0xFF mv).bump 0x3700 8 1 else s1

def execVin12Low (mv : Nat) (s : State) : Outcome := .next (opVin12Low mv s)

/-- VAON33_APPLY: step 1; where VIN12 is in range already, start-up goes on from step 2 (R490). -/
def opVaon33Apply (mv : Nat) (s : State) : State :=
  if s.clk.vaon33 then s
  else
    let s1 := { s with
      clk := { Clk.reset with vaon33 := true, vin12 := s.clk.vin12 }
      log := ErrLog.reset
      pwr := { s.pwr with doms := [(64, { st := .on, step := 4 })], vaon33Mv := mv } }
    if s1.clk.vin12 then s1.startStep2 else s1

def execVaon33Apply (mv : Nat) (s : State) : Outcome := .next (opVaon33Apply mv s)

/-- VAON33_LOSS: everything is lost; the flash and the one-time-programmable floors keep what they hold (R488). -/
def opVaon33Loss (s : State) : State :=
  if !s.clk.vaon33 then s
  else
    let r := State.reset
    let s1 : State := { r with
      clk := { r.clk with vin12 := s.clk.vin12 }
      trust := { r.trust with svnFloor := s.trust.svnFloor, powerOns := s.trust.powerOns }
      pwr := { r.pwr with vin12Mv := s.pwr.vin12Mv, refLost := s.pwr.refLost }
      mgmt := { r.mgmt with flash := s.mgmt.flash, facts := s.mgmt.facts, population := s.mgmt.population, ports := s.mgmt.ports }
      out := s.out
      free := s.free
      pending := s.pending }
    let s2 := if s.host.alert then s1.emit (.land "ALERT_N" false) else s1
    if s.pwr.trip then s2.emit (.land "THERMTRIP_N" false) else s2

def execVaon33Loss (s : State) : Outcome := .next (opVaon33Loss s)

/-! ### The trip (R487) -/

/-- THERMTRIP: the memories go into self refresh, every PLL stops, the links idle; tasks, requests and keys are lost. -/
def opThermtrip (sensor : Nat) (s : State) : State :=
  if s.pwr.trip || !s.clk.vaon33 then s
  else
    let doms := tmap s.pwr.doms (fun d x =>
      if d == 64 || x.st == .off then x else { x with st := .retention, step := 0, deep := false, turn := false })
    let s1 := (((s.powerLost).logErr (objKey 0x2200 3) 0 0xFF (sensorDie sensor) 1100).emit (.land "THERMTRIP_N" true))
    s1.putPwr { s1.pwr with doms := doms, trip := true, tj := tset s1.pwr.tj sensor 1100 }

def execThermtrip (sensor : Nat) (s : State) : Outcome := onUnit (sensor < sensors) (opThermtrip sensor) s

/-! ### Reference clocks (R512) -/

/-- SPLREF of an I/O die is lost: its links leave UP, their requests complete with GONE, and bring-up is retried. -/
def State.dieLinksDown (s : State) (i : Nat) : State :=
  (List.range 8).foldl (fun st j =>
    let l := 8 * i + j
    let x := st.lnk l
    if x.st == .off || x.st == .mappedOut then st else (st.endLinkReqs l).startLink l) s

/-- REFCLK_LOSS. -/
def opRefclkLoss (n : Nat) (s : State) : State :=
  if bitOf s.pwr.refLost n || !s.clk.vaon33 then s
  else
    let s1 := s.putPwr { s.pwr with refLost := setBit s.pwr.refLost n }
    if n == 0 then
      if s1.clk.phase == .off then s1
      else ((s1.powerLost).logErr (objKey 0x2000 4) 0 0xFF 0xFF 0).putMgmt { s1.powerLost.mgmt with waitAt := some .clock }
    else if n == 1 then opHostLinkDown s1
    else s1.dieLinksDown (n - 2)

def execRefclkLoss (clock : Nat) (s : State) : Outcome := onUnit (clock < 6) (opRefclkLoss clock) s

/-- REFCLK_RETURN: a start-up that waits for REFCLK_CORE, or was stopped by its loss, is taken from step 2. -/
def opRefclkReturn (n : Nat) (s : State) : State :=
  if !bitOf s.pwr.refLost n then s
  else
    let s1 := s.putPwr { s.pwr with refLost := clrBit s.pwr.refLost n }
    if n == 0 && s1.mgmt.waitAt == some .clock && s1.clk.vin12 && s1.clk.vaon33 then s1.startStep2 else s1

def execRefclkReturn (clock : Nat) (s : State) : Outcome := onUnit (clock < 6) (opRefclkReturn clock) s

/-! ### Boundary scan (R517, R518) -/

/-- Test instructions take effect only before step 7, or in HOLD or BOOT_WAIT; the boundary register needs VIN12. -/
def State.scanOpen (s : State) : Bool := s.clk.phase == .starting || s.clk.phase == .hold || s.clk.phase == .bootWait

/-- The escutcheon firmware runs, so that the mailbox can be answered (R406, R490). -/
def State.escutcheonUp (s : State) : Bool := s.clk.phase == .service || s.clk.phase == .hold

/-- JTAG_INSTRUCTION: an opcode that is not open acts as BYPASS; a test instruction outside its times loads as BYPASS and
is logged. A start-up that waited for a test instruction to be unloaded goes on. -/
def opJtagInstruction (o : JtagOp) (s : State) : State :=
  if !s.clk.vaon33 then s
  else
    let put := fun (st : State) (x : JtagOp) => ({ st with clk := { st.clk with jtag := x } } : State)
    let goOn := fun (st : State) => if st.mgmt.waitAt == some .scan then st.startStep7 else st
    match o with
    | .other => goOn (put s .bypass)
    | .mailbox none =>
      let s1 := put s (.mailbox none)
      if s1.escutcheonUp then
        let n := (Config.freePayload s1.free).toNat
        ({ s1.tick with trust := { s1.trust with nonces := s1.trust.nonces ++ [n] } } : State)
      else goOn s1
    | .mailbox (some t) =>
      let s1 := put s (.mailbox none)
      if s1.escutcheonUp then (s1.presentToken t.1 t.2.1 t.2.2.1 t.2.2.2).2 else goOn s1
    | _ =>
      if testOp o && !s.scanOpen then (put s .bypass).logErr 0 0 0xFF 0xFF 0
      else goOn (put s o)

def execJtagInstruction (op : JtagOp) (s : State) : Outcome := .next (opJtagInstruction op s)

end Sys2Proof.Machine
end

