-- ==== Sys2Proof/Machine/Images.lean ====
section
/-!
DEFINITION. The flash and its images (17_object_dictionary_and_management.md): the checks of a firmware image and of a
configuration copy (R405, R460, R461), the image path with its one writer (R462), commit (R463), and how a commit ends
HOLD or BOOT_WAIT (R465, R492).
-/
namespace Sys2Proof.Machine

/-! ### Objects as a record or a write names them (R446, R449) -/

/-- Bytes of an OCTET_STRING as written: 8 for DIR_PROBE (R236), 4,096 and 1,024 for the link masks (R430), 32 for a fabric
window (R423), 16 for a serial (R404). -/
def octetLen (ix sub : Nat) : Nat :=
  if ix == 0x2402 then 8
  else if ix == 0x2610 then (if sub == 1 then 4096 else 1024)
  else if ix == 0x2620 then 32
  else 16

/-- Bytes of a value of an object as written. -/
def ObjRow.bytes (r : ObjRow) (sub : Nat) : Nat := (r.ty.len).getD (octetLen r.ix sub)

/-! ### Configuration copies (R460, R461) -/

/-- One section entry of a configuration copy. -/
def cfgEntry (bs : List Nat) (i : Nat) : List Nat := (bs.drop (256 + 80 * i)).take 80

/-- The bytes of a section. -/
def sectionBytes (bs e : List Nat) : List Nat := (bs.drop (fieldAt e 8 4)).take (fieldAt e 12 4)

/-- Header and section entries are as R460 lays them down; `serial`: this device's. -/
def cfgFormat (bs : List Nat) (serial : Nat) : Bool :=
  let n := fieldAt bs 6 2
  let len := fieldAt bs 12 4
  let es := (List.range n).map (cfgEntry bs)
  fieldAt bs 0 4 == 0x47434851 && fieldAt bs 4 2 == 1 && 1 ≤ n && n ≤ 16 && rsvZero bs 32 224 &&
  len ≤ 2 ^ 24 && len ≤ bs.length && 256 + 80 * n + 114 ≤ len &&
  (fieldAt bs 16 16 == 0 || fieldAt bs 16 16 == serial) &&
  es.all (fun e => (byteAt e 0 == 1 || byteAt e 0 == 2) && rsvZero e 1 7 && fieldAt e 8 4 + fieldAt e 12 4 ≤ len) &&
  (es.filter (fun e => byteAt e 0 == 2)).length == 1 && (es.filter (fun e => byteAt e 0 == 1)).length ≤ 1

/-- Every section's digest matches. -/
def cfgDigests (bs : List Nat) : Bool :=
  ((List.range (fieldAt bs 6 2)).map (cfgEntry bs)).all (fun e => fieldAt e 16 64 == shakeNat (sectionBytes bs e) 64)

/-- One DEFAULTS record: an RW or RWP object, its length, and the value as R449 would store it. -/
def cfgRecord (r : List Nat) (len : Nat) : Option (Nat × Nat × Nat) :=
  let ix := fieldAt r 0 2
  let sub := byteAt r 2
  match objRow ix sub with
  | none => none
  | some o =>
    if (o.acc == .RW || o.acc == .RWP) && o.bytes sub == len then
      (o.store.apply (fieldAt r 4 len)).map (fun v => (ix, sub, v))
    else none

/-- The records of a DEFAULTS section, each value padded to a multiple of 8 bytes; none where one is not accepted
(fuel: the length). -/
def cfgRecords : Nat → List Nat → Option (List (Nat × Nat × Nat))
  | _, [] => some []
  | 0, _ => none
  | k + 1, bs =>
    let len := byteAt bs 3
    let size := 4 + cdiv len 8 * 8
    if bs.length < size then none
    else match cfgRecord bs len, cfgRecords k (bs.drop size) with
      | some r, some l => some (r :: l)
      | _, _ => none

/-- The records of a copy, none where one is not accepted. -/
def cfgDefaults (bs : List Nat) : Option (List (Nat × Nat × Nat)) :=
  match ((List.range (fieldAt bs 6 2)).map (cfgEntry bs)).find? (fun e => byteAt e 0 == 1) with
  | none => some []
  | some e => let d := sectionBytes bs e; cfgRecords d.length d

/-- The check of a configuration copy: IMAGE_RESULT, and what the copy then holds (R461, R463, R467). -/
def checkConfig (bs : List Nat) (serial : Nat) (v : Verdict) : Nat × Bank :=
  if !cfgFormat bs serial then (4, {})
  else if !(v.cert && v.sig) then (2, {})
  else if !cfgDigests bs then (3, {})
  else match cfgDefaults bs with
    | none => (4, {})
    | some ds =>
      (1, { ok := true, seq := fieldAt bs 8 4, digest := shakeNat (bs.take (fieldAt bs 12 4)) 64, dflts := ds })

/-! ### Firmware images (R405) -/

/-- The check of a firmware image of a kind, 0 Rhotur, 1 escutcheon: IMAGE_RESULT, and what the bank then holds. -/
def checkFirmware (bs : List Nat) (kind floor : Nat) (v : Verdict) : Nat × Bank :=
  let h := Config.fwHeader (bs.take 256)
  let code := bs.drop 256
  if bs.length < 256 || h.magic != 0x57464851 || h.kind != kind + 1 || 63 < h.svn || h.len != code.length then (4, {})
  else if !(v.cert && v.sig) then (2, {})
  else if h.digest != shakeNat code 64 then (3, {})
  else if h.svn < floor then (5, {})
  else (1, { ok := true, version := h.version, svn := h.svn, advance := bitOf h.flags 0, digest := h.digest })

/-! ### The image path (R462) -/

/-- The bank that a target names: 1 Rhotur, 2 escutcheon, 3 configuration. The one that is not running or in use; a copy
that failed counts as not in use, and of two such banks it is B. -/
def State.targetBank (s : State) (t : Nat) : Nat :=
  if t == 3 then (if s.clk.phase == .service && (s.bank s.mgmt.cfgBank).ok then 9 - s.mgmt.cfgBank else 5)
  else if s.clk.phase == .bootWait then
    (match s.pickBank (t - 1) with | some b => 4 * (t - 1) + 1 - b | none => 2 * (t - 1) + 1)
  else 4 * (t - 1) + 1 - s.running (t - 1)

/-- The device can write the flash: it serves, is in HOLD, or waits for firmware and firmware is written (R462, R492). -/
def State.imageOpen (s : State) (t : Nat) : Bool :=
  s.clk.phase == .service || s.clk.phase == .hold || (s.clk.phase == .bootWait && t != 3)

/-- The path is held by the other writer. -/
def State.pathHeld (s : State) (foe : Bool) : Bool := match s.mgmt.path with | some p => p.foe != foe | none => false

/-- IMAGE_RESULT. -/
def State.imageResult (s : State) (r : Nat) : State := s.putObj 0x2002 4 r

/-- A target is selected, which erases it. -/
def State.selectTarget (s : State) (foe : Bool) (t : Nat) : State :=
  let b := s.targetBank t
  s.putMgmt { s.mgmt with
    flash := tset s.mgmt.flash b {}
    path := some { foe := foe, bank := b, bytes := [], at_ := s.clk.dcount } }

/-- Bytes of the image arrive on the path. -/
def State.streamImage (s : State) (data : List Nat) : State :=
  match s.mgmt.path with
  | none => s
  | some p => s.putMgmt { s.mgmt with path := some { p with bytes := p.bytes ++ data.map (· % 256), at_ := s.clk.dcount } }

/-- The path is given up; the target stays erased. -/
def State.dropPath (s : State) : State := s.putMgmt { s.mgmt with path := none }

/-- HOLD ends: the new copy's defaults are written and start-up goes on (R465). -/
def State.endHold (s : State) : State :=
  ({ s with clk := { s.clk with phase := .starting } } : State).startStep6

/-- A commit: IMAGE_RESULT, and the state after it (R463, R465, R492). -/
def State.commitImage (s : State) (p : ImgPath) (v : Verdict) : Nat × State :=
  let kind := p.bank / 2
  let (r, b) := if kind == 2 then checkConfig p.bytes s.trust.serial v else checkFirmware p.bytes kind (s.svnFloor kind) v
  let s1 := s.dropPath.imageResult r
  if r != 1 then (r, s1)
  else
    let s2 := s1.putMgmt { s1.mgmt with flash := tset s1.mgmt.flash p.bank b }
    if kind == 2 then (r, if s2.clk.phase == .hold then s2.endHold else s2)
    else (r, if s2.clk.phase == .bootWait then s2.startStep4 else s2)

/-! ### The image objects (R462, R463) -/

/-- IMAGE_TARGET written: SDO abort code, 0 for none, and state. -/
def State.writeTarget (s : State) (t : Nat) : Nat × State :=
  if t < 1 || 3 < t then (0x06090030, s)
  else if s.pathHeld false then (0x08000020, s)
  else if !s.imageOpen t then (0x08000022, s)
  else (0, s.selectTarget false t)

/-- IMAGE_DATA written. -/
def State.writeImageData (s : State) (data : List Nat) : Nat × State :=
  if s.pathHeld false then (0x08000020, s)
  else if s.mgmt.path.isNone then (0x08000022, s)
  else (0, s.streamImage data)

/-- IMAGE_COMMIT written: 1 commits, 2 aborts. A failed check is logged where it was written over CoE. -/
def State.writeCommit (s : State) (coe : Bool) (value : Nat) (v : Verdict) : Nat × State :=
  if value < 1 || 2 < value then (0x06090030, s)
  else if s.pathHeld false then (0x08000020, s)
  else match s.mgmt.path with
    | none => (0x08000022, s)
    | some p =>
      if value == 2 then (0, s.dropPath)
      else
        let (r, s1) := s.commitImage p v
        (0, if coe && r != 1 then s1.logErr (objKey 0x2002 4) 0 0xFF 0xFF r else s1)

/-- IMAGE_PATH_TIMEOUT: 60 s have passed without data. -/
def opImagePathTimeout (s : State) : State :=
  match s.mgmt.path with
  | none => s
  | some p => if p.at_ + 60000000000 ≤ s.clk.dcount then s.dropPath.imageResult 6 else s

def execImagePathTimeout (s : State) : Outcome := .next (opImagePathTimeout s)

end Sys2Proof.Machine
end

