-- ==== Sys2Proof/Machine/MemoryPorts.lean ====
section
/-!
DEFINITION. The memory interfaces (R242 to R254): retraining of near sets and DDR5 channels, scrub, the reserve, and
what expanders, DIMMs and temperature sensors report.
-/
namespace Sys2Proof.Machine

/-! ### Retraining (R245, R249) -/

/-- I/O die of a near set or DDR5 channel, by memory unit. -/
def dieOfUnit (u : Nat) : Nat := if u < 16 then u / 4 else (u - 16) / 3

/-- A periodic retraining of a unit of tier `t` is due: its interval has passed, and no unit of its kind on the die retrains or
waits to. It starts at once, or after the copy step that uses the tier (R245). -/
def State.mayRetrain (s : State) (t u interval : Nat) : Bool :=
  s.tierSt t == 1 && tget s.code.trainedAt u + interval * 1000 ≤ s.clk.dcount &&
  !(s.code.train.any (fun v => (decide (v < 16) == decide (u < 16)) && dieOfUnit v == dieOfUnit u)) &&
  !(s.code.owed.any (fun v => (decide (v < 16) == decide (u < 16)) && dieOfUnit v == dieOfUnit u))

/-- NEAR_RETRAIN. -/
def opNearRetrain (set : Nat) (s : State) : State :=
  if s.mayRetrain 1 set (s.obj 0x2420 1) then s.retrain set else s

def execNearRetrain (set : Nat) (s : State) : Outcome := onUnit (set < 16) (opNearRetrain set) s

/-- DDR5_RETRAIN. -/
def opDdr5Retrain (c : Nat) (s : State) : State :=
  if bitOf s.tier.channels c && s.mayRetrain 2 (16 + c) (s.obj 0x2421 4) then s.retrain (16 + c) else s

def execDdr5Retrain (channel : Nat) (s : State) : Outcome := onUnit (channel < 12) (opDdr5Retrain channel) s

/-- RETRAIN_DONE: the requests it blocked go on, or the tier fails (R233, R245). -/
def opRetrainDone (u : Nat) (ok : Bool) (s : State) : State :=
  if !s.code.train.contains u then s
  else
    let s1 := { s with code := { s.code with train := s.code.train.filter (· != u) } }
    if ok then s1.serveWaits else s1.failTier (if u < 16 then 1 else 2)

def execRetrainDone (unit : Nat) (ok : Bool) (s : State) : Outcome := onUnit (unit < 28) (opRetrainDone unit ok) s

/-- DRAM_TEMPERATURE_CHANGE: refresh doubles while the device or DIMM is above 85 °C (R243, R249). -/
def opDramTemperatureChange (n : Nat) (hot : Bool) (s : State) : State :=
  let rest := s.code.warm.filter (· != n)
  { s with code := { s.code with warm := if hot then rest ++ [n] else rest } }

def execDramTemperatureChange (device : Nat) (hot : Bool) (s : State) : Outcome :=
  onUnit (device < 32) (opDramTemperatureChange device hot) s

/-- DIMM_LOST (R233). -/
def opDimmLost (c : Nat) (s : State) : State := if bitOf s.tier.channels c then s.failTier 2 else s

def execDimmLost (channel : Nat) (s : State) : Outcome := onUnit (channel < 12) (opDimmLost channel) s

/-! ### Scrub (R253, R254) -/

/-- The words of a pass have numbers: a tile's words their device word address, the words of directory frame g from
2^47 + 2048 × g on (DESIGN CHOICE, log 86). -/
def dirWord : Nat := 2 ^ 47

/-- Tier that a pass reads a word in, and the word's frame: of its tile's home, or of the directory frame. -/
def State.scrubPlace (s : State) (w : Nat) : Nat × Nat :=
  if dirWord ≤ w then (1, (w - dirWord) / 2048) else ((s.leaf (w / 2048)).home, (s.leaf (w / 2048)).frame)

/-- Words that a pass of a tier reads: of the frames that hold a tile, and in the near tier the directory frames (R253). -/
def State.scrubs (s : State) (t w : Nat) : Bool :=
  if dirWord ≤ w then t == 1 && w < dirWord + 2048 * s.dirFrames
  else (s.leaf (w / 2048)).home == t && !(s.leaf (w / 2048)).lost

/-- The first word of a tile of a tier from position `p` on, then of the directory frames (R253). -/
def State.scrubNext (s : State) (t p : Nat) : Option Nat :=
  let tile := (s.tier.leaf.filter (fun e => e.2.home == t && !e.2.lost && p / 2048 ≤ e.1)).map (fun e => max p (e.1 * 2048))
  match tile with
  | w :: r => some (r.foldl min w)
  | [] => let w := max p dirWord
    if s.scrubs t w then some w else none

/-- The next word of the pass that runs in a tier, if one does. -/
def State.passWord (s : State) (t : Nat) : Option Nat :=
  match tfind s.code.scrub t with
  | some p => s.scrubNext t p
  | none => none

/-- The word that the scrub of a tier reads next: a pass that runs goes on, and a new one begins once SCRUB_INTERVAL has passed
since the last one began (R253). -/
def State.scrubAt (s : State) (t : Nat) : Option Nat :=
  match s.passWord t with
  | some w => some w
  | none =>
    let due : Bool := match tfind s.code.scrubAt t with
      | some at_ => at_ + s.obj 0x2423 t * 1000000000 ≤ s.clk.dcount
      | none => true
    if due then s.scrubNext t 0 else none

/-- The scrub of a tier has dealt with a word; after the last word the pass is counted, and so is one whose remaining tiles
have left the tier. -/
def State.scrubbed (s : State) (t w : Nat) : State :=
  let s0 := if (tfind s.code.scrub t).isSome && (s.passWord t).isNone then s.bump 0x3316 t 1 else s
  let s1 := if (s.passWord t).isSome then s0
    else { s0 with code := { s0.code with scrubAt := tset s0.code.scrubAt t s.clk.dcount } }
  match s.scrubNext t (w + 1) with
  | some _ => { s1 with code := { s1.code with scrub := tset s1.code.scrub t (w + 1) } }
  | none => ({ s1 with code := { s1.code with scrub := tdel s1.code.scrub t } } : State).bump 0x3316 t 1

/-- SCRUB_READ. A word of a frame that a move copies is skipped, and a tier in retention is not scrubbed; where a write has
overtaken the write-back nothing is written (R253, R254). Tags are not checked. -/
def opScrubRead (w : Nat) (errs : List SymErr) (overtaken lost : Bool) (s : State) : State :=
  let (t, fr) := s.scrubPlace w
  if t == 0 || s.tierSt t != 1 || s.scrubAt t != some w then s
  else if w < dirWord && (s.leaf (w / 2048)).moving then s.scrubbed t w
  else
    let u := s.wordUnit t fr w
    let q := tget s.code.spent u
    let s0 := s.harm w (errs.filter (fun e => e.word == 0))
    let s1 := (s0.decodeAt w u q (lost && t == 3)).2
    let s2 := if overtaken then { s1 with
        tier := { s1.tier with poison := s.tier.poison }, code := { s1.code with bad := s.code.bad, flips := s.code.flips } }
      else s1.writeBack w q
    s2.scrubbed t w

def execScrubRead (word : Nat) (errs : List SymErr) (overtaken lost : Bool) (s : State) : Outcome :=
  .next (opScrubRead word errs overtaken lost s)

/-! ### The reserve (R257, R258) -/

/-- A write of RESERVE_SPEND: the SDO abort code (0: none) and the state after. -/
def State.reserveWrite (s : State) (v : Nat) : Nat × State :=
  let u := bits v 13 8
  let p := bits v 5 0
  if 35 < u || 35 < p then (0x06090030, s)
  else match tget s.code.spent u with
    | some _ => (0x08000022, s.logErr (objKey 0x2423 6) 0 0xFF u v)
    | none => (0, s.spendReserve u p)

/-- RESERVE_SPEND. A refused write counts in DICT_REFUSED (R258, R449). -/
def opReserveSpend (v : Nat) (s : State) : State :=
  let (abort, s1) := s.reserveWrite (v % 65536)
  if abort == 0 then s1 else s1.bump 0x3000 1 1

def execReserveSpend (value : Nat) (s : State) : Outcome := .next (opReserveSpend value s)

/-! ### Expanders (R252) -/

/-- Key of the events of expander position x, as an error-log entry names it. -/
def expanderObject (x : Nat) : Nat := objKey 0x3317 (x + 1)

/-- EXPANDER_FATAL. -/
def opExpanderFatal (x : Nat) (s : State) : State := if bitOf s.tier.expanders x then s.failTier 3 else s
def execExpanderFatal (x : Nat) (s : State) : Outcome := onUnit (x < 8) (opExpanderFatal x) s

/-- EXPANDER_CORRECTABLE. -/
def opExpanderCorrectable (x : Nat) (s : State) : State := s.bump 0x3315 (29 + x) 1
def execExpanderCorrectable (x : Nat) (s : State) : Outcome := onUnit (x < 8) (opExpanderCorrectable x) s

/-- EXPANDER_MALFORMED: dropped and counted; the access waits on. -/
def opExpanderMalformed (x : Nat) (s : State) : State := s.bump 0x3317 (x + 1) 1
def execExpanderMalformed (x : Nat) (s : State) : Outcome := onUnit (x < 8) (opExpanderMalformed x) s

/-- EXPANDER_MEDIA_ERROR: logged, and the word reads as uncorrectable while it is homed in the large tier. -/
def opExpanderMediaError (x w : Nat) (s : State) : State :=
  let s1 := s.logErr (expanderObject x) stPoison 0xFF (28 + x) (w * 32)
  if (s.leaf (w / 2048)).home == 3 && !tget s.tier.poison w then
    { s1 with code := { s1.code with bad := tset s1.code.bad w true } }
  else s1
def execExpanderMediaError (x word : Nat) (s : State) : Outcome := onUnit (x < 8) (opExpanderMediaError x word) s

/-- EXPANDER_EVENT_RECORD: counted and copied to the error log. -/
def opExpanderEventRecord (x detail : Nat) (s : State) : State :=
  (s.bump 0x3317 (x + 1) 1).logErr (expanderObject x) 0 0xFF (28 + x) detail
def execExpanderEventRecord (x detail : Nat) (s : State) : Outcome := onUnit (x < 8) (opExpanderEventRecord x detail) s

/-- EXPANDER_CAPACITY_CHANGE: ignored until the next start-up, and logged. -/
def opExpanderCapacityChange (x : Nat) (s : State) : State := s.logErr (expanderObject x) 0 0xFF (28 + x) 0
def execExpanderCapacityChange (x : Nat) (s : State) : Outcome := onUnit (x < 8) (opExpanderCapacityChange x) s

end Sys2Proof.Machine
end

