-- ==== Sys2Proof/Machine/Dictionary.lean ====
section
/-!
DEFINITION. The object dictionary as it is read and written (R10 to R12, R446 to R451, R464, R466): what each object
reads, and what a write of it is refused for or does.
-/
namespace Sys2Proof.Machine

/-! ### What is there (R446, R466) -/

/-- Entry of the error log that an object of 0x3801 to 0x3820 names. -/
def logObject (ix sub : Nat) : Option Nat :=
  if 0x3801 ≤ ix && ix ≤ 0x3820 && 1 ≤ sub && sub ≤ 64 && (ix - 0x3801) * 64 + (sub - 1) < 2047 then
    some ((ix - 0x3801) * 64 + (sub - 1))
  else none

/-- Type and access code of an object. Sub-index 0 of an object that has others is UNSIGNED8, RO. -/
def objAt (ix sub : Nat) : Option (ObjTy × ObjAcc) :=
  match objRow ix sub with
  | some r => some (r.ty, r.acc)
  | none =>
    if (logObject ix sub).isSome then some (.octet, .RO)
    else if sub == 0 && objIndex ix then some (.u8, .RO)
    else none

/-- Highest sub-index in use. -/
def topSub (ix : Nat) : Nat :=
  if 0x3801 ≤ ix && ix < 0x3820 then 64 else if ix == 0x3820 then 63 else objTop ix

/-- SDO abort code for an object that is not there (R449). -/
def missing (ix : Nat) : Nat := if objIndex ix then 0x06090011 else 0x06020000

/-- The dictionary serves an index: all but in HOLD, where it serves three ranges (R464). -/
def State.dictServed (s : State) (ix : Nat) : Bool :=
  s.clk.phase != .hold || (0x1000 ≤ ix && ix ≤ 0x20FF) || (0x3800 ≤ ix && ix ≤ 0x3FFF)

/-! ### Reading (R447, R451, R455, R467, R489, R519 and the dictionary tables of each chapter) -/

/-- Identity, images, clocks, power: indices below 0x2400. -/
def State.valueLow (s : State) (ix sub : Nat) : Nat :=
  match ix with
  | 0x1018 => if sub == 4 then s.trust.serial % 2 ^ 32 else s.obj ix sub
  | 0x2000 =>
    if sub == 1 then (if s.clk.phase == .hold then 2 else s.mgmt.cfgBank - 4)
    else if sub == 2 then (if s.clk.phase == .hold then 0 else (s.bank s.mgmt.cfgBank).seq)
    else if sub == 4 then s.pwr.refLost
    else s.obj ix sub
  | 0x2001 => if sub == 2 then s.mgmt.fwBanks else s.obj ix sub
  | 0x2100 =>
    if sub == 6 then s.pwr.floorW
    else if sub == 7 then s.pwr.target * 16 + s.pwr.op
    else if sub == 9 then s.pwr.admitN
    else if sub == 0x10 then s.pwr.vin12Mv
    else if sub == 0x11 then s.pwr.vaon33Mv
    else s.obj ix sub
  | 0x2101 => (s.dom (sub - 1)).st.code
  | 0x2201 => s.dieTj (sub - 1)
  | _ => s.obj ix sub

/-- Frames of a tier as 0x2400 reports them. -/
def State.framesOf (s : State) (t : Nat) : Nat := tget s.tier.frames t

/-- Type of the DIMMs in the middle tier's set: 0 none, 1 MRDIMM, 2 RDIMM. -/
def State.dimmType (s : State) : Nat :=
  if s.tier.channels == 0 then 0
  else if groupType s.mgmt.facts ((groupsIn s.mgmt.facts).headD 0) then 1 else 2

/-- Memory tiers and interfaces: 0x2400 to 0x2424. -/
def State.valueTier (s : State) (ix sub : Nat) : Nat :=
  match ix with
  | 0x2400 =>
    match sub with
    | 1 => s.tier.channels
    | 2 => s.tierSt 1 * 16 + s.tierSt 2 * 256 + s.tierSt 3 * 4096
    | 3 => s.obj ix sub
    | 4 => s.framesOf 2
    | 5 => s.framesOf 3
    | 7 => s.tier.expanders
    | _ => s.obj ix sub
  | 0x2401 => s.freeFrames sub
  | 0x2402 => if sub == 4 then 1048576 - s.tier.objs.length else s.obj ix sub
  | 0x2421 =>
    match sub with
    | 1 => s.dimmType
    | 2 => if s.dimmType == 0 then 0 else if s.dimmType == 1 then 8800 else 6400
    | 3 => if s.dimmType == 0 then 0 else midCapacity s.mgmt.facts
    | _ => s.obj ix sub
  | 0x2422 =>
    if 2 ≤ sub then (match s.mgmt.facts.expanders.find? (fun e => e.pos + 2 == sub) with
      | some e => if s.tier.st.isEmpty then 0 else e.rate % 256 * 256 + e.width % 256
      | none => 0)
    else s.obj ix sub
  | 0x2424 => s.reserveState (sub - 1)
  | _ => s.obj ix sub

/-- Links, host, trust, bays, jig and engines: 0x2600 to 0x2E20. -/
def State.valueUnit (s : State) (ix sub : Nat) : Nat :=
  match ix with
  | 0x2602 => (s.lnk (sub - 1)).state
  | 0x2800 =>
    if sub == 5 then ((List.range 64).filter (fun f => f != 0 && s.fnExists f)).foldl setBit 0 else s.obj ix sub
  | 0x2A00 =>
    match sub with
    | 1 => bit01 s.trust.noId
    | 3 => bit01 s.trust.opened
    | 4 => s.trust.svnFloor
    | _ => s.obj ix sub
  | 0x2A02 => s.keyState (sub - 1)
  | 0x2C04 => ((List.range 4).map (fun d => (s.drawer (sub - 1) d).st.code * 2 ^ (4 * d))).sum
  | 0x2C05 => ((List.range 4).map (fun d => s.bayCount (sub - 1) d * 2 ^ (16 * d))).sum
  | 0x2C06 => if sub == 2 then ((List.range 32).map (fun n => (s.bay n).active % 4 * 4 ^ n)).sum else s.obj ix sub
  | 0x2C20 =>
    if sub == 2 then ((List.range 4).map (fun i => (64 - (s.tallies.filter (fun e => e.1 / 64 == i)).length) * 256 ^ i)).sum
    else s.obj ix sub
  | 0x2C30 =>
    match sub with
    | 3 => ((List.range 32).filter (fun b => (tget s.jig.held b).isSome)).foldl setBit 0
    | 5 => 1024 - s.jig.graphs.length
    | 6 => 4096 - s.jig.layouts.length
    | _ => s.obj ix sub
  | 0x2C33 => match tfind s.jig.pools (sub - 1) with
    | some p => p.slots * 65536 + (p.slots - p.held.length)
    | none => 0
  | 0x2E00 => if sub == 8 then s.slotsFree else s.obj ix sub
  | 0x2E10 => if sub == 4 then 65536 - s.srv.entries.length else s.obj ix sub
  | _ => s.obj ix sub

/-- Counters and process data: 0x3000 to 0x7FFF. The process data read as the latest complete snapshot (R456). -/
def State.valueHigh (s : State) (ix sub : Nat) : Nat :=
  match ix with
  | 0x3700 =>
    match sub with
    | 5 => s.obj ix sub + s.throttleSpan
    | 6 => s.pwr.ballast / 1000000
    | 7 => s.pwr.energy / 1000000
    | _ => s.obj ix sub
  | 0x3800 => s.log.next
  | 0x7000 =>
    match sub with
    | 6 => fieldAt s.mgmt.snap 10 8
    | 7 => fieldAt s.mgmt.snap 18 2
    | _ => fieldAt s.mgmt.snap (2 * (sub - 1)) 2
  | _ => s.obj ix sub

/-- Value of a numeric object. -/
def State.value (s : State) (ix sub : Nat) : Nat :=
  if sub == 0 && (objRow ix 0).isNone then topSub ix
  else if ix < 0x2400 then s.valueLow ix sub
  else if ix < 0x2600 then s.valueTier ix sub
  else if ix < 0x3000 then s.valueUnit ix sub
  else s.valueHigh ix sub

/-- Bytes of an OCTET_STRING or VISIBLE_STRING object. -/
def State.stringBytes (s : State) (ix sub : Nat) : List Nat :=
  match logObject ix sub with
  | some k => (tget s.log.entries k).bytes
  | none =>
    match ix with
    | 0x1008 => leBytes (s.obj ix sub) 3
    | 0x1009 => leBytes (s.obj ix sub) 2
    | 0x100A => Config.versionText (s.bank (s.running 0)).version
    | 0x2002 => []
    | 0x2402 => leBytes s.probeWord 16
    | 0x2A00 => leBytes s.trust.serial 16
    | _ => leBytes (s.obj ix sub) (octetLen ix sub)

/-- The bytes that an object reads as (R446, R453). -/
def State.objBytes (s : State) (ix sub : Nat) (ty : ObjTy) : List Nat :=
  match ty.len with
  | some n => leBytes (s.value ix sub) n
  | none => s.stringBytes ix sub

/-- A read: SDO abort code, 0 for none, and the bytes (R12, R449, R464). -/
def State.dictRead (s : State) (ix sub : Nat) : Nat × List Nat :=
  if !s.dictServed ix then (0x08000022, [])
  else match objAt ix sub with
    | none => (missing ix, [])
    | some (ty, acc) => if acc == .WO then (0x06010001, []) else (0, s.objBytes ix sub ty)

/-! ### Writing (R11, R12, R447 to R449) -/

/-- A refusal counts in DICT_REFUSED, whatever its path (R467). -/
def State.dictRefused (s : State) : State := s.bump 0x3000 1 1

/-- A value written to an object that works with the value before it until later (R448). -/
def State.putLater (s : State) (ix sub v : Nat) : State :=
  let k := objKey ix sub
  let s1 := { s with dict := { s.dict with
    inForce := if (tfind s.dict.inForce k).isSome then s.dict.inForce else tset s.dict.inForce k (s.obj ix sub)
    kept := if keptObjects.contains k then tset s.dict.kept k v else s.dict.kept } }
  s1.putObj ix sub v

/-- Sum of the guarantees with function `f`'s at `v` (R219). -/
def State.guarantees (s : State) (f v : Nat) : Nat :=
  ((List.range 64).map (fun g => if g == f then v else s.obj 0x2410 (g + 1))).sum

/-- LINK_MAINT: readmit, map out or swap (R437). Another action does nothing. -/
def State.linkMaint (s : State) (v : Nat) : State :=
  let l := v % 32
  let lane := bits v 14 12
  match bits v 10 8 with
  | 1 => opLinkReadmit l (bits v 63 32) s
  | 2 => opLinkMapOut l s
  | 3 => if lane < 5 then opLinkMaintSwap l lane s else s
  | _ => s

/-- The releasing of THERMTRIP_N (R487). -/
def State.tripClear (s : State) (v : Nat) : State :=
  if v == 1 && s.pwr.trip then (s.putPwr { s.pwr with trip := false }).emit (.land "THERMTRIP_N" false) else s

/-- A stored value takes effect where the object acts at once; a cap written outside process data reaches power control as well
(R175, R236, R380, R448, R455, R478; DEDUCED, log 65). -/
def State.storeObj (s : State) (ix sub v : Nat) : State :=
  if keptObjects.contains (objKey ix sub) || ix == 0x1C32 || ix == 0x1C33 then s.putLater ix sub v
  else if ix == 0x2402 && sub == 5 then opDirProbe v s
  else if ix == 0x2620 then opFabricWindowWrite (sub - 1) (leBytes v 32) s
  else if ix == 0x2800 && sub == 4 then (s.putObj ix sub v).updateAlert
  else if ix == 0x2C10 && sub == 1 then s.writeEdgeMode v
  else if ix == 0x2100 && sub == 2 then (s.putObj ix sub v).recap
  else if ix == 0x6000 then let s1 := s.putObj ix sub v; s1.rackArrives (s1.obj 0x6000 1) (s1.obj 0x6000 2) false
  else s.putObj ix sub v

/-- A write to a WO object, and to an object whose refusal depends on the state: abort code and state. `bs`: the bytes
of the value; `coe`: over CoE, else over BAR2. -/
def State.actOn (s : State) (coe : Bool) (ix sub : Nat) (bs : List Nat) (v : Verdict) : Option (Nat × State) :=
  let n := ofLE bs
  match ix with
  | 0x2002 =>
    match sub with
    | 1 => some (s.writeTarget n)
    | 2 => some (s.writeImageData bs)
    | 3 => some (s.writeCommit coe n v)
    | _ => none
  | 0x2010 => if sub == 2 then some (0, s.renewCmd n) else none
  | 0x2200 => if sub == 4 then some (if coe then (0, s.tripClear n) else (0x08000022, s)) else none
  | 0x2410 => if s.usable 1 < s.guarantees (sub - 1) n then some (0x08000022, s) else none
  | 0x2423 => if sub == 6 then some (s.reserveWrite n) else none
  | 0x2601 => if sub == 2 then some (0, opMaintWindow n s) else if sub == 3 then some (0, s.linkMaint n) else none
  | 0x6000 => if coe && (s.mgmt.esm == .safeop || s.mgmt.esm == .op) then some (0x06010002, s) else none
  | _ => none

/-- A write: SDO abort code, 0 for none, and the state after it, in which a refusal is not yet counted (R12, R449,
R464). -/
def State.dictWrite (s : State) (coe : Bool) (ix sub : Nat) (bs : List Nat) (v : Verdict) : Nat × State :=
  if !s.dictServed ix then (0x08000022, s)
  else match objRow ix sub with
    | none => (if (objAt ix sub).isSome then 0x06010002 else missing ix, s)
    | some r =>
      if r.acc == .RO then (0x06010002, s)
      else if r.acc == .RWP && s.mgmt.esm != .preop then (0x08000022, s)
      else if bs.length != r.bytes sub && !(ix == 0x2002 && sub == 2) then (0x06070010, s)
      else match s.actOn coe ix sub bs v with
        | some a => a
        | none => match r.store.apply (ofLE bs) with
          | none => (0x06090030, s)
          | some x => (0, s.storeObj ix sub x)

/-- A write over BAR2: a refusal leaves the object unchanged and is counted (R12). -/
def State.busWrite (s : State) (ix sub : Nat) (bs : List Nat) (v : Verdict) : Nat × State :=
  let (a, s1) := s.dictWrite false ix sub bs v
  (a, if a == 0 then s1 else s1.dictRefused)

/-! ### BAR2 (R452 to R454) -/

/-- A write of an 8-byte slot. Slots of strings ignore writes; bits above the type must be 0. -/
def State.slotWrite (s : State) (ix sub n : Nat) (v : Verdict) : State :=
  match (objAt ix sub).map (fun a => a.1.len) with
  | some none => if s.dictServed ix then s else s.dictRefused
  | some (some len) => if 256 ^ len ≤ n then s.dictRefused else (s.busWrite ix sub (leBytes n len) v).2
  | none => s.dictRefused

/-- A read of an 8-byte slot: its value and the state. A string's slot reads 0; a refused read returns 0 and is counted (R12,
R452). -/
def State.slotRead (s : State) (ix sub : Nat) : Nat × State :=
  match (objAt ix sub).map (fun a => a.1.len) with
  | some none => (0, if s.dictServed ix then s else s.dictRefused)
  | _ =>
    let (a, bs) := s.dictRead ix sub
    if a == 0 then (ofLE bs, s) else (0, s.dictRefused)

/-- The state with the long-object port's registers replaced. -/
def State.putPort (s : State) (sel : Nat) (staged : Option (List Nat)) (status : Nat) : State :=
  { s with dict := { s.dict with longSel := sel, staged := staged, longStatus := status } }

/-- LONG_SEL: a staged write is discarded. -/
def opLongSel (v : Nat) (s : State) : State :=
  s.mmio 0 2 (s.putPort (v % 2 ^ 24 + bits v 63 35 * 2 ^ 35) none 0)

def execLongSel (value : Nat) (s : State) : Outcome := .next (opLongSel value s)

/-- Bytes put at an offset of a list that grows to hold them. -/
def putAt (l : List Nat) (off : Nat) (bs : List Nat) : List Nat :=
  (l ++ List.replicate (off - l.length) 0).take off ++ bs ++ l.drop (off + bs.length)

/-- OFFSET of LONG_SEL, and LONG_SEL with it advanced by 8. -/
def selOffset (sel : Nat) : Nat := sel / 2 ^ 32
def selNext (sel : Nat) : Nat := sel % 2 ^ 32 + (selOffset sel + 8) % 2 ^ 32 * 2 ^ 32

/-- LONG_LEN: the length of the selected value (R453). -/
def State.longLen (s : State) : Nat :=
  let sel := s.dict.longSel
  match objAt (sel % 65536) (bits sel 23 16) with
  | some (ty, _) => (s.objBytes (sel % 65536) (bits sel 23 16) ty).length
  | none => 0

/-- LONG_DATA read: 8 bytes of the selected value, 0 beyond it; OFFSET moves on (R453, R454). -/
def State.longData (s : State) : List Nat × State :=
  let sel := s.dict.longSel
  let (a, bs) := s.dictRead (sel % 65536) (bits sel 23 16)
  let s1 := s.putPort (selNext sel) s.dict.staged s.dict.longStatus
  let out := (bs.drop (selOffset sel)).take 8
  (out ++ List.replicate (8 - out.length) 0, if a == 0 then s1 else s1.dictRefused)

/-- LONG_DATA read, answered over BAR2. -/
def State.longRead (s : State) : State :=
  let (bs, s1) := s.longData
  s1.emit (.bar2 bs)

/-- LONG_DATA written: 8 bytes are staged. -/
def State.longStage (s : State) (v : Nat) : State :=
  let sel := s.dict.longSel
  s.putPort (selNext sel) (some (putAt (s.dict.staged.getD []) (selOffset sel) (leBytes v 8))) 2

/-- LONG_DATA. -/
def opLongData (w : Option Nat) (s : State) : State :=
  s.mmio 0 2 (match w with
    | none => s.longRead
    | some v => s.longStage v)

def execLongData (write : Option Nat) (s : State) : Outcome := .next (opLongData write s)

/-- The staged bytes as the object takes them: those beyond its type, up to the end of their 8 bytes, must be 0. -/
def stagedValue (ix sub : Nat) (bs : List Nat) : List Nat :=
  match objRow ix sub with
  | none => bs
  | some r =>
    let n := r.bytes sub
    if ix == 0x2002 && sub == 2 then bs
    else if bs.length ≤ cdiv n 8 * 8 && (bs.drop n).all (· == 0) then bs.take n
    else bs

/-- LONG_CTRL with COMMIT: one dictionary write of what is staged. -/
def State.longCommit (s : State) (v : Verdict) : State :=
  let sel := s.dict.longSel
  let ix := sel % 65536
  let sub := bits sel 23 16
  let (a, s1) := s.busWrite ix sub (stagedValue ix sub (s.dict.staged.getD [])) v
  s1.putPort s1.dict.longSel none (if a == 0 then 0 else 1)

/-- LONG_CTRL with ABORT. -/
def State.longAbort (s : State) : State := s.putPort s.dict.longSel none 0

/-- A write of LONG_CTRL: with both bits it is refused and what is staged stays; with neither it does nothing, and a refusal is
shown no more (R454; DEDUCED, log 66). -/
def State.longCtrl (s : State) (n : Nat) (v : Verdict) : State :=
  match bitOf n 0, bitOf n 1 with
  | true, true => (s.putPort s.dict.longSel s.dict.staged 1).dictRefused
  | true, false => s.longCommit v
  | false, true => s.longAbort
  | false, false =>
    if s.dict.longStatus == 1 then s.putPort s.dict.longSel s.dict.staged (if s.dict.staged.isSome then 2 else 0) else s

/-- LONG_COMMIT. -/
def opLongCommit (v : Verdict) (s : State) : State := s.mmio 0 2 (s.longCtrl 1 v)
def execLongCommit (v : Verdict) (s : State) : Outcome := .next (opLongCommit v s)

/-- LONG_ABORT. -/
def opLongAbort (s : State) : State := s.mmio 0 2 (s.longCtrl 2 default)
def execLongAbort (s : State) : Outcome := .next (opLongAbort s)

/-- A write of 8 bytes at an offset of the provider's BAR2 (R382, R452, R453). Offsets below those of index 0x1000, but
for the port, are RSV; read-only registers ignore writes. -/
def State.bar2Write (s : State) (off n : Nat) (v : Verdict) : State :=
  if off == 0x000 then opLongSel n s
  else if off == 0x010 then opLongData (some n) s
  else if off == 0x018 then s.mmio 0 2 (s.longCtrl n v)
  else if off == 0x008 || off == 0x020 then s.mmio 0 2 s
  else if off < 0x1000 * 512 then s.mmio 0 2 (s.violation 0)
  else s.mmio 0 2 (s.slotWrite (off / 512) (off % 512 / 8) n v)

/-- A read of 8 bytes at an offset of the provider's BAR2: value and state (R7, R382, R452, R453). -/
def State.bar2Read (s : State) (off : Nat) : Nat × State :=
  match off with
  | 0x000 => (s.dict.longSel, s)
  | 0x008 => (s.longLen, s)
  | 0x010 => let (bs, s1) := s.longData; (ofLE bs, s1)
  | 0x018 => (0, s)
  | 0x020 => (s.dict.longStatus, s)
  | _ => if off < 0x1000 * 512 then (0, s.violation 0) else s.slotRead (off / 512) (off % 512 / 8)

/-- DICT_WRITE. -/
def opDictWrite (ix sub n : Nat) (v : Verdict) (s : State) : State := s.bar2Write (ix * 512 + sub * 8) (n % 2 ^ 64) v

def execDictWrite (index sub value : Nat) (v : Verdict) (s : State) : Outcome :=
  onUnit (index < 0x8000 && sub < 64) (opDictWrite index sub value v) s

end Sys2Proof.Machine
end

