-- ==== Sys2Proof/Machine/FieldBus.lean ====
section
/-!
DEFINITION. The EtherCAT SubDevice (17_object_dictionary_and_management.md): its state machine and sync managers (R442 to
R444), CoE and FoE (R445, R446, R462, R463), process data with its loss (R455 to R457), and the image objects and
TRIP_CLEAR as they are written over either path (R462, R487).
-/
namespace Sys2Proof.Machine

/-! ### The state machine (R443, R444) -/

/-- Sync managers 0 to 3 as R444 fixes them. -/
def smTable : List Sm := [⟨0x1000, 512, 0x26⟩, ⟨0x1200, 512, 0x22⟩, ⟨0x1400, 4, 0x64⟩, ⟨0x1A00, 20, 0x20⟩]

/-- Sync manager `n` is set as the table has it. -/
def smOk (n : Nat) (x : Sm) : Bool := smTable[n]? == some x

/-- A request is refused: the state stays, AL status takes the code. -/
def State.esmRefuse (s : State) (code : Nat) : State := s.putMgmt { s.mgmt with al := code }

/-- A state is entered. -/
def State.esmEnter (s : State) (x : EsmSt) : State := s.putMgmt { s.mgmt with esm := x, al := 0 }

/-- A request for a state: granted in that state already, refused from a state it is not entered from. -/
def State.esmFrom (s : State) (x source : EsmSt) (act : State) : State :=
  if !s.clk.vaon33 then s
  else if s.mgmt.esm == x then s.esmEnter x
  else if s.mgmt.esm != source then s.esmRefuse 0x0011
  else act

/-- ESM_INIT. -/
def opEsmInit (s : State) : State := if s.clk.vaon33 then s.esmEnter .init else s
def execEsmInit (s : State) : Outcome := .next (opEsmInit s)

/-- ESM_PREOP. BOOT_WAIT serves INIT and BOOT alone (R492). -/
def opEsmPreop (sm0 sm1 : Sm) (s : State) : State := s.esmFrom .preop .init <|
  let s1 := s.putMgmt { s.mgmt with sms := tset (tset s.mgmt.sms 0 sm0) 1 sm1 }
  if s.clk.phase == .bootWait then s1.esmRefuse 0x0011
  else if smOk 0 sm0 && smOk 1 sm1 then s1.esmEnter .preop
  else s1.esmRefuse 0x0016

def execEsmPreop (sm0 sm1 : Sm) (s : State) : Outcome := .next (opEsmPreop sm0 sm1 s)

/-- SYNC_MODE of both directions is one of the two that R443 names. -/
def State.syncOk (s : State) : Bool := s.obj 0x1C32 1 ≤ 1 && s.obj 0x1C33 1 ≤ 1

/-- ESM_SAFEOP. A written SYNC_MODE comes into force here (R448). Before start-up has ended, but in HOLD, the request has
no effect (R490). -/
def opEsmSafeop (sm2 sm3 : Sm) (s : State) : State := s.esmFrom .safeop .preop <|
  let s1 := s.putMgmt { s.mgmt with sms := tset (tset s.mgmt.sms 2 sm2) 3 sm3 }
  if !smOk 2 sm2 then s1.esmRefuse 0x001D
  else if !smOk 3 sm3 then s1.esmRefuse 0x001E
  else if s.clk.phase == .hold then s1.esmRefuse 0x8001
  else if !s.syncOk then s1.esmRefuse 0x0030
  else if s.clk.phase != .service then s1
  else
    let s2 := { s1 with dict := { s1.dict with
      inForce := tdel (tdel s1.dict.inForce (objKey 0x1C32 1)) (objKey 0x1C33 1) } }
    (s2.putMgmt { s2.mgmt with safeWrite := false }).esmEnter .safeop

def execEsmSafeop (sm2 sm3 : Sm) (s : State) : Outcome := .next (opEsmSafeop sm2 sm3 s)

/-- ESM_OP: the first entry arms loss detection (R457). -/
def opEsmOp (s : State) : State := s.esmFrom .op .safeop <|
  if s.mgmt.safeWrite then (s.putMgmt { s.mgmt with armed := true }).esmEnter .op else s.esmRefuse 0x001B

def execEsmOp (s : State) : Outcome := .next (opEsmOp s)

/-- ESM_BOOT. -/
def opEsmBoot (s : State) : State := s.esmFrom .boot .init (s.esmEnter .boot)
def execEsmBoot (s : State) : Outcome := .next (opEsmBoot s)

/-- ECAT_PORT_LINK_CHANGE. -/
def opEcatPortLinkChange (p : Nat) (up : Bool) (s : State) : State :=
  s.putMgmt { s.mgmt with ports := tset s.mgmt.ports p up }

def execEcatPortLinkChange (port : Nat) (up : Bool) (s : State) : Outcome :=
  onUnit (port < 2) (opEcatPortLinkChange port up) s

/-! ### Process data (R455 to R457) -/

/-- A good SM2 write: CAP_W and CAP_ID are released and reach power control. It ends the orphan cap in OP, and anywhere
once process data has been lost (R456, R457, R484). -/
def State.goodWrite (s : State) (w id : Nat) : State :=
  let ends := s.mgmt.esm == .op || s.mgmt.lost
  let s1 := ((s.putObj 0x6000 1 w).putObj 0x6000 2 id).putMgmt { s.mgmt with
    goodAt := s.clk.dcount, lost := false, safeWrite := s.mgmt.safeWrite || s.mgmt.esm == .safeop }
  s1.rackArrives w id ends

/-- ECAT_FRAME: in SAFE-OP and OP a passing frame reads the latest snapshot, and what it writes is released if its FCS is
good. -/
def opEcatFrame (write : Option (Nat × Nat)) (fcsOk : Bool) (s : State) : State :=
  if !s.clk.vaon33 || (s.mgmt.esm != .safeop && s.mgmt.esm != .op) then s
  else
    let s1 := s.emit (.sm3 s.mgmt.snap)
    match write with
    | none => s1
    | some (w, id) => if fcsOk then s1.goodWrite (w % 65536) (id % 65536) else s1.bump 0x3000 3 1

def execEcatFrame (write : Option (Nat × Nat)) (fcsOk : Bool) (s : State) : Outcome := .next (opEcatFrame write fcsOk s)

/-- STATUS (R455). -/
def State.pdStatus (s : State) : Nat :=
  let hold := s.clk.phase == .hold && s.mgmt.esm != .safeop && s.mgmt.esm != .op
  let met := s.pwr.means.headD 0 ≤ s.pwr.capW * 1000
  let renewing := (List.range 105).any (fun p => s.part p == 1 || s.part p == 2 || s.part p == 3)
  let failed := s.tierSt 1 == 3 || s.tierSt 2 == 3 || s.tierSt 3 == 3
  let bs := [hold, met, s.pwr.unreach, s.pwr.orphan, s.pwr.throttle, s.alertHeld, s.host.alert, s.obj 0x2601 1 != 0,
    renewing, failed]
  ((List.range 10).map (fun i => if bs.getD i false then 2 ^ i else 0)).sum

/-- PD_SNAPSHOT: the seven fields from one instant. -/
def opPdSnapshot (s : State) : State :=
  if !s.clk.vaon33 then s
  else
    let echo := if s.pwr.orphan || s.alertHeld then 0xFFFF else s.pwr.rackId
    let snap := leBytes s.pdStatus 2 ++ leBytes echo 2 ++ leBytes (s.pwr.means.headD 0 / 1000) 2 ++ leBytes s.pwr.capW 2 ++
      leBytes (maxOf (s.pwr.tj.map (fun e => e.2))) 2 ++ leBytes s.clk.dcount 8 ++ leBytes s.log.count 2
    s.putMgmt { s.mgmt with snap := snap }

def execPdSnapshot (s : State) : Outcome := .next (opPdSnapshot s)

/-- Time after the last good write at which process data is lost, in ns (R457). -/
def State.lossTime (s : State) : Nat := max (3 * s.obj 0x2000 3) 2000 * 1000

/-- PD_LOST. -/
def opPdLost (s : State) : State :=
  if s.mgmt.armed && !s.mgmt.lost && s.mgmt.goodAt + s.lossTime ≤ s.clk.dcount then
    ((s.putMgmt { s.mgmt with lost := true }).bump 0x3000 2 1).orphanCap
  else s

def execPdLost (s : State) : Outcome := .next (opPdLost s)

/-! ### CoE (R445, R446, R449) -/

/-- An SDO answer. -/
def State.sdoAnswer (s : State) (code : Nat) (data : List Nat) : State :=
  if code == 0 then s.emit (.mbox 0 data) else s.dictRefused.emit (.mbox code [])

/-- Sub-indices that complete access takes, from 1 up. -/
def subsOf (ix : Nat) : List Nat := (List.range (topSub ix + 1)).filter (fun k => 1 ≤ k && (objAt ix k).isSome)

/-- A value per sub-index cut from the bytes of a complete access; none where the lengths do not match. -/
def cutSubs (ix : Nat) : List Nat → List Nat → Option (List (Nat × List Nat))
  | [], [] => some []
  | [], _ :: _ => none
  | k :: r, bs =>
    let n := match objRow ix k with | some o => o.bytes k | none => 32
    if bs.length < n then none else (cutSubs ix r (bs.drop n)).map (fun l => (k, bs.take n) :: l)

/-- A complete download: one write of every sub-index, of which none is stored where one is refused. -/
def State.writeAll (s : State) (ix : Nat) (v : Verdict) : List (Nat × List Nat) → Nat × State
  | [] => (0, s)
  | (k, bs) :: r =>
    let (a, s1) := s.dictWrite true ix k bs v
    if a != 0 then (a, s1) else s1.writeAll ix v r

/-- A download: abort code and state. -/
def State.download (s : State) (ix sub : Nat) (complete : Bool) (bs : List Nat) (v : Verdict) : Nat × State :=
  if !complete then s.dictWrite true ix sub bs v
  else if 1 < sub || subsOf ix == [] then (0x06090011, s)
  else match cutSubs ix (subsOf ix) (if sub == 0 then bs.drop 2 else bs) with
    | none => (0x06070010, s)
    | some l => let (a, s1) := s.writeAll ix v l; if a == 0 then (a, s1) else (a, s)

/-- An upload: abort code and bytes. -/
def State.upload (s : State) (ix sub : Nat) (complete : Bool) : Nat × List Nat :=
  if !complete then s.dictRead ix sub
  else if 1 < sub || subsOf ix == [] then (0x06090011, [])
  else
    let rs := (subsOf ix).map (fun k => s.dictRead ix k)
    match rs.find? (fun r => r.1 != 0) with
    | some r => (r.1, [])
    | none => (0, (if sub == 0 then leBytes (topSub ix) 2 else []) ++ rs.flatMap (fun r => r.2))

/-- Number of an access code in an object description. -/
def ObjAcc.code : ObjAcc → Nat
  | .RO => 0 | .RW => 1 | .RWP => 2 | .WO => 3

/-- The SDO Information service: the indices there are, or the data types and access codes of an object. -/
def State.info (s : State) (index : Option Nat) : Nat × List Nat :=
  let served := fun (ix : Nat) => s.dictServed ix
  match index with
  | none => (0, dedup' ((objRows.map (fun r => r.ix)).filter served) ++ (List.range 32).map (fun i => 0x3801 + i))
  | some ix =>
    if !served ix then (0x08000022, [])
    else if !objIndex ix then (0x06020000, [])
    else (0, (List.range (topSub ix + 1)).flatMap (fun k => match objAt ix k with
      | some (ty, acc) => [k, ty.code, acc.code]
      | none => []))

/-- A CoE request is carried out and answered. -/
def State.serveCoe (s : State) : CoeReq → State
  | .download ix sub complete bs v => let (a, s1) := s.download ix sub complete bs v; s1.sdoAnswer a []
  | .upload ix sub complete => let (a, bs) := s.upload ix sub complete; s.sdoAnswer a bs
  | .info ix => let (a, bs) := s.info ix; s.sdoAnswer a bs

/-- A CoE request arrives: unanswered without a mailbox (INIT, BOOT_WAIT), refused in BOOT, held while the Rhotur firmware
restarts (R443, R445, R492, R494). -/
def State.coe (s : State) (r : CoeReq) : State :=
  if !s.clk.vaon33 || s.mgmt.esm == .init || s.clk.phase == .bootWait then s
  else if s.mgmt.esm == .boot then s.sdoAnswer 0x08000022 []
  else if s.clk.phase == .service && s.part 103 != 0 then s.putMgmt { s.mgmt with held := s.mgmt.held ++ [r] }
  else s.serveCoe r

/-- The requests held are carried out once the Rhotur firmware is back. -/
def State.serveHeldCoe (s : State) : State :=
  if s.part 103 != 0 then s
  else s.mgmt.held.foldl (fun st r => st.serveCoe r) (s.putMgmt { s.mgmt with held := [] })

/-- SDO_DOWNLOAD. -/
def opSdoDownload (ix sub : Nat) (complete : Bool) (bs : List Nat) (v : Verdict) (s : State) : State :=
  s.coe (.download ix sub complete bs v)

def execSdoDownload (index sub : Nat) (complete : Bool) (value : List Nat) (v : Verdict) (s : State) : Outcome :=
  .next (opSdoDownload index sub complete value v s)

/-- SDO_UPLOAD. -/
def opSdoUpload (ix sub : Nat) (complete : Bool) (s : State) : State := s.coe (.upload ix sub complete)
def execSdoUpload (index sub : Nat) (complete : Bool) (s : State) : Outcome := .next (opSdoUpload index sub complete s)

/-- SDO_INFO. -/
def opSdoInfo (ix : Option Nat) (s : State) : State := s.coe (.info ix)
def execSdoInfo (index : Option Nat) (s : State) : Outcome := .next (opSdoInfo index s)

/-- PARTITION_RETURN (Renewal.lean); CoE requests held for the Rhotur firmware are then answered. -/
def execPartitionReturn (part : Nat) (ok : Bool) (badSites badSpares : List Nat) (s : State) : Outcome :=
  onUnit (part < 105)
    (fun s => let s1 := opPartitionReturn part ok badSites badSpares s; if part == 103 then s1.serveHeldCoe else s1) s

/-! ### FoE (R462, R463, R492) -/

/-- An FoE answer: error code, 0 for none, and data. -/
def State.foeAnswer (s : State) (code : Nat) (data : List Nat) : State := s.emit (.mbox code data)

/-- The mailbox carries FoE. -/
def State.foeOpen (s : State) : Bool := s.clk.vaon33 && s.mgmt.esm != .init

/-- A packet of a file on the path that FoE holds; the last one commits. -/
def State.foePacket (s : State) (last : Bool) (data : List Nat) (v : Verdict) : State :=
  let s1 := s.streamImage data
  match s1.mgmt.path with
  | none => s1
  | some p =>
    if !last then s1.foeAnswer 0 []
    else
      let (r, s2) := s1.commitImage p v
      s2.foeAnswer (if r == 1 then 0 else 0x800B) []

/-- FOE_WRITE. Error 0x8001: no such file here; 0x8002: the path is held, or the password is wrong; 0x8004: no write has
begun. -/
def opFoeWrite (file password : Nat) (first last : Bool) (data : List Nat) (v : Verdict) (s : State) : State :=
  if !s.foeOpen then s
  else if file < 1 || 3 < file || !s.imageOpen file then s.foeAnswer 0x8001 []
  else if password != 0 || s.pathHeld true then s.foeAnswer 0x8002 []
  else if first then (s.selectTarget true file).foePacket last data v
  else if s.mgmt.path.isNone then s.foeAnswer 0x8004 []
  else s.foePacket last data v

def execFoeWrite (file password : Nat) (first last : Bool) (data : List Nat) (v : Verdict) (s : State) : Outcome :=
  .next (opFoeWrite file password first last data v s)

/-- FOE_READ: "errlog" is the error log, entry by entry. -/
def opFoeRead (file : Nat) (s : State) : State :=
  if !s.foeOpen then s
  else if file == 4 && s.clk.phase != .bootWait then s.foeAnswer 0 (s.log.entries.flatMap (fun e => e.2.bytes))
  else s.foeAnswer 0x8001 []

def execFoeRead (file : Nat) (s : State) : Outcome := .next (opFoeRead file s)

/-! ### The image objects and TRIP_CLEAR (R462, R463, R487) -/

/-- A write of an image object over CoE or BAR2. -/
def State.imageObject (s : State) (coe : Bool) (sub : Nat) (bs : List Nat) (v : Verdict) : State :=
  if coe then opSdoDownload 0x2002 sub false bs v s else s.mmio 0 2 (s.busWrite 0x2002 sub bs v).2

/-- IMAGE_TARGET. -/
def opImageTarget (coe : Bool) (t : Nat) (s : State) : State := s.imageObject coe 1 [t % 256] default
def execImageTarget (coe : Bool) (value : Nat) (s : State) : Outcome := .next (opImageTarget coe value s)

/-- IMAGE_DATA. -/
def opImageData (coe : Bool) (data : List Nat) (s : State) : State := s.imageObject coe 2 data default
def execImageData (coe : Bool) (data : List Nat) (s : State) : Outcome := .next (opImageData coe data s)

/-- IMAGE_COMMIT. -/
def opImageCommit (coe : Bool) (v : Verdict) (s : State) : State := s.imageObject coe 3 [1] v
def execImageCommit (coe : Bool) (v : Verdict) (s : State) : Outcome := .next (opImageCommit coe v s)

/-- IMAGE_ABORT. -/
def opImageAbort (coe : Bool) (s : State) : State := s.imageObject coe 3 [2] default
def execImageAbort (coe : Bool) (s : State) : Outcome := .next (opImageAbort coe s)

/-- TRIP_CLEAR: written over CoE. -/
def opTripClear (n : Nat) (s : State) : State := opSdoDownload 0x2200 4 false [n % 256] default s
def execTripClear (value : Nat) (s : State) : Outcome := .next (opTripClear value s)

end Sys2Proof.Machine
end

