-- ==== Sys2Proof/Machine/Registers.lean ====
section
/-!
DEFINITION. REGISTER_WRITE: a write or a read of the host at a BAR, by the access codes of R7 and the maps of R357, R358,
R362, R366, R377 and R378; misaligned accesses, other lengths and RSV offsets are counted (R382).
-/
namespace Sys2Proof.Machine

/-- Bytes of a BAR of a function, 0 where the function has none (R357). -/
def barSize (f bar : Nat) : Nat :=
  match bar with
  | 0 => if f == 0 then 2 ^ 25 else 2 ^ 24
  | 2 => if f == 0 then 2 ^ 24 else 0
  | 4 => if f == 0 then 2 ^ 18 else 2 ^ 16
  | _ => 0

/-! ### The function's register block (R378, R425) -/

/-- SSR_VECTOR. -/
def State.writeSsrVector (s : State) (f v : Nat) : State :=
  { s with host := { s.host with ssrVec := tset s.host.ssrVec f (v % 512) } }

/-- FABRIC_DOORBELL: 1 clears. -/
def State.writeDoorbell (s : State) (f v : Nat) : State :=
  { s with host := { s.host with fdb := tset s.host.fdb f (andNot (tget s.host.fdb f) v) } }

/-- MASK of a group: its defined bits. -/
def State.writeMask (s : State) (f g v : Nat) : State :=
  match causeBits f g with
  | none => s.violation f
  | some m =>
    let s1 := { s with host := { s.host with mask := tset s.host.mask (f * 16 + g) (v &&& m) } }
    if f == 0 then s1.updateAlert else s1

/-- A write in the register block. -/
def State.writeBlock (s : State) (f off v : Nat) : State :=
  if off == 0x0000 || off == 0x0010 then s
  else if off == 0x0008 then s.writeSsrVector f v
  else if off == 0x0018 then s.writeDoorbell f v
  else if 0x0100 ≤ off && off < 0x0200 then
    (if off % 16 == 0 then opCauseWrite f ((off - 0x100) / 16) v s else s.writeMask f ((off - 0x100) / 16) v)
  else s.violation f

/-! ### Ring pages (R366, R367) -/

/-- SQ_BASE or CQ_BASE: bits [11:0] are taken as 0, and it changes only while the ring is DISABLED. -/
def State.writeBase (s : State) (f i : Nat) (sq : Bool) (v : Nat) : State := s.onRing f i fun r =>
  let x := s.ring r
  let b := v / 4096 * 4096
  if (if sq then x.sqBase else x.cqBase) == b then s
  else if x.st != .disabled then s.violation f
  else s.putRing r (if sq then { x with sqBase := b } else { x with cqBase := b })

/-- A write in the page of local ring `i`. -/
def State.writePage (s : State) (f i off v : Nat) : State :=
  match off with
  | 0x000 => opSqTail f i v s
  | 0x008 => opCqHead f i v s
  | 0x040 => s.writeBase f i true v
  | 0x048 => s.writeBase f i false v
  | 0x050 => if bitOf v 0 then opRingEnable f i v s else opRingDisable f i v s
  | 0x058 => s.onRing f i fun _ => s
  | _ => s.violation f

/-! ### Provider control (R358, R362) -/

/-- The first word of a function's entry: RING_FIRST and RING_COUNT, VECTORS, FLAGS, each where it changes. -/
def State.writeFnHead (s : State) (f v : Nat) : State :=
  let e := s.fn f
  let first := bits v 15 0
  let count := bits v 31 16
  let s1 := if e.ringFirst == first && e.ringCount == count then s else opRingRangeWrite f first count s
  let s2 := if e.vectors == bits v 47 32 then s1 else opVectorsWrite f (bits v 47 32) s1
  s2.putFn f { s2.fn f with flags := bits v 48 48 }

/-- BASE or END of an aperture: bits [11:0] are taken as 0 (R358). -/
def State.writeAperture (s : State) (f a : Nat) (isEnd : Bool) (v : Nat) : State :=
  let e := s.fn f
  let p := tget e.aps a
  let b := v / 4096 * 4096
  s.putFn f { e with aps := tset e.aps a (if isEnd then (p.1, b) else (b, p.2)) }

/-- A write in the function table. -/
def State.writeFnTable (s : State) (off v : Nat) : State :=
  let f := off / 256
  let w := off % 256
  if 136 ≤ w then s.violation 0
  else s.provWrite f (if w == 0 then s.writeFnHead f v else s.writeAperture f ((w - 8) / 16) ((w - 8) % 16 == 8) v)

/-- A write in the HDM window table. A write of LENGTH makes the entry take effect. -/
def State.writeWinTable (s : State) (off v : Nat) : State :=
  let w := off / 32
  let e := tget s.host.wins w
  match off % 32 with
  | 0 => s.winWrite w (s.putWin w { e with reg := { e.reg with dpa := v } })
  | 8 => opHdmWindowWrite w v s
  | 16 => s.winWrite w (s.putWin w { e with reg := { e.reg with dev := v } })
  | _ => s.winWrite w (s.putWin w { e with reg := { e.reg with func := bits v 7 0, flags := bits v 9 8 } })

/-- A write in BAR0. -/
def State.bar0Write (s : State) (f off v : Nat) : State :=
  if off < 0x100000 then s.writeBlock f off v
  else if off < 0x900000 then s.writePage f ((off - 0x100000) / 0x1000) (off % 0x1000) v
  else if 0x1100000 ≤ off && off < 0x1104000 then s.writeFnTable (off - 0x1100000) v
  else if 0x1110000 ≤ off && off < 0x1112000 then s.writeWinTable (off - 0x1110000) v
  else s.violation f

/-! ### BAR4 (R357, R377) -/

/-- A word of an MSI-X table entry: its address, or its data and vector control. -/
def State.writeMsix (s : State) (f v : Nat) (upper : Bool) (n : Nat) : State :=
  let e : MsixEnt := tgetD s.host.msix (f * 256 + v) {}
  let e1 : MsixEnt := if upper then { e with data := n % 2 ^ 32, masked := bitOf n 32 } else { e with addr := n }
  { s with host := { s.host with msix := tset s.host.msix (f * 256 + v) e1 } }

/-- A write in BAR4: the MSI-X table, the pending-bit array, which software cannot write, CXL component registers. -/
def State.bar4Write (s : State) (f off v : Nat) : State :=
  if off < 0x1000 then s.writeMsix f (off / 16) (off % 16 == 8) v
  else if 0x8000 ≤ off && off < 0x8020 then s
  else if 0x10000 ≤ off && f == 0 then { s with host := { s.host with comp := tset s.host.comp off v } }
  else s.violation f

/-! ### Reads (R7, R382, R521): the value, none at an RSV offset -/

/-- The register block: SSR, SSR_VECTOR, FIRST_RING, FABRIC_DOORBELL, causes and masks (R378, R425). -/
def State.readBlock (s : State) (f off : Nat) : Option Nat :=
  let g := (off - 0x100) / 16
  if off == 0x0000 then some (s.ssr f)
  else if off == 0x0008 then some (tget s.host.ssrVec f)
  else if off == 0x0010 then some (s.firstRing f)
  else if off == 0x0018 then some (tget s.host.fdb f)
  else if 0x0100 ≤ off && off < 0x0200 && (causeBits f g).isSome then
    some (if off % 16 == 0 then tget s.host.cause (f * 16 + g) else tget s.host.mask (f * 16 + g))
  else none

/-- The page of a local ring; SQ_TAIL and CQ_HEAD are WO and read 0 (R366 to R368). -/
def State.readPage (s : State) (f i off : Nat) : Option Nat :=
  match s.localRing f i, off with
  | some _, 0x000 => some 0
  | some _, 0x008 => some 0
  | some r, 0x040 => some (s.ring r).sqBase
  | some r, 0x048 => some (s.ring r).cqBase
  | some r, 0x050 => some (s.ring r).ctrl
  | some r, 0x058 => some (s.ring r).status
  | _, _ => none

/-- A function's entry of the function table (R358). -/
def State.readFnTable (s : State) (off : Nat) : Option Nat :=
  let e := s.fn (off / 256)
  let w := off % 256
  if w == 0 then some (e.ringFirst + e.ringCount * 2 ^ 16 + e.vectors * 2 ^ 32 + e.flags * 2 ^ 48)
  else if w < 136 then
    let p := tget e.aps ((w - 8) / 16)
    some (if (w - 8) % 16 == 8 then p.2 else p.1)
  else none

/-- An HDM window entry; BUSY is set while a change of it is in progress (R362, R363). -/
def State.readWinTable (s : State) (off : Nat) : Option Nat :=
  let e := tget s.host.wins (off / 32)
  match off % 32 with
  | 0 => some e.reg.dpa
  | 8 => some e.reg.len
  | 16 => some e.reg.dev
  | _ => some (e.reg.func + e.reg.flags * 256 + bit01 e.next.isSome * 1024)

/-- BAR0. -/
def State.bar0Read (s : State) (f off : Nat) : Option Nat :=
  if off < 0x100000 then s.readBlock f off
  else if off < 0x900000 then s.readPage f ((off - 0x100000) / 0x1000) (off % 0x1000)
  else if 0x1100000 ≤ off && off < 0x1104000 then s.readFnTable (off - 0x1100000)
  else if 0x1110000 ≤ off && off < 0x1112000 then s.readWinTable (off - 0x1110000)
  else none

/-- BAR4: the MSI-X table, the pending bits, CXL component registers, of which this spec gives no contents (R357, R377;
DESIGN CHOICE, log 103). -/
def State.bar4Read (s : State) (f off : Nat) : Option Nat :=
  if off < 0x1000 then
    let e : MsixEnt := tgetD s.host.msix (f * 256 + off / 16) {}
    some (if off % 16 == 8 then e.data + bit01 e.masked * 2 ^ 32 else e.addr)
  else if 0x8000 ≤ off && off < 0x8020 then
    some (((List.range 64).filter (fun i => tget s.host.pba (f * 256 + (off - 0x8000) * 8 + i))).foldl setBit 0)
  else if 0x10000 ≤ off && f == 0 then some (Config.freeNat s.free % 2 ^ 64)
  else none

/-- The value of a read and the state after it; an RSV offset reads 0 and is counted (R382). -/
def State.readReg (s : State) (f bar off : Nat) : Nat × State :=
  let answer := fun (r : Option Nat) => match r with
    | some v => (v, s)
    | none => (0, s.violation f)
  match bar with
  | 0 => answer (s.bar0Read f off)
  | 2 => s.bar2Read off
  | _ => let a := answer (s.bar4Read f off); if 0x10000 ≤ off then (a.1, a.2.tick) else a

/-- The answer to a read goes to the host. -/
def State.mmioData (s : State) (f bar off v : Nat) : State := s.emit (.mmio f bar off v)

/-- REGISTER_WRITE. A read in no served BAR reads all ones (R521); one that breaks the rules of R382 reads 0. -/
def opRegisterWrite (f bar off len : Nat) (n : Option Nat) (v : Verdict) (s : State) : State :=
  let answered := fun (st : State) (x : Nat) => if n.isSome then st else st.mmioData f bar off x
  if off + len > barSize f bar || !s.barServed f bar then answered (s.unsupported f bar) (2 ^ (8 * len) - 1)
  else if len != 8 || off % 8 != 0 then answered (s.violation f) 0
  else match n with
    | none =>
      let (x, s1) := s.readReg f bar off
      s1.mmioData f bar off x
    | some n =>
      let n64 := n % 2 ^ 64
      match bar with
      | 0 => s.bar0Write f off n64
      | 2 => s.bar2Write off n64 v
      | _ => s.bar4Write f off n64

def execRegisterWrite (func bar offset len : Nat) (value : Option Nat) (v : Verdict) (s : State) : Outcome :=
  .next (opRegisterWrite func bar offset len value v s)

end Sys2Proof.Machine
end

