-- ==== Sys2Proof/Machine/Clock.lean ====
section
/-!
DEFINITION. The tick of dcount (R6), which the block takes where no command waits.
-/
namespace Sys2Proof.Machine

/-- The clocks after one tick: dcount is 64 bits, wrapping (R6); fclk runs at its operating point while its
master PLL does (R473, R476, R488). -/
def State.count (s : State) : State :=
  { s with clk := { s.clk with
    dcount := (s.clk.dcount + 1) % 2 ^ 64
    fc := if s.pllRuns 8 then s.clk.fc + fclkMhz s.pwr.op else s.clk.fc } }

/-- A tick: dcount counts while VAON33 is present (R22, R488), and the domains in use start their idle time again
(R468). Without VAON33 nothing happens. -/
def State.clockTick (s : State) : State := if s.clk.vaon33 then s.count.watchDomains else s

end Sys2Proof.Machine
end

