-- ==== Sys2Proof/Machine/Fabric.lean ====
section
/-!
DEFINITION. The commands of the token fabric: arrival with the checks of R38 to R43 and the answers of R62, credits
(R46), sending on a route (R49), staging (R54 to R59), PRED, SEL, SWITCH and FAULT tokens, the pairing watchdog (R61),
and the windows of time (R520).
-/
namespace Sys2Proof.Machine

/-! ### Windows of time (R520) -/

/-- The count of a window returns to 0. -/
def State.clearWindow (s : State) (w : Nat) : State :=
  match w with
  | 0 => { s with code := { s.code with sym := [] } }
  | 1 => { s with trust := { s.trust with tagFails := [] } }
  | 2 => { s with link := { s.link with laneWin := [] } }
  | 3 => { s with ren := { s.ren with fabCorr := [] } }
  | _ => { s with ren := { s.ren with fabUnc := [] } }

/-- WINDOW_INTERVAL_START: at the boundary the count returns to 0 and the length in force is taken anew (R520). -/
def opWindowIntervalStart (w : Nat) (s : State) : State :=
  let start := tget s.clk.winStart w
  let len := max 1 (tgetD s.clk.winLen w (s.winLength w))
  if s.clk.dcount < start + len then s
  else
    let at_ := start + len * ((s.clk.dcount - start) / len)
    { s.clearWindow w with
      clk := { s.clk with winStart := tset s.clk.winStart w at_, winLen := tset s.clk.winLen w (s.winLength w) } }

def execWindowIntervalStart (win : Nat) (s : State) : Outcome := onUnit (win < 5) (opWindowIntervalStart win) s

/-! ### Arrival (R38 to R45, R62) -/

/-- A data token with symbol and bit errors as the checks pass it on: the token, or the context to fault with POISON.
What more errors than the codes detect make of it is open. -/
def decodeData (t : DTok) (active symErr bitErr free : Nat) : Except Nat DTok :=
  if bitErr == 2 then .error active
  else
    let t1 := if 2 < bitErr then { t with sb := BitVec.ofNat 16 (Config.freeNat free) } else t
    if symErr == 2 || symErr == 3 then .error t1.ctx
    else if 3 < symErr then .ok { t1 with pay := Config.freePayload free }
    else .ok t1

/-- The data lane of a site without the first token on its wire, or with a token from outside the bay, and the token. -/
def takeWire {α : Type} (c : Chan α) (tok : Option α) : Option (α × Chan α) :=
  match tok with
  | some t => if c.cred == 0 then none else some (t, { c with cred := c.cred - 1 })
  | none => match c.wire with
    | [] => none
    | (_, t) :: r => some (t, { c with wire := r })

/-- A token that is not corrupt enters its data queue, is discarded, or faults its context (R38, R39, R63). -/
def State.enterD (s : State) (b site i : Nat) (c : Chan DTok) (t : DTok) : State :=
  let x := s.site b site
  let drop := s.putSite b site (x.putD i { c with due := c.due + 1 })
  if (tfind x.faulted t.ctx).isSome then drop
  else if (s.drawer b t.ctx).st == .empty then (drop.bump 0x3108 (b + 1) 1).faultCtx b site t.ctx stProtocol
  else if tget x.expIn (i * 4 + t.ctx) != t.seq then (drop.bump 0x3102 (b + 1) 1).faultCtx b site t.ctx stProtocol
  else
    let y := { x with expIn := tset x.expIn (i * 4 + t.ctx) ((t.seq + 1) % 4096) }
    s.putSite b site (y.putD i { c with queue := c.queue ++ [t] })

/-- DATA_TOKEN_ARRIVE. -/
def opDataTokenArrive (b row col i : Nat) (tok : Option DTok) (symErr bitErr : Nat) (s : State) : State :=
  let site := siteNo row col
  let x := s.site b site
  match takeWire (x.dchan i) tok with
  | none => s
  | some (t, c) =>
    let s1 := if symErr == 1 then s.fabricCorrected b else s
    let s2 := if bitErr == 1 then s1.fabricCorrected b else s1
    match decodeData t (s.bay b).active symErr bitErr s.free with
    | .error ctx =>
      ((s2.putSite b site (x.putD i { c with due := c.due + 1 })).fabricUncorrectable b site).faultCtx b site ctx stPoison
    | .ok t1 => (if 3 < symErr || 2 < bitErr then s2.tick else s2).enterD b site i c t1

def execDataTokenArrive (bay row col input : Nat) (tok : Option DTok) (symErr bitErr : Nat) (s : State) : Outcome :=
  onUnit (siteOk bay row col && input < 5) (opDataTokenArrive bay row col input tok symErr bitErr) s

/-- A DRAIN token of a reserved mode that ends at a matrix cell (R120). -/
def State.badDrain (s : State) (b site i : Nat) (t : CTok) : Bool :=
  cOpc t == opcDrain && kindOf site == .mxc && 4 ≤ bits (cArg t) 3 0 &&
  (match (s.drawer b (cCtx t)).route site (i + 5) with | some r => r.dests == [] || r.toUnit | none => true)

/-- A control token that is not corrupt enters its queue, is discarded, or faults its context (R39, R43, R63). -/
def State.enterC (s : State) (b site i : Nat) (c : Chan CTok) (t : CTok) : State :=
  let x := s.site b site
  let ctx := cCtx t
  let drop := s.putSite b site (x.putC i { c with due := c.due + 1 })
  if (tfind x.faulted ctx).isSome then drop
  else if opcReserved (cOpc t) || ((s.drawer b ctx).st == .empty && !(s.edging b && cOpc t == opcDrain)) then
    (drop.bump 0x3108 (b + 1) 1).faultCtx b site ctx stProtocol
  else if s.badDrain b site i t then drop.faultCtx b site ctx stProtocol
  else s.putSite b site (x.putC i { c with queue := c.queue ++ [t] })

/-- CONTROL_TOKEN_ARRIVE. What more than two bits in error make of a token is open. -/
def opControlTokenArrive (b row col i : Nat) (tok : Option CTok) (bitErr : Nat) (s : State) : State :=
  let site := siteNo row col
  let x := s.site b site
  match takeWire (x.cchan i) tok with
  | none => s
  | some (t, c) =>
    if bitErr == 2 then
      ((s.putSite b site (x.putC i { c with due := c.due + 1 })).fabricUncorrectable b site).faultCtx b site
        (s.bay b).active stPoison
    else if 2 < bitErr then s.tick.enterC b site i c (BitVec.ofNat 32 (Config.freeNat s.free))
    else (if bitErr == 1 then s.fabricCorrected b else s).enterC b site i c t

def execControlTokenArrive (bay row col input : Nat) (tok : Option CTok) (bitErr : Nat) (s : State) : Outcome :=
  onUnit (siteOk bay row col && input < 5) (opControlTokenArrive bay row col input tok bitErr) s

/-- CREDIT_RETURN (R46, R47): lanes 0 to 4 data and 5 to 9 control of the inputs, 10 and 11 the data and the control lane of
the output to the site's unit (R35). What waits in the panel networks for the credit goes on (R48). -/
def opCreditReturn (b row col lane : Nat) (s : State) : State :=
  let site := siteNo row col
  let x := s.site b site
  (s.putSite b site
    (if lane < 5 then x.putD lane (x.dchan lane).credit
     else if lane < 10 then x.putC (lane - 5) (x.cchan (lane - 5)).credit
     else if lane == 10 then x.putUnitD x.unitD.credit
     else x.putUnitC x.unitC.credit)).netSettle

def execCreditReturn (bay row col lane : Nat) (s : State) : Outcome :=
  onUnit (siteOk bay row col && lane < 12) (opCreditReturn bay row col lane) s

/-! ### The output to the unit (R35) -/

/-- A token enters the queue of the output to the unit, with no hop latency (R35). -/
def Chan.enter {α : Type} (c : Chan α) (t : α) : Chan α := { c with cred := c.cred - 1, queue := c.queue ++ [t] }

/-- The unit takes the data token at the head of its own input queue; none where it cannot: a port cell for want of room
in the panel network, another unit as its kind says, or while a stand-alone token acts first (R44, R48, R200, R203). -/
def State.unitTakes (s : State) (b site : Nat) : Option State :=
  match (s.site b site).unitD.queue with
  | [] => none
  | (lane, t) :: _ =>
    if !s.serves b t.ctx then none
    else
      let x := s.site b site
      let s1 := s.putSite b site (x.putUnitD x.unitD.pop)
      if kindOf site == .ptc then s1.netPut b site lane t.ctx (some t) none
      else if !(s.drawer b t.ctx).pairs site && s.standsAt b site t.ctx lane then none
      else s1.unitTake b site lane t

/-- A port cell takes the control token at the head of its own input queue. -/
def State.unitTakesC (s : State) (b site : Nat) : Option State :=
  match (s.site b site).unitC.queue with
  | [] => none
  | (lane, t) :: _ =>
    if !s.serves b (cCtx t) || kindOf site != .ptc then none
    else
      let x := s.site b site
      (s.putSite b site (x.putUnitC x.unitC.pop)).netPut b site (lane + 5) (cCtx t) none (some t)

/-- The unit takes what it can of its input queues, in order (fuel: tokens of both). -/
def State.unitDrain (s : State) (b site : Nat) : Nat → State
  | 0 => s
  | n + 1 => match s.unitTakes b site with
    | some s1 => s1.unitDrain b site n
    | none => match s.unitTakesC b site with
      | some s1 => s1.unitDrain b site n
      | none => s

/-- The queues of the output to the unit hold 8 entries each (R35, R45). -/
def unitFuel : Nat := 16

/-! ### Sending (R48 to R51, R81) -/

/-- Adds a data half to a slot. -/
def addD (lane : Nat) (t : DTok) (sl : Slot) : Slot := { sl with data := sl.data ++ [(lane, t)] }
/-- Adds the control half to a slot. -/
def addC (t : CTok) (sl : Slot) : Slot := { sl with ctl := some t }

/-- The staging area takes a half that TOKEN_SEND brings, if no FAULT of its context is to be taken first (R57, R64). -/
def State.stage (s : State) (b site ctx seq : Nat) (half : Slot → Slot) : Option State :=
  if s.faultFirst b site ctx then none
  else (s.place b site (s.site b site).settle ctx seq half).map (fun x =>
    s.putSite b site { x with order := x.order + 1 })

/-- The state once the head of a data lane has gone to one destination; none where it cannot go there now. -/
def State.goD (s : State) (b site lane : Nat) (t : DTok) : Dest → Option State
  | .out k => if s.creditD b site k then some (s.sendD b site k t) else none
  | .unit =>
    let x := s.site b site
    if x.unitD.cred == 0 then none
    else
      let y := if kindOf site == .ptc then x.passed (16 + lane) t.ctx t.seq else x
      some (s.putSite b site (y.putUnitD (y.unitD.enter (lane, t))))
  | .staging => s.stage b site t.ctx t.seq (addD lane t)

/-- The same for the head of a control lane. A stand-alone token stages nowhere and does not go on to a unit at which it
acts (R43, R44). -/
def State.goC (s : State) (b site lane : Nat) (t : CTok) : Dest → Option State
  | .out k => if s.creditC b site k then some (s.sendC b site k t) else none
  | .unit =>
    let x := s.site b site
    let ptc := kindOf site == .ptc
    if x.unitC.cred == 0 || !(ptc || opcGoverns (cOpc t)) then none
    else
      let y := if ptc && opcGoverns (cOpc t) then x.passed (16 + lane + 5 + 32) (cCtx t) (cSeq t) else x
      some (s.putSite b site (y.putUnitC (y.unitC.enter (lane, t))))
  | .staging => if opcGoverns (cOpc t) then s.stage b site (cCtx t) (cSeq t) (addC t) else none

/-- Every copy of a fork goes, or none does (R49). -/
def goAll (go : State → Dest → Option State) : List Dest → State → Option State
  | [], s => some s
  | k :: r, s => match go s k with
    | none => none
    | some s1 => goAll go r s1

/-- The head of a data lane with its route, where its drawer serves tokens. -/
def State.headRouteD (s : State) (b site lane : Nat) : Option (DTok × Route) :=
  match ((s.site b site).dchan lane).queue with
  | [] => none
  | t :: _ => if s.serves b t.ctx then ((s.drawer b t.ctx).route site lane).map (fun r => (t, r)) else none

/-- The head of a control lane with its route. -/
def State.headRouteC (s : State) (b site lane : Nat) : Option (CTok × Route) :=
  match ((s.site b site).cchan lane).queue with
  | [] => none
  | t :: _ =>
    if s.serves b (cCtx t) then ((s.drawer b (cCtx t)).route site (lane + 5)).map (fun r => (t, r)) else none

/-- The head of a lane (0 to 4 data, 5 to 9 control) has gone, with all its copies; none where it cannot go now. -/
def State.goHead (s : State) (b site lane : Nat) : Option State :=
  if lane < 5 then
    match s.headRouteD b site lane with
    | none => none
    | some (t, r) =>
      if r.dests == [] then none
      else (goAll (fun st k => st.goD b site lane t k) r.dests s).map (fun s1 =>
        let y := s1.site b site
        s1.putSite b site (y.putD lane (y.dchan lane).pop))
  else
    match s.headRouteC b site (lane - 5) with
    | none => none
    | some (t, r) =>
      if r.dests == [] || cWave t then none
      else (goAll (fun st k => st.goC b site (lane - 5) t k) r.dests s).map (fun s1 =>
        let y := s1.site b site
        s1.putSite b site (y.putC (lane - 5) (y.cchan (lane - 5)).pop))

/-- The outputs and the priority that the head of a lane asks for. -/
def State.asks (s : State) (b site lane : Nat) : Option (List Nat × Nat) :=
  if lane < 5 then (s.headRouteD b site lane).map (fun e => (e.2.lanes, e.2.prio))
  else (s.headRouteC b site (lane - 5)).map (fun e => (e.2.lanes, e.2.prio))

/-- A token the unit has made can leave on its output: 4 is the site's own local input (R35). -/
def State.laneCreditD (s : State) (b site k : Nat) : Bool :=
  if k == 4 then ((s.site b site).dchan 4).cred != 0 else s.creditD b site k
/-- The same for a control token; from 16 on stand the cross-bay routes of a port cell. -/
def State.laneCreditC (s : State) (b site k : Nat) (t : CTok) : Bool :=
  if k == 4 then ((s.site b site).cchan 4).cred != 0
  else if k < 16 then s.creditC b site k
  else (s.netPut b site (k - 16) (cCtx t) none (some t)).isSome

/-- The outputs on which the unit itself has a token that can leave: its requests stand as a sixth input, of priority 0
(DESIGN CHOICE, log 93). -/
def State.unitAsks (s : State) (b site : Nat) (data : Bool) : List Nat :=
  let x := s.site b site
  if data then (x.pipe.filter (fun e => e.1 < 4 && s.laneCreditD b site e.1)).map (fun e => e.1)
  else (x.owed.filter (fun e => e.1 < 4 && s.laneCreditC b site e.1 e.2)).map (fun e => e.1)

/-- Requester q is looked at before p from a round-robin pointer on: the five inputs and the unit (R20). -/
def rrBefore (ptr p q : Nat) : Bool := (q + 6 - ptr % 6) % 6 < (p + 6 - ptr % 6) % 6

/-- Requester q takes the output that it shares with p: by priority, then round-robin (R51). `base` is the first pointer
of the lanes' kind. -/
def Site.wins (x : Site) (base : Nat) (lanes : List Nat) (p prio q : Nat) (qlanes : List Nat) (qprio : Nat) : Bool :=
  match qlanes.find? lanes.contains with
  | none => false
  | some k => qprio < prio || (qprio == prio && rrBefore (tget x.rr (base + k)) p q)

/-- Another requester that can go now takes an output from requester p (0 to 4 the inputs, 5 the unit) (R51). -/
def State.outranked (s : State) (b site : Nat) (data : Bool) (p prio : Nat) (lanes : List Nat) : Bool :=
  let x := s.site b site
  let base := if data then 0 else 5
  (List.range 5).any (fun j => j != p && (s.goHead b site (base + j)).isSome
    && (match s.asks b site (base + j) with | some (q, pr) => x.wins base lanes p prio j q pr | none => false))
  || (p != 5 && x.wins base lanes p prio 5 (s.unitAsks b site data) 0)

/-- The pointers of the outputs that requester p has been granted move on behind it (R20). -/
def Site.granted (x : Site) (data : Bool) (p : Nat) (lanes : List Nat) : Site :=
  { x with rr := lanes.foldl (fun t k => tset t ((if data then 0 else 5) + k) ((p + 1) % 6)) x.rr }

/-- A token of a buffer that is read out has left the scratch cell; with the last the buffer is free (R200). -/
def leftBuf : List Buf → List Buf
  | [] => []
  | x :: r => match x.left with
    | none => x :: r
    | some n => if n ≤ 1 then r else { x with left := some (n - 1) } :: r

/-- The first of the unit's data tokens that can leave leaves. -/
def State.sendPipe (s : State) (b site : Nat) : State :=
  let x := s.site b site
  match takeFirst (fun (e : Nat × DTok) => s.laneCreditD b site e.1
      && (e.1 == 4 || !s.outranked b site true 5 0 [e.1])) x.pipe with
  | none => s
  | some ((k, t), rest) =>
    let y := { x with pipe := rest }
    let s0 := if kindOf site == .scc then { s with bufs := tmod s.bufs (unitKey b site t.ctx) leftBuf } else s
    if k == 4 then s0.putSite b site (y.putD 4 ((y.dchan 4).send false t))
    else (s0.putSite b site (y.granted true 5 [k])).sendOwnD b site k t

/-- The first of the owed control tokens that can leave leaves. -/
def State.sendOwed (s : State) (b site : Nat) : State :=
  let x := s.site b site
  match takeFirst (fun (e : Nat × CTok) => s.laneCreditC b site e.1 e.2
      && (4 ≤ e.1 || !s.outranked b site false 5 0 [e.1])) x.owed with
  | none => s
  | some ((k, t), rest) =>
    let y := { x with owed := rest }
    if k == 4 then s.putSite b site (y.putC 4 ((y.cchan 4).send false t))
    else if k < 16 then (s.putSite b site (y.granted false 5 [k])).sendC b site k t
    else
      let s1 := s.putSite b site y
      (s1.netPut b site (k - 16) (cCtx t) none (some t)).getD s1

/-- The head of a lane goes on its route, unless another input or the unit takes an output from it (R49, R51). -/
def State.sendHead (s : State) (b site lane : Nat) : State :=
  match s.asks b site lane with
  | none => s
  | some (lanes, prio) =>
    if s.outranked b site (lane < 5) (lane % 5) prio lanes then s
    else match s.goHead b site lane with
      | none => s
      | some s1 => s1.putSite b site ((s1.site b site).granted (lane < 5) (lane % 5) lanes)

/-- TOKEN_SEND: lanes 0 to 4 data and 5 to 9 control of the inputs, 10 and 11 the data and control tokens that the unit
has made. The unit takes what waits for it. -/
def opTokenSend (b row col lane : Nat) (s : State) : State :=
  let site := siteNo row col
  (if lane == 10 then s.sendPipe b site
   else if lane == 11 then s.sendOwed b site
   else s.sendHead b site lane).unitDrain b site unitFuel

def execTokenSend (bay row col lane : Nat) (s : State) : Outcome :=
  onUnit (siteOk bay row col && lane < 12) (opTokenSend bay row col lane) s

/-! ### Staging (R54 to R59) -/

/-- The CTX and SEQ of the half at the head of a lane whose route leads to the staging area alone, and whose context has
no FAULT to be taken first (R64). -/
def State.halfAt (s : State) (b site lane : Nat) : Option (Nat × Nat) :=
  let h : Option (Nat × Nat) :=
    if lane < 5 then
      match s.headRouteD b site lane with
      | some (t, r) => if r.dests == [Dest.staging] then some (t.ctx, t.seq) else none
      | none => none
    else
      match s.headRouteC b site (lane - 5) with
      | some (t, r) => if r.dests == [Dest.staging] && opcGoverns (cOpc t) then some (cCtx t, cSeq t) else none
      | none => none
  h.filter (fun e => !s.faultFirst b site e.1)

/-- Adds the half at the head of a lane to a slot. -/
def State.addHalf (s : State) (b site : Nat) (sl : Slot) (lane : Nat) : Slot :=
  let x := s.site b site
  if lane < 5 then match (x.dchan lane).queue with | t :: _ => addD lane t sl | [] => sl
  else match (x.cchan (lane - 5)).queue with | t :: _ => addC t sl | [] => sl

/-- Removes the head of a lane (R46). -/
def Site.popLane (x : Site) (lane : Nat) : Site :=
  if lane < 5 then x.putD lane (x.dchan lane).pop else x.putC (lane - 5) (x.cchan (lane - 5)).pop

/-- Offers one half to the staging area by rules 1, 3, 4 and 5 (R57). -/
def State.offer (s : State) (b site lane : Nat) : State :=
  match s.halfAt b site lane with
  | none => s
  | some (ctx, seq) =>
    match s.place b site (s.site b site) ctx seq (fun sl => s.addHalf b site sl lane) with
    | none => s
    | some x => s.putSite b site (x.popLane lane)

/-- The five inputs from a round-robin pointer on: north, east, south, west, local (R20, R55). -/
def inputsFrom (ptr : Nat) : List Nat := (List.range 5).map (fun k => (ptr + k) % 5)

/-- A half may be placed by rules 1, 3 or 4 (R57). -/
def Site.fits (x : Site) (h : Nat × Nat) : Bool :=
  x.slots.any (fun sl => sl.ctx == h.1 && sl.seq == h.2) || x.mayTake h.1 h.2

/-- A pair made of the halves at the heads of some lanes. -/
def State.pairOf (s : State) (b site : Nat) (h : Nat × Nat) (lanes : List Nat) : Slot :=
  lanes.foldl (s.addHalf b site) { ctx := h.1, seq := h.2, ctl := none, data := [], since := s.fclkNow, done := none }

/-- The data lanes whose heads complete, with the control half at the head of lane c, a pair of which no slot holds a
part; none where they do not (R57 rule 2). -/
def State.partners (s : State) (b site : Nat) (x : Site) (c : Nat) : List Nat :=
  match s.halfAt b site c with
  | none => []
  | some h =>
    let ds := (List.range 5).filter (fun d => s.halfAt b site d == some h)
    if x.slots.all (fun y => !(y.ctx == h.1 && y.seq == h.2)) && ds.length ≤ 2 && s.slotFull b site (s.pairOf b site h (c :: ds))
    then ds else []

/-- The control half that the staging area accepts: the first input from the pointer on whose half can be placed or
completes its pair with the data heads (R55). -/
def State.acceptC (s : State) (b site : Nat) (x : Site) : Option Nat :=
  ((inputsFrom (tget x.rr 10)).map (5 + ·)).find? (fun c =>
    match s.halfAt b site c with | some h => x.fits h || s.partners b site x c != [] | none => false)

/-- The data halves that it accepts, at most two (R55). -/
def State.acceptD (s : State) (b site : Nat) (x : Site) (c : Option Nat) : List Nat :=
  let group := match c with | some l => s.partners b site x l | none => []
  let joins := fun (h : Nat × Nat) => match c with | some l => s.halfAt b site l == some h && x.fits h | none => false
  ((inputsFrom (tget x.rr 11)).filter (fun d =>
    match s.halfAt b site d with | some h => x.fits h || group.contains d || joins h | none => false)).take 2

/-- The pair completed by lanes `ls` at once fires next without a slot, or takes one, or its halves stay (R57 rule 2). -/
def State.direct (s : State) (b site : Nat) (x : Site) (ls : List Nat) (h : Nat × Nat) : State :=
  let sl := s.seal b site x (s.pairOf b site h ls)
  let y := ls.foldl Site.popLane x
  let s1 := s.putSite b site { y with direct := some sl }
  if s1.choose b site == some sl then s1
  else if x.mayTake h.1 h.2 then s.putSite b site { y with slots := y.slots ++ [sl] }
  else s

/-- STAGING_ACCEPT: at most one control half and two data halves are accepted, by the rules of R57 (R55). Halves accepted
together complete in the same fclk (R59). -/
def opStagingAccept (b row col : Nat) (s0 : State) : State :=
  let site := siteNo row col
  let x := (s0.site b site).settle
  let s := s0.putSite b site x
  let c := s.acceptC b site x
  let ds := s.acceptD b site x c
  let group := match c with | some l => s.partners b site x l | none => []
  let whole := group != [] && group.all ds.contains && x.direct.isNone
  let s1 := match c with
    | some l => if whole then s.direct b site x (l :: group) ((s.halfAt b site l).getD (0, 0)) else s
    | none => s
  let rest := (if whole then [] else c.toList) ++ ds.filter (fun d => !(whole && group.contains d))
  let s2 := rest.foldl (fun st l => st.offer b site l) s1
  let y := s2.site b site
  let r1 := match c with | some l => tset y.rr 10 ((l - 5 + 1) % 5) | none => y.rr
  let r2 := match ds.getLast? with | some d => tset r1 11 ((d + 1) % 5) | none => r1
  s2.putSite b site { y with order := y.order + 1, rr := r2 }

def execStagingAccept (bay row col : Nat) (s : State) : Outcome :=
  onUnit (siteOk bay row col) (opStagingAccept bay row col) s

/-- PRED (R65). At a TEST cell the token is an operand and the pair is TEST's (R169). -/
def opPred (b row col : Nat) (s : State) : State :=
  let site := siteNo row col
  match s.choose b site with
  | none => s
  | some sl => match sl.ctl with
    | none => s
    | some t =>
      let annul := !bitOf (cArg t) 0
      if cOpc t != opcPred then s
      else match siteKind row col with
        | .mxc => mxcPair s b site sl annul 0
        | .fnc => if (s.drawer b sl.ctx).cfg site 1024 == 5 then s else fncCompute s b site sl annul
        | _ => s.putSite b site ((s.site b site).fired sl)

def execPred (bay row col : Nat) (s : State) : Outcome := onUnit (siteOk bay row col) (opPred bay row col) s

/-- SEL: a merge (R66). The lane whose route says operand 0 carries the taken input. -/
def opSel (b row col : Nat) (s : State) : State :=
  let site := siteNo row col
  match s.choose b site with
  | none => s
  | some sl => match sl.ctl with
    | none => s
    | some t =>
      if cOpc t != opcSel then s
      else
        let d := s.drawer b sl.ctx
        let role := fun (e : Nat × DTok) => match d.route site e.1 with | some r => r.role | none => 0
        let want := if bitOf (cArg t) 0 then 0 else 1
        let tok := match sl.data.find? (fun e => role e == want) with
          | some e => e.2
          | none => (sl.data.getD want (0, default)).2
        s.putSite b site (((s.site b site).fired sl).emitD 4 sl.ctx tok.pay tok.last tok.pv)

def execSel (bay row col : Nat) (s : State) : Outcome := onUnit (siteOk bay row col) (opSel bay row col) s

/-! ### SWITCH, FAULT and the watchdog -/

/-- The unit of a site holds nothing more of a context that it has still to emit. -/
def State.unitDry (s : State) (b site ctx : Nat) : Bool :=
  let x := s.site b site
  (x.slots ++ x.direct.toList).all (fun sl => sl.ctx != ctx) && x.pipe.all (fun e => e.2.ctx != ctx) &&
  x.unitD.queue.all (fun e => e.2.ctx != ctx) && x.unitC.queue.all (fun e => cCtx e.2 != ctx) &&
  (tget s.bufs (unitKey b site ctx)).isEmpty && (s.srcOf b site ctx).wbuf.all (fun e => e.2.isEmpty) &&
  (s.fx b site ctx).pack.isEmpty

/-- SWITCH: taken on an input; on the last of the routed inputs the unit emits the wave, or absorbs it (R89, R90). -/
def opSwitch (b row col input : Nat) (s : State) : State :=
  let site := siteNo row col
  match s.headC b site input with
  | none => s
  | some t =>
    let ctx := cCtx t
    let arg := cArg t % 4
    let x := s.site b site
    let d := s.drawer b ctx
    if cOpc t != opcSwitch || !s.seqDue b site input t then s
    else if (tfind x.swArg ctx).any (· != arg) then s.faultCtx b site ctx stProtocol
    else
      let taken := dedup' (x.swIn ++ [input * 4 + ctx])
      let all := (d.inLanes site).all (fun l => taken.contains (l * 4 + ctx))
      if all && !s.unitDry b site ctx then s
      else
        let y := (x.putC input (x.cchan input).pop)
        let y1 := { y with swIn := taken, swArg := tset y.swArg ctx arg }
        if !all then s.putSite b site y1
        else
          let outs := if d.isSink site then [] else d.waveOuts site
          s.putSite b site { y1 with
            swOut := y1.swOut ++ [ctx]
            owed := y1.owed ++ outs.map (fun k => (k, mkC opcSwitch ctx (y1.waveSeq k ctx) arg)) }

def execSwitch (bay row col input : Nat) (s : State) : Outcome :=
  onUnit (siteOk bay row col && input < 5) (opSwitch bay row col input) s

/-- FAULT: at the head of its queue it takes effect at once, once its drawer serves tokens (R44, R63, R93). -/
def opFault (b row col input : Nat) (s : State) : State :=
  let site := siteNo row col
  match ((s.site b site).cchan input).queue with
  | [] => s
  | t :: _ =>
    if cOpc t == opcFault && s.serves b (cCtx t) then s.faultCtx b site (cCtx t) (bits (cArg t) 7 0) else s

def execFault (bay row col input : Nat) (s : State) : Outcome :=
  onUnit (siteOk bay row col && input < 5) (opFault bay row col input) s

/-- The pairing watchdog of a context runs: its drawer is the one the bay runs, and the bay is not frozen (R61). -/
def State.watches (s : State) (b ctx : Nat) : Bool := (s.bay b).active == ctx && (s.bay b).frozen.isNone

/-- PAIR_WATCHDOG_EXPIRY: a half has waited in a slot longer than PAIR_WATCHDOG (R61, R62). -/
def opPairWatchdogExpiry (b row col ctx seq : Nat) (s : State) : State :=
  let site := siteNo row col
  if s.watches b ctx && (s.site b site).slots.any (fun sl => sl.ctx == ctx && sl.seq == seq && !s.slotFull b site sl
      && s.obj 0x2C01 1 < s.fclkNow - sl.since) then
    (s.bump 0x3103 (b + 1) 1).faultCtx b site ctx stTimeout
  else s

def execPairWatchdogExpiry (bay row col ctx seq : Nat) (s : State) : Outcome :=
  onUnit (siteOk bay row col && ctx < 4) (opPairWatchdogExpiry bay row col ctx seq) s

end Sys2Proof.Machine
end

