-- ==== Sys2Proof/Machine/Dispatch.lean ====
section
/-!
DEFINITION. One arm for each command: its meaning.
-/
namespace Sys2Proof.Machine

def exec (i : Instr) (s : State) : Host.Outcome State Fault Refusal :=
  match i with
  | .windowIntervalStart win => Sys2Proof.Machine.execWindowIntervalStart win s
  | .dataTokenArrive bay row col input tok symErr bitErr => Sys2Proof.Machine.execDataTokenArrive bay row col input tok symErr bitErr s
  | .controlTokenArrive bay row col input tok bitErr => Sys2Proof.Machine.execControlTokenArrive bay row col input tok bitErr s
  | .creditReturn bay row col lane => Sys2Proof.Machine.execCreditReturn bay row col lane s
  | .tokenSend bay row col lane => Sys2Proof.Machine.execTokenSend bay row col lane s
  | .stagingAccept bay row col => Sys2Proof.Machine.execStagingAccept bay row col s
  | .pred bay row col => Sys2Proof.Machine.execPred bay row col s
  | .sel bay row col => Sys2Proof.Machine.execSel bay row col s
  | .shape bay row col input => Sys2Proof.Machine.execShape bay row col input s
  | .claim bay row col input => Sys2Proof.Machine.execClaim bay row col input s
  | .fence bay row col input => Sys2Proof.Machine.execFence bay row col input s
  | .switch bay row col input => Sys2Proof.Machine.execSwitch bay row col input s
  | .lutflip bay row col input => Sys2Proof.Machine.execLutflip bay row col input s
  | .fault bay row col input => Sys2Proof.Machine.execFault bay row col input s
  | .pairWatchdogExpiry bay row col ctx seq => Sys2Proof.Machine.execPairWatchdogExpiry bay row col ctx seq s
  | .load bay d image digestAt b0 task sect => Sys2Proof.Machine.execLoad bay d image digestAt b0 task sect s
  | .arm bay d task => Sys2Proof.Machine.execArm bay d task s
  | .activate bay d b0 task => Sys2Proof.Machine.execActivate bay d b0 task s
  | .clear bay d task => Sys2Proof.Machine.execClear bay d task s
  | .loadStart bay d => Sys2Proof.Machine.execLoadStart bay d s
  | .loadFinish bay d errs flip1 flip2 => Sys2Proof.Machine.execLoadFinish bay d errs flip1 flip2 s
  | .loadWaitTimeout bay d => Sys2Proof.Machine.execLoadWaitTimeout bay d s
  | .sourceSwitch bay row col d => Sys2Proof.Machine.execSourceSwitch bay row col d s
  | .bayQuiescent bay d => Sys2Proof.Machine.execBayQuiescent bay d s
  | .chainedAdvance bay => Sys2Proof.Machine.execChainedAdvance bay s
  | .accountingTick bay d => Sys2Proof.Machine.execAccountingTick bay d s
  | .mxcMac bay row col => Sys2Proof.Machine.execMxcMac bay row col s
  | .mxcScale bay row col => Sys2Proof.Machine.execMxcScale bay row col s
  | .mxcImport bay row col => Sys2Proof.Machine.execMxcImport bay row col s
  | .drainRoundClear bay row col input => Sys2Proof.Machine.execDrainRoundClear bay row col input s
  | .drainRoundKeep bay row col input => Sys2Proof.Machine.execDrainRoundKeep bay row col input s
  | .drainExportClear bay row col input => Sys2Proof.Machine.execDrainExportClear bay row col input s
  | .drainClear bay row col input => Sys2Proof.Machine.execDrainClear bay row col input s
  | .fncNone bay row col => Sys2Proof.Machine.execFncNone bay row col s
  | .convert bay row col => Sys2Proof.Machine.execConvert bay row col s
  | .func bay row col => Sys2Proof.Machine.execFunc bay row col s
  | .fuse bay row col => Sys2Proof.Machine.execFuse bay row col s
  | .select bay row col => Sys2Proof.Machine.execSelect bay row col s
  | .test bay row col => Sys2Proof.Machine.execTest bay row col s
  | .lookup bay row col => Sys2Proof.Machine.execLookup bay row col s
  | .smaxMax bay row col => Sys2Proof.Machine.execSmaxMax bay row col s
  | .smaxExp bay row col => Sys2Proof.Machine.execSmaxExp bay row col s
  | .smaxDiv bay row col => Sys2Proof.Machine.execSmaxDiv bay row col s
  | .rowstat bay row col => Sys2Proof.Machine.execRowstat bay row col s
  | .slice bay row col => Sys2Proof.Machine.execSlice bay row col s
  | .recombine bay row col => Sys2Proof.Machine.execRecombine bay row col s
  | .lutOpen bay row col => Sys2Proof.Machine.execLutOpen bay row col s
  | .lutWrite bay row col => Sys2Proof.Machine.execLutWrite bay row col s
  | .lutBankDrained bay row col d bank => Sys2Proof.Machine.execLutBankDrained bay row col d bank s
  | .lutflipWaitTimeout bay row col ctx => Sys2Proof.Machine.execLutflipWaitTimeout bay row col ctx s
  | .edgeModeWrite value => Sys2Proof.Machine.execEdgeModeWrite value s
  | .edgeModeClearEffect bay => Sys2Proof.Machine.execEdgeModeClearEffect bay s
  | .claimAsk bay d => Sys2Proof.Machine.execClaimAsk bay d s
  | .pacerRelease b0 d => Sys2Proof.Machine.execPacerRelease b0 d s
  | .tallyRequest b0 d remote => Sys2Proof.Machine.execTallyRequest b0 d remote s
  | .tallyAnswer b0 d => Sys2Proof.Machine.execTallyAnswer b0 d s
  | .ftuTransferIssue bay row col d k => Sys2Proof.Machine.execFtuTransferIssue bay row col d k s
  | .ftuTransferReply acc => Sys2Proof.Machine.execFtuTransferReply acc s
  | .scratchBufferReadout bay row col d => Sys2Proof.Machine.execScratchBufferReadout bay row col d s
  | .pleachWaitTimeout bay row col => Sys2Proof.Machine.execPleachWaitTimeout bay row col s
  | .create q base tiles place prio lost => Sys2Proof.Machine.execCreate q base tiles place prio lost s
  | .place q object place prio => Sys2Proof.Machine.execPlace q object place prio s
  | .move q object first count tier => Sys2Proof.Machine.execMove q object first count tier s
  | .free q object => Sys2Proof.Machine.execFree q object s
  | .freeRelease object => Sys2Proof.Machine.execFreeRelease object s
  | .query q object addr => Sys2Proof.Machine.execQuery q object addr s
  | .translation acc => Sys2Proof.Machine.execTranslation acc s
  | .settleReturn tier => Sys2Proof.Machine.execSettleReturn tier s
  | .moveStart die => Sys2Proof.Machine.execMoveStart die s
  | .moveCopy tile errs poisoned => Sys2Proof.Machine.execMoveCopy tile errs poisoned s
  | .moveCommit tile => Sys2Proof.Machine.execMoveCommit tile s
  | .oldFrameFree tile => Sys2Proof.Machine.execOldFrameFree tile s
  | .tierReply acc errs tagBad poisoned bursts => Sys2Proof.Machine.execTierReply acc errs tagBad poisoned bursts s
  | .tagReread acc errs tagBad poisoned => Sys2Proof.Machine.execTagReread acc errs tagBad poisoned s
  | .accessLimitExpiry acc => Sys2Proof.Machine.execAccessLimitExpiry acc s
  | .tierFailure tier => Sys2Proof.Machine.execTierFailure tier s
  | .dirProbe addr => Sys2Proof.Machine.execDirProbe addr s
  | .nearRetrain set => Sys2Proof.Machine.execNearRetrain set s
  | .ddr5Retrain channel => Sys2Proof.Machine.execDdr5Retrain channel s
  | .scrubRead word errs overtaken lost => Sys2Proof.Machine.execScrubRead word errs overtaken lost s
  | .reserveSpend value => Sys2Proof.Machine.execReserveSpend value s
  | .expanderFatal x => Sys2Proof.Machine.execExpanderFatal x s
  | .expanderCorrectable x => Sys2Proof.Machine.execExpanderCorrectable x s
  | .expanderMalformed x => Sys2Proof.Machine.execExpanderMalformed x s
  | .expanderMediaError x word => Sys2Proof.Machine.execExpanderMediaError x word s
  | .expanderEventRecord x detail => Sys2Proof.Machine.execExpanderEventRecord x detail s
  | .register q header cut => Sys2Proof.Machine.execRegister q header cut s
  | .unregister q handle => Sys2Proof.Machine.execUnregister q handle s
  | .submit q header => Sys2Proof.Machine.execSubmit q header s
  | .graphCountDone g => Sys2Proof.Machine.execGraphCountDone g s
  | .savepool q object => Sys2Proof.Machine.execSavepool q object s
  | .taskIssue g t => Sys2Proof.Machine.execTaskIssue g t s
  | .issueReadsDone g t => Sys2Proof.Machine.execIssueReadsDone g t s
  | .preempt bay => Sys2Proof.Machine.execPreempt bay s
  | .saveFreeze bay => Sys2Proof.Machine.execSaveFreeze bay s
  | .saveStreamEnd bay => Sys2Proof.Machine.execSaveStreamEnd bay s
  | .saveComplete bay => Sys2Proof.Machine.execSaveComplete bay s
  | .restore bay => Sys2Proof.Machine.execRestore bay s
  | .restoreResume bay => Sys2Proof.Machine.execRestoreResume bay s
  | .quantumExpiry g t => Sys2Proof.Machine.execQuantumExpiry g t s
  | .taskComplete g t => Sys2Proof.Machine.execTaskComplete g t s
  | .taskTeardown g t => Sys2Proof.Machine.execTaskTeardown g t s
  | .teardownFinish g t => Sys2Proof.Machine.execTeardownFinish g t s
  | .intake q slot adapter manifest len base tier prio flags sigOk => Sys2Proof.Machine.execIntake q slot adapter manifest len base tier prio flags sigOk s
  | .shardReady q slot adapter shard kind addr => Sys2Proof.Machine.execShardReady q slot adapter shard kind addr s
  | .planerShardStart planer data => Sys2Proof.Machine.execPlanerShardStart planer data s
  | .shardCheck planer => Sys2Proof.Machine.execShardCheck planer s
  | .shardTimeout slot adapter => Sys2Proof.Machine.execShardTimeout slot adapter s
  | .generationStaged slot adapter => Sys2Proof.Machine.execGenerationStaged slot adapter s
  | .commit q slot adapter flags => Sys2Proof.Machine.execCommit q slot adapter flags s
  | .generationSwitch slot adapter => Sys2Proof.Machine.execGenerationSwitch slot adapter s
  | .discard q slot adapter => Sys2Proof.Machine.execDiscard q slot adapter s
  | .retire q slot adapter => Sys2Proof.Machine.execRetire q slot adapter s
  | .hold q slot gen => Sys2Proof.Machine.execHold q slot gen s
  | .release q slot gen => Sys2Proof.Machine.execRelease q slot gen s
  | .slotQuery q slot addr => Sys2Proof.Machine.execSlotQuery q slot addr s
  | .releaseSlot q slot => Sys2Proof.Machine.execReleaseSlot q slot s
  | .weightScrub planer slot adapter gen tile => Sys2Proof.Machine.execWeightScrub planer slot adapter gen tile s
  | .kvpool q object runPages cellTiles => Sys2Proof.Machine.execKvpool q object runPages cellTiles s
  | .serve q slot prefill decode verify groups vocab context template area areaLen => Sys2Proof.Machine.execServe q slot prefill decode verify groups vocab context template area areaLen s
  | .unserve q slot => Sys2Proof.Machine.execUnserve q slot s
  | .entryQuery q entry addr => Sys2Proof.Machine.execEntryQuery q entry addr s
  | .cancel q entry => Sys2Proof.Machine.execCancel q entry s
  | .request q flags desc hostStatus hostDesc hostPrompt => Sys2Proof.Machine.execRequest q flags desc hostStatus hostDesc hostPrompt s
  | .thicketLookup entry => Sys2Proof.Machine.execThicketLookup entry s
  | .walkDone entry => Sys2Proof.Machine.execWalkDone entry s
  | .publish entry => Sys2Proof.Machine.execPublish entry s
  | .evictLeaf func => Sys2Proof.Machine.execEvictLeaf func s
  | .purge func => Sys2Proof.Machine.execPurge func s
  | .deadline entry => Sys2Proof.Machine.execDeadline entry s
  | .batchClose entry => Sys2Proof.Machine.execBatchClose entry s
  | .batchWaitExpiry entry => Sys2Proof.Machine.execBatchWaitExpiry entry s
  | .batchTaskDone batch => Sys2Proof.Machine.execBatchTaskDone batch s
  | .entryFinish entry => Sys2Proof.Machine.execEntryFinish entry s
  | .pruneRow batch member => Sys2Proof.Machine.execPruneRow batch member s
  | .graftDecision batch member => Sys2Proof.Machine.execGraftDecision batch member s
  | .sqTail func ring value => Sys2Proof.Machine.execSqTail func ring value s
  | .cqHead func ring value => Sys2Proof.Machine.execCqHead func ring value s
  | .ringEnable func ring value => Sys2Proof.Machine.execRingEnable func ring value s
  | .ringDisable func ring value => Sys2Proof.Machine.execRingDisable func ring value s
  | .ringStopped ring => Sys2Proof.Machine.execRingStopped ring s
  | .ringEntryRead ring => Sys2Proof.Machine.execRingEntryRead ring s
  | .submissionEntry ring entry => Sys2Proof.Machine.execSubmissionEntry ring entry s
  | .completionWrite ring => Sys2Proof.Machine.execCompletionWrite ring s
  | .cqStallExpiry ring => Sys2Proof.Machine.execCqStallExpiry ring s
  | .coalTimeExpiry ring => Sys2Proof.Machine.execCoalTimeExpiry ring s
  | .msixPendingSend func vector => Sys2Proof.Machine.execMsixPendingSend func vector s
  | .ringRangeWrite func first count => Sys2Proof.Machine.execRingRangeWrite func first count s
  | .vectorsWrite func vectors => Sys2Proof.Machine.execVectorsWrite func vectors s
  | .hdmWindowWrite window length => Sys2Proof.Machine.execHdmWindowWrite window length s
  | .hdmInvalidateDone window => Sys2Proof.Machine.execHdmInvalidateDone window s
  | .vfEnableChange enable numVfs => Sys2Proof.Machine.execVfEnableChange enable numVfs s
  | .flr func => Sys2Proof.Machine.execFlr func s
  | .hostMemRead dpa tee cache tag => Sys2Proof.Machine.execHostMemRead dpa tee cache tag s
  | .hostMemWrite dpa data tee tag => Sys2Proof.Machine.execHostMemWrite dpa data tee tag s
  | .birsp line => Sys2Proof.Machine.execBirsp line s
  | .hostSnoop addr => Sys2Proof.Machine.execHostSnoop addr s
  | .hostReadResponse tag ok data => Sys2Proof.Machine.execHostReadResponse tag ok data s
  | .hostReadLimitExpiry tag => Sys2Proof.Machine.execHostReadLimitExpiry tag s
  | .hostLinkTrained rate width => Sys2Proof.Machine.execHostLinkTrained rate width s
  | .busMasterClear func => Sys2Proof.Machine.execBusMasterClear func s
  | .unsupportedRequest func bar => Sys2Proof.Machine.execUnsupportedRequest func bar s
  | .configurationRequest func reg write => Sys2Proof.Machine.execConfigurationRequest func reg write s
  | .causeWrite func group value => Sys2Proof.Machine.execCauseWrite func group value s
  | .registerWrite func bar offset len value v => Sys2Proof.Machine.execRegisterWrite func bar offset len value v s
  | .keyLoad q addr len hostStatus bundle tagOk payload => Sys2Proof.Machine.execKeyLoad q addr len hostStatus bundle tagOk payload s
  | .keyRollDone func tagBad => Sys2Proof.Machine.execKeyRollDone func tagBad s
  | .tenantEnd q func => Sys2Proof.Machine.execTenantEnd q func s
  | .debugNonce q addr => Sys2Proof.Machine.execDebugNonce q addr s
  | .debugUnlock q addr serial nonce scope sigOk => Sys2Proof.Machine.execDebugUnlock q addr serial nonce scope sigOk s
  | .spdmRequest func version msg => Sys2Proof.Machine.execSpdmRequest func version msg s
  | .measurements func session nonce => Sys2Proof.Machine.execMeasurements func session nonce s
  | .tspLock func => Sys2Proof.Machine.execTspLock func s
  | .tspUnlock func => Sys2Proof.Machine.execTspUnlock func s
  | .frameTransmit link => Sys2Proof.Machine.execFrameTransmit link s
  | .frameReceive link f => Sys2Proof.Machine.execFrameReceive link f s
  | .ackTimeout link => Sys2Proof.Machine.execAckTimeout link s
  | .laneLockLoss link lane => Sys2Proof.Machine.execLaneLockLoss link lane s
  | .linkRead link => Sys2Proof.Machine.execLinkRead link s
  | .linkWrite link => Sys2Proof.Machine.execLinkWrite link s
  | .linkAtomic link => Sys2Proof.Machine.execLinkAtomic link s
  | .linkClaim link => Sys2Proof.Machine.execLinkClaim link s
  | .linkTokens link => Sys2Proof.Machine.execLinkTokens link s
  | .linkDoorbell link => Sys2Proof.Machine.execLinkDoorbell link s
  | .linkResp link => Sys2Proof.Machine.execLinkResp link s
  | .messageForward link => Sys2Proof.Machine.execMessageForward link s
  | .hello link addr mode credits => Sys2Proof.Machine.execHello link addr mode credits s
  | .creditInit link credits => Sys2Proof.Machine.execCreditInit link credits s
  | .rekey link => Sys2Proof.Machine.execRekey link s
  | .swap link lane sleep => Sys2Proof.Machine.execSwap link lane sleep s
  | .sleep link => Sys2Proof.Machine.execSleep link s
  | .sleepAck link => Sys2Proof.Machine.execSleepAck link s
  | .linkReqExpiry xid => Sys2Proof.Machine.execLinkReqExpiry xid s
  | .rekeyIntervalExpiry link => Sys2Proof.Machine.execRekeyIntervalExpiry link s
  | .linkIdleExpiry link => Sys2Proof.Machine.execLinkIdleExpiry link s
  | .wakePattern link => Sys2Proof.Machine.execWakePattern link s
  | .linkTrainingDone link ok => Sys2Proof.Machine.execLinkTrainingDone link ok s
  | .keyAgreementDone link ok serial => Sys2Proof.Machine.execKeyAgreementDone link ok serial s
  | .linkReadmit link code => Sys2Proof.Machine.execLinkReadmit link code s
  | .linkMapOut link => Sys2Proof.Machine.execLinkMapOut link s
  | .linkMaintSwap link lane => Sys2Proof.Machine.execLinkMaintSwap link lane s
  | .maintWindow value => Sys2Proof.Machine.execMaintWindow value s
  | .fabricWindowWrite window entry => Sys2Proof.Machine.execFabricWindowWrite window entry s
  | .esmPreop sm0 sm1 => Sys2Proof.Machine.execEsmPreop sm0 sm1 s
  | .esmSafeop sm2 sm3 => Sys2Proof.Machine.execEsmSafeop sm2 sm3 s
  | .ecatFrame write fcsOk => Sys2Proof.Machine.execEcatFrame write fcsOk s
  | .sdoDownload index sub complete value v => Sys2Proof.Machine.execSdoDownload index sub complete value v s
  | .sdoUpload index sub complete => Sys2Proof.Machine.execSdoUpload index sub complete s
  | .sdoInfo index => Sys2Proof.Machine.execSdoInfo index s
  | .foeWrite file password first last data v => Sys2Proof.Machine.execFoeWrite file password first last data v s
  | .foeRead file => Sys2Proof.Machine.execFoeRead file s
  | .dictWrite index sub value v => Sys2Proof.Machine.execDictWrite index sub value v s
  | .longSel value => Sys2Proof.Machine.execLongSel value s
  | .longData write => Sys2Proof.Machine.execLongData write s
  | .longCommit v => Sys2Proof.Machine.execLongCommit v s
  | .imageTarget coe value => Sys2Proof.Machine.execImageTarget coe value s
  | .imageData coe data => Sys2Proof.Machine.execImageData coe data s
  | .imageCommit coe v => Sys2Proof.Machine.execImageCommit coe v s
  | .imageAbort coe => Sys2Proof.Machine.execImageAbort coe s
  | .tripClear value => Sys2Proof.Machine.execTripClear value s
  | .domainIdleExpiry domain => Sys2Proof.Machine.execDomainIdleExpiry domain s
  | .retentionOffExpiry domain => Sys2Proof.Machine.execRetentionOffExpiry domain s
  | .wakeSource source => Sys2Proof.Machine.execWakeSource source s
  | .readyChainStep domain => Sys2Proof.Machine.execReadyChainStep domain s
  | .capSample power fixed dyn => Sys2Proof.Machine.execCapSample power fixed dyn s
  | .floorEstimate watts => Sys2Proof.Machine.execFloorEstimate watts s
  | .thermalStep readings => Sys2Proof.Machine.execThermalStep readings s
  | .thermtrip sensor => Sys2Proof.Machine.execThermtrip sensor s
  | .vin12Low mv => Sys2Proof.Machine.execVin12Low mv s
  | .vin12Rise mv facts => Sys2Proof.Machine.execVin12Rise mv facts s
  | .vaon33Apply mv => Sys2Proof.Machine.execVaon33Apply mv s
  | .refclkLoss clock => Sys2Proof.Machine.execRefclkLoss clock s
  | .refclkReturn clock => Sys2Proof.Machine.execRefclkReturn clock s
  | .reset part => Sys2Proof.Machine.execReset part s
  | .out part => Sys2Proof.Machine.execOut part s
  | .in_ part => Sys2Proof.Machine.execIn part s
  | .recal part => Sys2Proof.Machine.execRecal part s
  | .recalDone part => Sys2Proof.Machine.execRecalDone part s
  | .handover part => Sys2Proof.Machine.execHandover part s
  | .subst bay arg => Sys2Proof.Machine.execSubst bay arg s
  | .partitionReturn part ok badSites badSpares => Sys2Proof.Machine.execPartitionReturn part ok badSites badSpares s
  | .jtagInstruction op => Sys2Proof.Machine.execJtagInstruction op s
  | .ecatPortLinkChange port up => Sys2Proof.Machine.execEcatPortLinkChange port up s
  | .junctionThrottleReached sensor reading => Sys2Proof.Machine.execJunctionThrottleReached sensor reading s
  | .hostWriteGo tag ok => Sys2Proof.Machine.execHostWriteGo tag ok s
  | .expanderCapacityChange x => Sys2Proof.Machine.execExpanderCapacityChange x s
  | .retrainDone unit ok => Sys2Proof.Machine.execRetrainDone unit ok s
  | .dramTemperatureChange device hot => Sys2Proof.Machine.execDramTemperatureChange device hot s
  | .dimmLost channel => Sys2Proof.Machine.execDimmLost channel s
  | .useAgeing => Sys2Proof.Machine.execUseAgeing s
  | .placementPass => Sys2Proof.Machine.execPlacementPass s
  | .eviction => Sys2Proof.Machine.execEviction s
  | .slotAgeing => Sys2Proof.Machine.execSlotAgeing s
  | .viral => Sys2Proof.Machine.execViral s
  | .hostLinkDown => Sys2Proof.Machine.execHostLinkDown s
  | .maintWindowClose => Sys2Proof.Machine.execMaintWindowClose s
  | .esmInit => Sys2Proof.Machine.execEsmInit s
  | .esmOp => Sys2Proof.Machine.execEsmOp s
  | .esmBoot => Sys2Proof.Machine.execEsmBoot s
  | .pdSnapshot => Sys2Proof.Machine.execPdSnapshot s
  | .pdLost => Sys2Proof.Machine.execPdLost s
  | .longAbort => Sys2Proof.Machine.execLongAbort s
  | .imagePathTimeout => Sys2Proof.Machine.execImagePathTimeout s
  | .opStepDone => Sys2Proof.Machine.execOpStepDone s
  | .pwrAlertAssert => Sys2Proof.Machine.execPwrAlertAssert s
  | .pwrAlertRelease => Sys2Proof.Machine.execPwrAlertRelease s
  | .pwrAlertHoldExpiry => Sys2Proof.Machine.execPwrAlertHoldExpiry s
  | .thermAlertAssert => Sys2Proof.Machine.execThermAlertAssert s
  | .thermAlertRelease => Sys2Proof.Machine.execThermAlertRelease s
  | .vaon33Loss => Sys2Proof.Machine.execVaon33Loss s
  | .standbyResync => Sys2Proof.Machine.execStandbyResync s
  | .coppiceAction => Sys2Proof.Machine.execCoppiceAction s
  | .conventionalReset => Sys2Proof.Machine.execConventionalReset s

end Sys2Proof.Machine
end

