-- ==== Sys2Proof/WellFormed.lean ====
section
/-!
DEFINITION. Which commands are well formed: those whose numbers name units that exist (R16, R29 and the tables that
number each kind of unit). A meaning answers a fault to any other command.
-/
namespace Sys2Proof

open Sys2Proof.Machine

/-- The numbers of a command name units that exist. -/
def wellFormed (i : Instr) : Bool :=
  match i with
  | .windowIntervalStart win => win < 5
  | .dataTokenArrive bay row col input _ _ _ => siteOk bay row col && input < 5
  | .controlTokenArrive bay row col input _ _ => siteOk bay row col && input < 5
  | .creditReturn bay row col lane => siteOk bay row col && lane < 12
  | .tokenSend bay row col lane => siteOk bay row col && lane < 12
  | .stagingAccept bay row col => siteOk bay row col
  | .pred bay row col => siteOk bay row col
  | .sel bay row col => siteOk bay row col
  | .shape bay row col input => siteOk bay row col && input < 5
  | .claim bay row col input => siteOk bay row col && input < 5
  | .fence bay row col input => siteOk bay row col && input < 5
  | .switch bay row col input => siteOk bay row col && input < 5
  | .lutflip bay row col input => siteOk bay row col && input < 5
  | .fault bay row col input => siteOk bay row col && input < 5
  | .pairWatchdogExpiry bay row col ctx _ => siteOk bay row col && ctx < 4
  | .load bay d _ _ b0 _ _ => bay < 32 && d < 4 && b0 < 32
  | .arm bay d _ => bay < 32 && d < 4
  | .activate bay d b0 _ => bay < 32 && d < 4 && b0 < 32
  | .clear bay d _ => bay < 32 && d < 4
  | .loadStart bay d => bay < 32 && d < 4
  | .loadFinish bay d _ _ _ => bay < 32 && d < 4
  | .loadWaitTimeout bay d => bay < 32 && d < 4
  | .sourceSwitch bay row col d => siteOk bay row col && d < 4
  | .bayQuiescent bay d => bay < 32 && d < 4
  | .chainedAdvance bay => bay < 32
  | .accountingTick bay d => bay < 32 && d < 4
  | .mxcMac bay row col => siteOk bay row col
  | .mxcScale bay row col => siteOk bay row col
  | .mxcImport bay row col => siteOk bay row col
  | .drainRoundClear bay row col input => siteOk bay row col && input < 5
  | .drainRoundKeep bay row col input => siteOk bay row col && input < 5
  | .drainExportClear bay row col input => siteOk bay row col && input < 5
  | .drainClear bay row col input => siteOk bay row col && input < 5
  | .fncNone bay row col => siteOk bay row col
  | .convert bay row col => siteOk bay row col
  | .func bay row col => siteOk bay row col
  | .fuse bay row col => siteOk bay row col
  | .select bay row col => siteOk bay row col
  | .test bay row col => siteOk bay row col
  | .lookup bay row col => siteOk bay row col
  | .smaxMax bay row col => siteOk bay row col
  | .smaxExp bay row col => siteOk bay row col
  | .smaxDiv bay row col => siteOk bay row col
  | .rowstat bay row col => siteOk bay row col
  | .slice bay row col => siteOk bay row col
  | .recombine bay row col => siteOk bay row col
  | .lutOpen bay row col => siteOk bay row col
  | .lutWrite bay row col => siteOk bay row col
  | .lutBankDrained bay row col d bank => siteOk bay row col && d < 4 && bank < 2
  | .lutflipWaitTimeout bay row col ctx => siteOk bay row col && ctx < 4
  | .edgeModeWrite _ => true
  | .edgeModeClearEffect bay => bay < 32
  | .claimAsk bay d => bay < 32 && d < 4
  | .pacerRelease b0 d => b0 < 32 && d < 4
  | .tallyRequest b0 d _ => b0 < 32 && d < 4
  | .tallyAnswer b0 d => b0 < 32 && d < 4
  | .ftuTransferIssue bay row col d k => siteOk bay row col && d < 4 && k < 8
  | .ftuTransferReply _ => true
  | .scratchBufferReadout bay row col d => siteOk bay row col && d < 4
  | .pleachWaitTimeout bay row col => siteOk bay row col
  | .create _ _ _ _ _ _ => true
  | .place _ _ _ _ => true
  | .move _ _ _ _ _ => true
  | .free _ _ => true
  | .freeRelease _ => true
  | .query _ _ _ => true
  | .translation _ => true
  | .settleReturn tier => 1 ≤ tier && tier ≤ 3
  | .moveStart die => die < 4
  | .moveCopy _ _ _ => true
  | .moveCommit _ => true
  | .oldFrameFree _ => true
  | .tierReply _ _ _ _ _ => true
  | .tagReread _ _ _ _ => true
  | .accessLimitExpiry _ => true
  | .tierFailure tier => 1 ≤ tier && tier ≤ 3
  | .dirProbe _ => true
  | .nearRetrain set => set < 16
  | .ddr5Retrain channel => channel < 12
  | .scrubRead _ _ _ _ => true
  | .reserveSpend _ => true
  | .expanderFatal x => x < 8
  | .expanderCorrectable x => x < 8
  | .expanderMalformed x => x < 8
  | .expanderMediaError x _ => x < 8
  | .expanderEventRecord x _ => x < 8
  | .register _ _ _ => true
  | .unregister _ _ => true
  | .submit _ _ => true
  | .graphCountDone _ => true
  | .savepool _ _ => true
  | .taskIssue _ _ => true
  | .issueReadsDone _ _ => true
  | .preempt bay => bay < 32
  | .saveFreeze bay => bay < 32
  | .saveStreamEnd bay => bay < 32
  | .saveComplete bay => bay < 32
  | .restore bay => bay < 32
  | .restoreResume bay => bay < 32
  | .quantumExpiry _ _ => true
  | .taskComplete _ _ => true
  | .taskTeardown _ _ => true
  | .teardownFinish _ _ => true
  | .intake _ _ _ _ _ _ _ _ _ _ => true
  | .shardReady _ _ _ _ _ _ => true
  | .planerShardStart planer _ => planer < 4
  | .shardCheck planer => planer < 4
  | .shardTimeout _ _ => true
  | .generationStaged _ _ => true
  | .commit _ _ _ _ => true
  | .generationSwitch _ _ => true
  | .discard _ _ _ => true
  | .retire _ _ _ => true
  | .hold _ _ _ => true
  | .release _ _ _ => true
  | .slotQuery _ _ _ => true
  | .releaseSlot _ _ => true
  | .weightScrub planer _ _ _ _ => planer < 4
  | .kvpool _ _ _ _ => true
  | .serve _ _ _ _ _ _ _ _ _ _ _ => true
  | .unserve _ _ => true
  | .entryQuery _ _ _ => true
  | .cancel _ _ => true
  | .request _ _ _ _ _ _ => true
  | .thicketLookup entry => entry < 65536
  | .walkDone entry => entry < 65536
  | .publish entry => entry < 65536
  | .evictLeaf func => func < 64
  | .purge func => func < 64
  | .deadline entry => entry < 65536
  | .batchClose entry => entry < 65536
  | .batchWaitExpiry entry => entry < 65536
  | .batchTaskDone _ => true
  | .entryFinish entry => entry < 65536
  | .pruneRow _ _ => true
  | .graftDecision _ _ => true
  | .sqTail func _ _ => func < 64
  | .cqHead func _ _ => func < 64
  | .ringEnable func _ _ => func < 64
  | .ringDisable func _ _ => func < 64
  | .ringStopped ring => ring < 16384
  | .ringEntryRead ring => ring < 16384
  | .submissionEntry ring _ => ring < 16384
  | .completionWrite ring => ring < 16384
  | .cqStallExpiry ring => ring < 16384
  | .coalTimeExpiry ring => ring < 16384
  | .msixPendingSend func vector => func < 64 && vector < 256
  | .ringRangeWrite func _ _ => func < 64
  | .vectorsWrite func _ => func < 64
  | .hdmWindowWrite window _ => window < 256
  | .hdmInvalidateDone window => window < 256
  | .vfEnableChange _ _ => true
  | .flr func => func < 64
  | .hostMemRead _ _ _ _ => true
  | .hostMemWrite _ _ _ _ => true
  | .birsp _ => true
  | .hostSnoop _ => true
  | .hostReadResponse _ _ _ => true
  | .hostReadLimitExpiry _ => true
  | .hostLinkTrained _ _ => true
  | .busMasterClear func => func < 64
  | .unsupportedRequest _ _ => true
  | .configurationRequest func _ _ => func < 64
  | .causeWrite func _ _ => func < 64
  | .registerWrite _ _ _ _ _ _ => true
  | .keyLoad q _ _ _ _ _ _ => q.func < 64
  | .keyRollDone func _ => func < 64
  | .tenantEnd _ _ => true
  | .debugNonce _ _ => true
  | .debugUnlock _ _ _ _ _ _ => true
  | .spdmRequest func _ _ => func < 64
  | .measurements func _ _ => func < 64
  | .tspLock func => func < 64
  | .tspUnlock func => func < 64
  | .frameTransmit link => link < 32
  | .frameReceive link _ => link < 32
  | .ackTimeout link => link < 32
  | .laneLockLoss link lane => link < 32 && lane < 5
  | .linkRead link => link < 32
  | .linkWrite link => link < 32
  | .linkAtomic link => link < 32
  | .linkClaim link => link < 32
  | .linkTokens link => link < 32
  | .linkDoorbell link => link < 32
  | .linkResp link => link < 32
  | .messageForward link => link < 32
  | .hello link _ _ _ => link < 32
  | .creditInit link _ => link < 32
  | .rekey link => link < 32
  | .swap link lane _ => link < 32 && lane < 5
  | .sleep link => link < 32
  | .sleepAck link => link < 32
  | .linkReqExpiry _ => true
  | .rekeyIntervalExpiry link => link < 32
  | .linkIdleExpiry link => link < 32
  | .wakePattern link => link < 32
  | .linkTrainingDone link _ => link < 32
  | .keyAgreementDone link _ _ => link < 32
  | .linkReadmit link _ => link < 32
  | .linkMapOut link => link < 32
  | .linkMaintSwap link lane => link < 32 && lane < 5
  | .maintWindow _ => true
  | .fabricWindowWrite window _ => window < 128
  | .esmPreop _ _ => true
  | .esmSafeop _ _ => true
  | .ecatFrame _ _ => true
  | .sdoDownload _ _ _ _ _ => true
  | .sdoUpload _ _ _ => true
  | .sdoInfo _ => true
  | .foeWrite _ _ _ _ _ _ => true
  | .foeRead _ => true
  | .dictWrite index sub _ _ => index < 0x8000 && sub < 64
  | .longSel _ => true
  | .longData _ => true
  | .longCommit _ => true
  | .imageTarget _ _ => true
  | .imageData _ _ => true
  | .imageCommit _ _ => true
  | .imageAbort _ => true
  | .tripClear _ => true
  | .domainIdleExpiry domain => domain < 65
  | .retentionOffExpiry domain => domain < 65
  | .wakeSource source => wakeSourceOk source
  | .readyChainStep domain => domain < 65
  | .capSample _ _ _ => true
  | .floorEstimate _ => true
  | .thermalStep _ => true
  | .thermtrip sensor => sensor < 160
  | .vin12Low _ => true
  | .vin12Rise _ x => x.groups == 1 || x.groups == 3 || x.groups == 7
  | .vaon33Apply _ => true
  | .refclkLoss clock => clock < 6
  | .refclkReturn clock => clock < 6
  | .reset part => part < 256
  | .out part => part < 256
  | .in_ part => part < 256
  | .recal part => part < 256
  | .recalDone part => part < 105
  | .handover part => part < 256
  | .subst bay _ => bay < 256
  | .partitionReturn part _ _ _ => part < 105
  | .jtagInstruction _ => true
  | .ecatPortLinkChange port _ => port < 2
  | .junctionThrottleReached sensor _ => sensor < 160
  | .hostWriteGo _ _ => true
  | .expanderCapacityChange x => x < 8
  | .retrainDone unit _ => unit < 28
  | .dramTemperatureChange device _ => device < 32
  | .dimmLost channel => channel < 12
  | .useAgeing => true
  | .placementPass => true
  | .eviction => true
  | .slotAgeing => true
  | .viral => true
  | .hostLinkDown => true
  | .maintWindowClose => true
  | .esmInit => true
  | .esmOp => true
  | .esmBoot => true
  | .pdSnapshot => true
  | .pdLost => true
  | .longAbort => true
  | .imagePathTimeout => true
  | .opStepDone => true
  | .pwrAlertAssert => true
  | .pwrAlertRelease => true
  | .pwrAlertHoldExpiry => true
  | .thermAlertAssert => true
  | .thermAlertRelease => true
  | .vaon33Loss => true
  | .standbyResync => true
  | .coppiceAction => true
  | .conventionalReset => true

end Sys2Proof
end

