-- ==== Sys2Proof/Safety.lean ====
section
/-!
DEFINITION. The terms that statements about runs use: a command is answered with a next state, the memory is canonical,
a floor is kept.
-/
namespace Sys2Proof.Machine

/-- A command is carried out, and the state after it satisfies `P`. -/
def Answers (c : Instr) (s : State) (P : State → Prop) : Prop := ∃ t, exec c s = .next t ∧ P t

/-- Every byte of the device range reads the same. -/
def SameMemory (s t : State) : Prop := ∀ a, memGet t.mem a = memGet s.mem a

/-- The SVN floor of a firmware kind, 0 Rhotur, 1 escutcheon, is at least `k`. -/
def FloorAtLeast (kind k : Nat) (s : State) : Prop := k ≤ s.svnFloor kind

/-- A partition takes the commands that are presented to it: it is neither being reset nor out of service (R21, R495). -/
abbrev InService (p : Nat) (s : State) : Prop := s.obj 0x2012 (p + 1) % 128 ≠ 2 ∧ s.obj 0x2012 (p + 1) % 128 ≠ 3

end Sys2Proof.Machine
end

