-- ==== Sys2Proof/Certificates/Slice0/Obligations.lean ====
section
/-!
DEFINITION. The statements for the provers.
-/

open Sys2Proof Sys2Proof.Machine

/-- A step carries out the command at the front of the queue, on the state with the queue's rest. -/
def Obligations.StepRunsTheFrontCommand : Prop :=
  ∀ (c : Instr) (rest : List Instr) (s : State), step { s with pending := c :: rest } = exec c { s with pending := rest }

/-- A step on an empty queue (R6, R468, R488; the tick's place is a DESIGN CHOICE of the model). -/
def Obligations.TickOfDcount : Prop :=
  ∀ (s : State), s.pending = [] →
    (s.clk.vaon33 = false → step s = .next s) ∧
    (s.clk.vaon33 = true → ∃ t, step s = .next t ∧ t.clk = { s.clk with
        dcount := (s.clk.dcount + 1) % 2 ^ 64
        fc := if s.pllRuns 8 then s.clk.fc + fclkMhz s.pwr.op else s.clk.fc } ∧
      t = { s with clk := t.clk, pwr := { s.pwr with doms := t.pwr.doms } } ∧
      ∀ d, t.dom d = s.dom d ∨ ((s.dom d).st = .on ∧ t.dom d = { s.dom d with usedAt := t.clk.dcount }))

/-- Every command completes in every state, and one with a number out of range is answered PROTOCOL (R16). -/
def Obligations.CommandsComplete : Prop :=
  ∀ (c : Instr) (s : State),
    (wellFormed c = true → ∃ t, exec c s = .next t) ∧ (wellFormed c = false → exec c s = .next (s.emit (.refused stProtocol)))

/-- The state right after reset. -/
def Obligations.StateAtReset : Prop :=
  let r := State.reset
  r.clk.dcount = 0 ∧ r.log.entries = [] ∧ r.log.next = 0 ∧ r.log.seq = 0 ∧ r.log.count = 0 ∧ (∀ ix sub, ix < 0x8000 → sub < 256 →
    r.obj ix sub = if ix = 0x2012 ∧ sub = 103 then 128 else objDefault ix sub) ∧
  (∀ p < 105, r.obj 0x2011 (p + 1) = 0) ∧ r.mgmt.esm = .init ∧ (∀ b < 32, ∀ d < 4, (r.drawer b d).st = .empty) ∧
  r.jig.graphs = [] ∧ r.jig.tasks = [] ∧ r.srv.entries = [] ∧ (∀ l < 32, (r.lnk l).st = .off) ∧ (∀ f < 64, r.keyState f = 0) ∧
  r.pending = [] ∧ Memory.wf r.mem = true ∧ ∀ a, memGet r.mem a = 0

/-- exec leaves the queue as it was. -/
def Obligations.QueueKept : Prop :=
  (∀ (c : Instr) (s t : State), exec c s = .next t → t.pending = s.pending) ∧
  (∀ (s t : State), step s = .next t → t.pending = s.pending.tail)

/-- Every step keeps `Memory.wf`. -/
def Obligations.MemoryKept : Prop :=
  ∀ (s t : State), Memory.wf s.mem = true → step s = .next t → Memory.wf t.mem = true

/-- Every step keeps each floor where it is or raises it (R405). -/
def Obligations.FloorsKept : Prop :=
  ∀ (s t : State) (kind n : Nat), FloorAtLeast kind n s → step s = .next t → FloorAtLeast kind n t

/-- WINDOW_INTERVAL_START (R520). A length of 0 counts as 1 ns. -/
def Obligations.WindowsOfTime : Prop :=
  ∀ (s : State) (w : Nat), w < 5 →
    let start := tget s.clk.winStart w
    let len := max 1 (tgetD s.clk.winLen w (s.winLength w))
    (s.clk.dcount < start + len → exec (.windowIntervalStart w) s = .next s) ∧
    (start + len ≤ s.clk.dcount → Answers (.windowIntervalStart w) s (fun t =>
      (∃ k, 0 < k ∧ tget t.clk.winStart w = start + k * len) ∧ tget t.clk.winStart w ≤ s.clk.dcount ∧
      s.clk.dcount < tget t.clk.winStart w + len ∧ tgetD t.clk.winLen w 0 = s.winLength w ∧
      (∀ v, v ≠ w → tget t.clk.winStart v = tget s.clk.winStart v ∧ ∀ x, tgetD t.clk.winLen v x = tgetD s.clk.winLen v x) ∧
      t.code = { s.code with sym := if w = 0 then [] else s.code.sym } ∧
      t.trust = { s.trust with tagFails := if w = 1 then [] else s.trust.tagFails } ∧
      t.link = { s.link with laneWin := if w = 2 then [] else s.link.laneWin } ∧
      t.ren = { s.ren with fabCorr := if w = 3 then [] else s.ren.fabCorr, fabUnc := if w = 4 then [] else s.ren.fabUnc } ∧
      t = { s with code := t.code, trust := t.trust, link := t.link, ren := t.ren, clk := { s.clk with
        winStart := t.clk.winStart, winLen := t.clk.winLen } }))

/-- DATA_TOKEN_ARRIVE, CONTROL_TOKEN_ARRIVE and CREDIT_RETURN (R35 to R48, R62, R63, R75). What the steering unit does
when a context is faulted is `State.faultCtx`. -/
def Obligations.TokensArrive : Prop :=
  ∀ (s : State) (b row col i site : Nat) (x : Site), siteOk b row col = true → i < 5 → siteNo row col = site →
    s.site b site = x →
    (∀ (tok : Option DTok) (t : DTok) (c : Chan DTok) (se be : Nat), takeWire (x.dchan i) tok = some (t, c) →
      let one := if se = 1 then s.fabricCorrected b else s
      let u := if be = 1 then one.fabricCorrected b else one
      let drop := u.putSite b site (x.putD i { c with due := c.due + 1 })
      (se ≤ 1 → be ≤ 1 →
        (tfind x.faulted t.ctx = none → (s.drawer b t.ctx).st ≠ .empty → tget x.expIn (i * 4 + t.ctx) = t.seq →
          exec (.dataTokenArrive b row col i tok se be) s = .next (u.putSite b site
            (({ x with expIn := tset x.expIn (i * 4 + t.ctx) ((t.seq + 1) % 4096) } : Site).putD i
              { c with queue := c.queue ++ [t] }))) ∧
        (tfind x.faulted t.ctx = none → (s.drawer b t.ctx).st ≠ .empty → tget x.expIn (i * 4 + t.ctx) ≠ t.seq →
          exec (.dataTokenArrive b row col i tok se be) s =
            .next ((drop.bump 0x3102 (b + 1) 1).faultCtx b site t.ctx stProtocol)) ∧
        (tfind x.faulted t.ctx = none → (s.drawer b t.ctx).st = .empty →
          exec (.dataTokenArrive b row col i tok se be) s =
            .next ((drop.bump 0x3108 (b + 1) 1).faultCtx b site t.ctx stProtocol)) ∧
        ((tfind x.faulted t.ctx).isSome = true → exec (.dataTokenArrive b row col i tok se be) s = .next drop)) ∧
      (be ≤ 1 → se = 2 ∨ se = 3 → exec (.dataTokenArrive b row col i tok se be) s =
        .next ((drop.fabricUncorrectable b site).faultCtx b site t.ctx stPoison)) ∧
      (be = 2 → exec (.dataTokenArrive b row col i tok se be) s =
        .next ((drop.fabricUncorrectable b site).faultCtx b site (s.bay b).active stPoison)) ∧
      (∀ t1, 3 < se ∨ 2 < be → decodeData t (s.bay b).active se be s.free = .ok t1 →
        exec (.dataTokenArrive b row col i tok se be) s = .next (u.tick.enterD b site i c t1))) ∧
    (∀ (tok : Option CTok) (t : CTok) (c : Chan CTok) (be : Nat), takeWire (x.cchan i) tok = some (t, c) →
      let u := if be = 1 then s.fabricCorrected b else s
      let drop := u.putSite b site (x.putC i { c with due := c.due + 1 })
      (be ≤ 1 →
        (tfind x.faulted (cCtx t) = none → (s.drawer b (cCtx t)).st ≠ .empty → opcReserved (cOpc t) = false →
          s.badDrain b site i t = false →
          exec (.controlTokenArrive b row col i tok be) s = .next (u.putSite b site (x.putC i { c with queue := c.queue ++ [t] }))) ∧
        (tfind x.faulted (cCtx t) = none →
          opcReserved (cOpc t) = true ∨ ((s.drawer b (cCtx t)).st = .empty ∧ (s.edging b = false ∨ cOpc t ≠ opcDrain)) →
          exec (.controlTokenArrive b row col i tok be) s =
            .next ((drop.bump 0x3108 (b + 1) 1).faultCtx b site (cCtx t) stProtocol)) ∧
        ((tfind x.faulted (cCtx t)).isSome = true → exec (.controlTokenArrive b row col i tok be) s = .next drop)) ∧
      (be = 2 → exec (.controlTokenArrive b row col i tok be) s =
        .next ((drop.fabricUncorrectable b site).faultCtx b site (s.bay b).active stPoison)) ∧
      (2 < be → exec (.controlTokenArrive b row col i tok be) s =
        .next (s.tick.enterC b site i c (BitVec.ofNat 32 (Config.freeNat s.free))))) ∧
    (0 < (x.dchan i).due → exec (.creditReturn b row col i) s = .next (s.putSite b site (x.putD i
      { x.dchan i with due := (x.dchan i).due - 1, cred := (x.dchan i).cred + 1 })).netSettle) ∧
    (0 < (x.cchan i).due → exec (.creditReturn b row col (i + 5)) s = .next (s.putSite b site (x.putC i
      { x.cchan i with due := (x.cchan i).due - 1, cred := (x.cchan i).cred + 1 })).netSettle) ∧
    (0 < x.unitD.due → exec (.creditReturn b row col 10) s = .next (s.putSite b site (x.putUnitD
      { x.unitD with due := x.unitD.due - 1, cred := x.unitD.cred + 1 })).netSettle) ∧
    (0 < x.unitC.due → exec (.creditReturn b row col 11) s = .next (s.putSite b site (x.putUnitC
      { x.unitC with due := x.unitC.due - 1, cred := x.unitC.cred + 1 })).netSettle)

/-- TOKEN_SEND and STAGING_ACCEPT (R46 to R59). `goAll` sends the copies of a fork together or not at all (R49);
`State.outranked` is the arbitration of R51; `State.acceptC` and `State.acceptD` are the halves that R55 lets in;
`State.place` chooses a slot (R57); `State.choose` is the pair that R59 fires. -/
def Obligations.TokensLeave : Prop :=
  ∀ (s : State) (b row col : Nat), siteOk b row col = true →
    ∀ (site : Nat) (x : Site), siteNo row col = site → s.site b site = x →
    (∀ (i : Nat) (t : DTok) (r : Route) (s1 : State), i < 5 → s.headRouteD b site i = some (t, r) → r.dests ≠ [] →
      s.outranked b site true i r.prio r.lanes = false → goAll (fun st k => st.goD b site i t k) r.dests s = some s1 →
      exec (.tokenSend b row col i) s =
        let s2 := s1.putSite b site ((s1.site b site).putD i (((s1.site b site).dchan i).pop))
        .next ((s2.putSite b site ((s2.site b site).granted true i r.lanes)).unitDrain b site unitFuel)) ∧
    (∀ (i : Nat) (t : CTok) (r : Route) (s1 : State), i < 5 → s.headRouteC b site i = some (t, r) → r.dests ≠ [] →
      cWave t = false → s.outranked b site false i r.prio r.lanes = false →
      goAll (fun st k => st.goC b site i t k) r.dests s = some s1 →
      exec (.tokenSend b row col (i + 5)) s =
        let s2 := s1.putSite b site ((s1.site b site).putC i (((s1.site b site).cchan i).pop))
        .next ((s2.putSite b site ((s2.site b site).granted false i r.lanes)).unitDrain b site unitFuel)) ∧
    (∀ (k : Nat) (t : DTok) (r : List (Nat × DTok)), x.pipe = (k, t) :: r → s.laneCreditD b site k = true →
      (k = 4 ∨ s.outranked b site true 5 0 [k] = false) →
      let s0 := if kindOf site = .scc then { s with bufs := tmod s.bufs (unitKey b site t.ctx) leftBuf } else s
      exec (.tokenSend b row col 10) s = .next ((
        if k = 4 then s0.putSite b site (({ x with pipe := r } : Site).putD 4 ((x.dchan 4).send false t))
        else (s0.putSite b site (({ x with pipe := r } : Site).granted true 5 [k])).sendOwnD b site k t).unitDrain
          b site unitFuel)) ∧
    (∀ (k : Nat) (t : CTok) (r : List (Nat × CTok)), x.owed = (k, t) :: r → k < 16 → s.laneCreditC b site k t = true →
      (4 ≤ k ∨ s.outranked b site false 5 0 [k] = false) →
      exec (.tokenSend b row col 11) s = .next ((
        if k = 4 then s.putSite b site (({ x with owed := r } : Site).putC 4 ((x.cchan 4).send false t))
        else (s.putSite b site (({ x with owed := r } : Site).granted false 5 [k])).sendC b site k t).unitDrain
          b site unitFuel)) ∧
    (x.direct = none → ∀ u, u = s.putSite b site x →
      (∀ (lane ctx seq : Nat) (y : Site), lane < 5 → u.acceptC b site x = none → u.acceptD b site x none = [lane] →
        u.halfAt b site lane = some (ctx, seq) →
        u.place b site x ctx seq (fun sl => u.addHalf b site sl lane) = some y →
        exec (.stagingAccept b row col) s = .next ((u.putSite b site (y.popLane lane)).putSite b site
          { y.popLane lane with
            order := (y.popLane lane).order + 1
            rr := tset (y.popLane lane).rr 11 ((lane + 1) % 5) })) ∧
      (∀ (lane ctx seq : Nat) (y : Site), 5 ≤ lane → lane < 10 → u.acceptC b site x = some lane →
        u.partners b site x lane = [] → u.acceptD b site x (some lane) = [] → u.halfAt b site lane = some (ctx, seq) →
        u.place b site x ctx seq (fun sl => u.addHalf b site sl lane) = some y →
        exec (.stagingAccept b row col) s = .next ((u.putSite b site (y.popLane lane)).putSite b site
          { y.popLane lane with
            order := (y.popLane lane).order + 1
            rr := tset (y.popLane lane).rr 10 ((lane - 5 + 1) % 5) })) ∧
      (∀ (c d ctx seq : Nat), u.acceptC b site x = some c → u.partners b site x c = [d] →
        u.acceptD b site x (some c) = [d] → u.halfAt b site c = some (ctx, seq) →
        let sl := u.seal b site x (u.pairOf b site (ctx, seq) [c, d])
        let y := { (x.popLane c).popLane d with direct := some sl }
        (u.putSite b site y).choose b site = some sl →
        exec (.stagingAccept b row col) s = .next ((u.putSite b site y).putSite b site { y with
          order := y.order + 1
          rr := tset (tset y.rr 10 ((c - 5 + 1) % 5)) 11 ((d + 1) % 5) })))

/-- PRED, SEL, SWITCH, FAULT and PAIR_WATCHDOG_EXPIRY (R56 to R66, R89). -/
def Obligations.GovernedTokens : Prop :=
  ∀ (s : State) (b row col site : Nat) (x : Site), siteOk b row col = true → siteNo row col = site → s.site b site = x →
    (∀ (sl : Slot) (t : CTok), s.choose b site = some sl → sl.ctl = some t → cOpc t = opcPred →
      (siteKind row col = .mxc →
        exec (.pred b row col) s = .next (mxcPair s b site sl (!bitOf (cArg t) 0) 0)) ∧
      (siteKind row col = .fnc → (s.drawer b sl.ctx).cfg site 1024 ≠ 5 →
        exec (.pred b row col) s = .next (fncCompute s b site sl (!bitOf (cArg t) 0))) ∧
      (siteKind row col ≠ .mxc → siteKind row col ≠ .fnc →
        exec (.pred b row col) s = .next (s.putSite b site { x with
          slots := x.slots.filter (fun y => !(y.ctx == sl.ctx && y.seq == sl.seq))
          direct := if x.direct = some sl then none else x.direct
          expPair := tset x.expPair sl.ctx ((sl.seq + 1) % 4096) }))) ∧
    (∀ (sl : Slot) (t : CTok) (l1 l2 : Nat) (d1 d2 : DTok) (r1 r2 : Route), s.choose b site = some sl →
      sl.ctl = some t → cOpc t = opcSel → sl.data = [(l1, d1), (l2, d2)] →
      (s.drawer b sl.ctx).route site l1 = some r1 → (s.drawer b sl.ctx).route site l2 = some r2 →
      r1.role = 0 → r2.role = 1 →
      exec (.sel b row col) s = .next (s.putSite b site ((x.fired sl).emitD 4 sl.ctx
        (if bitOf (cArg t) 0 then d1 else d2).pay (if bitOf (cArg t) 0 then d1 else d2).last
        (if bitOf (cArg t) 0 then d1 else d2).pv))) ∧
    (∀ (i : Nat) (t : CTok), i < 5 → s.headC b site i = some t → cOpc t = opcSwitch → s.seqDue b site i t = true →
      (∀ a, tfind x.swArg (cCtx t) = some a → a = cArg t % 4) →
      let taken := dedup' (x.swIn ++ [i * 4 + cCtx t])
      let y := { x.putC i (x.cchan i).pop with swIn := taken, swArg := tset x.swArg (cCtx t) (cArg t % 4) }
      ((((s.drawer b (cCtx t)).inLanes site).all (fun l => taken.contains (l * 4 + cCtx t)) = false →
        exec (.switch b row col i) s = .next (s.putSite b site y)) ∧
      (((s.drawer b (cCtx t)).inLanes site).all (fun l => taken.contains (l * 4 + cCtx t)) = true →
        s.unitDry b site (cCtx t) = true →
        exec (.switch b row col i) s = .next (s.putSite b site { y with
          swOut := y.swOut ++ [cCtx t]
          owed := y.owed ++ (if (s.drawer b (cCtx t)).isSink site then [] else (s.drawer b (cCtx t)).waveOuts site).map
            (fun k => (k, mkC opcSwitch (cCtx t) (y.waveSeq k (cCtx t)) (cArg t % 4))) })))) ∧
    (∀ (i : Nat) (t : CTok) (r : List CTok), i < 5 → (x.cchan i).queue = t :: r → cOpc t = opcFault →
      s.serves b (cCtx t) = true →
      exec (.fault b row col i) s = .next (s.faultCtx b site (cCtx t) (bits (cArg t) 7 0))) ∧
    (∀ (ctx seq : Nat) (sl : Slot), ctx < 4 → sl ∈ x.slots → sl.ctx = ctx → sl.seq = seq → s.slotFull b site sl = false →
      s.watches b ctx = true → s.obj 0x2C01 1 < s.fclkNow - sl.since →
      exec (.pairWatchdogExpiry b row col ctx seq) s =
        .next ((s.bump 0x3103 (b + 1) 1).faultCtx b site ctx stTimeout))

/-- SHAPE, CLAIM, FENCE and PLEACH_WAIT_TIMEOUT (R43, R44, R184, R188, R204). `State.dueToken` is the stand-alone token
at the head of a control queue whose SEQ is due; `State.popC` takes it off the queue and sends its copies on. -/
def Obligations.StandaloneTokens : Prop :=
  ∀ (s : State) (b row col site i : Nat) (t : CTok), siteOk b row col = true → siteNo row col = site → i < 5 →
    (s.dueToken b site i opcShape = some t →
      exec (.shape b row col i) s = .next ((s.putSrc b site (cCtx t) { s.srcOf b site (cCtx t) with
        frags := (s.srcOf b site (cCtx t)).frags ++ [cArg t] }).popC b site i)) ∧
    (s.dueToken b site i opcClaim = some t → bitOf (cArg t) 11 = true →
      exec (.claim b row col i) s = .next ((s.popC b site i).putSrc b site (cCtx t)
        { s.srcOf b site (cCtx t) with exhausted := true })) ∧
    (∀ (n : Nat) (c : Claim), s.dueToken b site i opcClaim = some t → bitOf (cArg t) 11 = false →
      ((List.range (s.claimsOf b (cCtx t)).length).zip (s.claimsOf b (cCtx t))).find? (fun e => e.2.ix == cArg t % 4
        && !e.2.freed && !(s.srcOf b site (cCtx t)).claims.contains e.1) = some (n, c) →
      exec (.claim b row col i) s = .next ((s.popC b site i).putSrc b site (cCtx t) { s.srcOf b site (cCtx t) with
        claims := (s.srcOf b site (cCtx t)).claims ++ [n] })) ∧
    (s.dueToken b site i opcFence = some t →
      ((∀ e ∈ s.xfers, ¬(e.read = false ∧ e.unit / 480 = b ∧ e.unit % 4 = cCtx t)) →
        exec (.fence b row col i) s = .next ((s.putSite b site { s.site b site with
          fence := tdel (s.site b site).fence (cCtx t) }).popC b site i)) ∧
      ((∃ e ∈ s.xfers, e.read = false ∧ e.unit / 480 = b ∧ e.unit % 4 = cCtx t) →
        exec (.fence b row col i) s = .next (s.putSite b site { s.site b site with
          fence := tset (s.site b site).fence (cCtx t) (tgetD (s.site b site).fence (cCtx t) s.fclkNow) }))) ∧
    (∀ (sl : Slot) (arg : Nat), s.goPair b site = some (sl, arg) → siteKind row col = .mxc → bits arg 11 10 = 0 →
      sl.live = true →
      blockReady ((s.drawer b sl.ctx).member site) (s.mx b site sl.ctx) (bits arg 9 5) = false → s.obj 0x2C01 1 < s.fclkNow - sl.since →
      exec (.pleachWaitTimeout b row col) s = .next (s.faultCtx b site sl.ctx stTimeout))

/-- MXC_MAC, MXC_SCALE and MXC_IMPORT (R116 to R131, R142, R204), and the exact sum that `Mxc.mac` keeps in a narrow
lane. -/
def Obligations.MatrixPairs : Prop :=
  (∀ (s : State) (b row col site : Nat) (sl : Slot) (arg : Nat) (d : Drawer) (m : Mxc), siteOk b row col = true →
    siteNo row col = site → siteKind row col = .mxc → s.goPair b site = some (sl, arg) → s.drawer b sl.ctx = d →
    s.mx b site sl.ctx = m →
    let fired := s.putSite b site ((s.site b site).fired sl)
    let toks := if fmtWidth (d.cfg site 1024) = 6 then [sl.on (d.sIn1 site), sl.on (d.sIn2 site)] else [sl.on (d.sIn1 site)]
    let last := toks.any (fun t => t.last)
    let t1 := sl.on (d.sIn1 site)
    let after := fun (m : Mxc) => { m with
      since := m.since + 1, tile := if last then m.tile + 1 else m.tile, lastIn := m.lastIn || last }
    let step := fun (m : Mxc) => { m with
      tile := if t1.last then m.tile + 1 else m.tile, lastIn := m.lastIn || t1.last }
    (bitOf arg 11 = false → bitOf arg 10 = false →
      (sl.live = false → exec (.mxcMac b row col) s = .next (fired.putMx b site sl.ctx (after m))) ∧
      (∀ e : Member, sl.live = true → d.member site = some e →
        let count := min e.blocks (mxcClass (d.cfg site 1025)).blocks
        (count ≤ bits arg 9 5 → exec (.mxcMac b row col) s = .next (s.faultCtx b site sl.ctx stProtocol)) ∧
        (bits arg 9 5 < count → bits arg 4 0 < d.cfg site 1028 → (isMx (d.cfg site 1024) = true → m.scale.isSome) →
          tfind m.imp (bits arg 4 0) = none →
          (blockReady (some e) m (bits arg 9 5) = false → exec (.mxcMac b row col) s = .next (s.bump 0x3123 (b + 1) 1)) ∧
          (blockReady (some e) m (bits arg 9 5) = true → exec (.mxcMac b row col) s = .next (fired.putMx b site sl.ctx
            (after (m.mac (d.cfg site 1025) (d.cfg site 1024) (e.half m.tile + bits arg 9 5) (bits arg 4 0)
              (streamed m (d.cfg site 1024) (toks.map (fun t => t.pay.toNat)))))))))) ∧
    (bitOf arg 11 = false → bitOf arg 10 = true →
      (t1.pv = true → bits arg 4 0 < d.cfg site 1028 → tfind m.imp (bits arg 4 0) = none →
        exec (.mxcScale b row col) s = .next (fired.putMx b site sl.ctx { step m with scale := some t1.pay, since := 0 })) ∧
      (t1.pv = true → d.cfg site 1028 ≤ bits arg 4 0 ∨ (tfind m.imp (bits arg 4 0)).isSome = true →
        exec (.mxcScale b row col) s = .next (s.faultCtx b site sl.ctx stProtocol)) ∧
      (t1.pv = false → exec (.mxcScale b row col) s = .next (fired.putMx b site sl.ctx (step m)))) ∧
    (bitOf arg 11 = true → bitOf arg 10 = false → (mxcClass (d.cfg site 1025)).narrow = true →
      bits arg 4 0 < d.cfg site 1028 → t1.pv = true →
      exec (.mxcImport b row col) s = .next (fired.putMx b site sl.ctx
        { (step m).importSeg (bits arg 4 0) (tget m.imp (bits arg 4 0)) t1.pay.toNat with
          imp := if tget m.imp (bits arg 4 0) = 81
            then tdel ((step m).importSeg (bits arg 4 0) 81 t1.pay.toNat).imp (bits arg 4 0)
            else tset ((step m).importSeg (bits arg 4 0) (tget m.imp (bits arg 4 0)) t1.pay.toNat).imp (bits arg 4 0)
              (tget m.imp (bits arg 4 0) + 1) })) ∧
    (bitOf arg 11 = true → bitOf arg 10 = true →
      exec (.mxcImport b row col) s = .next (s.faultCtx b site sl.ctx stProtocol))) ∧
  (∀ (m : Mxc) (wFmt sFmt block slot n : Nat) (xs : List (Nat × Option Int)), (mxcClass wFmt).narrow = true → n < 32 →
    let c := mxcClass wFmt
    let w := fmtWidth wFmt
    let ps := ((List.range xs.length).zip xs).map (fun e => narrowProduct (decodeElem sFmt e.2.1)
      (decodeElem wFmt ((blockBits m block c.elemToks >>> (w * (32 * e.1 + n))) % 2 ^ w)) e.2.2
      (if isMx wFmt then e8m0 (blockScale m c block (e.1 / 32) n) else some 0))
    tget (m.mac wFmt sFmt block slot xs).acc (slot * 32 + n) = tget m.acc (slot * 32 + n) + (ps.map (fun p => p.2)).sum ∧
    tget (m.mac wFmt sFmt block slot xs).flags (slot * 32 + n) =
      ps.foldl (fun f p => f ||| p.1) (tget m.flags (slot * 32 + n)))

/-- DRAIN_ROUND_CLEAR, DRAIN_ROUND_KEEP, DRAIN_EXPORT_CLEAR and DRAIN_CLEAR (R120 to R122, R130 to R136, R174). -/
def Obligations.MatrixDrains : Prop :=
  (∀ (s : State) (b row col site i : Nat) (t : CTok) (d : Drawer) (m : Mxc), siteOk b row col = true →
    siteNo row col = site → siteKind row col = .mxc → i < 5 → s.headC b site i = some t → cOpc t = opcDrain →
    s.seqDue b site i t = true → s.drawer b (cCtx t) = d → s.mx b site (cCtx t) = m →
    let narrow := (mxcClass (d.cfg site 1025)).narrow
    let s1 := s.popC b site i
    let r := m.drainToks narrow (d.cfg site 1028) (d.cfg site 1026) (d.cfg site 1027 % 4 == 1) (bitOf (d.cfg site 1027) 2)
    let out := fun (ps : List Payload) => s1.putSite b site ((s1.site b site).emitMany 4 (cCtx t) ps m.lastIn true)
    let rounded := ((out r.1).countConv b (d.cfg site 1026) r.2.1).bump 0x3112 (b + 1) r.2.2
    let edged := s1.edgeDrain b m narrow (if d.cfg site 1028 = 0 then 32 else d.cfg site 1028)
    (bits (cArg t) 3 0 = 0 →
      exec (.drainRoundClear b row col i) s =
        .next ((if s.edging b then edged else rounded).putMx b site (cCtx t) m.zeroed)) ∧
    (bits (cArg t) 3 0 = 1 →
      exec (.drainRoundKeep b row col i) s =
        .next (if s.edging b then edged else rounded.putMx b site (cCtx t) { m with lastIn := false })) ∧
    (bits (cArg t) 3 0 = 2 → d.cfg site 1026 = 0x1F → narrow = true →
      exec (.drainExportClear b row col i) s =
        .next ((if s.edging b then s1.edgeDrain b m narrow (d.cfg site 1028)
          else out ((List.range (d.cfg site 1028)).flatMap (fun k => m.exportSlot k))).putMx b site (cCtx t) m.zeroed)) ∧
    (bits (cArg t) 3 0 = 2 → ¬(d.cfg site 1026 = 0x1F ∧ narrow = true) →
      exec (.drainExportClear b row col i) s = .next (s.faultCtx b site (cCtx t) stProtocol)) ∧
    (bits (cArg t) 3 0 = 3 → exec (.drainClear b row col i) s = .next (s1.putMx b site (cCtx t) m.zeroed))) ∧
  (∀ (m : Mxc) (key : Nat), tget m.zeroed.acc key = 0 ∧ tget m.zeroed.flags key = 0 ∧ tget m.zeroed.fp key = 0 ∧
    (tget m.flags key = 0 → m.lane true key = Num.ofInt (tget m.acc key) (2 ^ 288)))

/-- FNC_NONE, CONVERT, FUNC, FUSE, SELECT, TEST, LOOKUP, SMAX_MAX, SMAX_EXP, SMAX_DIV, ROWSTAT, SLICE and RECOMBINE (R147
to R170): that the pair fires, and what it leaves alone. The results are stated in `FunctionResults`. -/
def Obligations.FunctionPairs : Prop :=
  ∀ (s : State) (b row col site : Nat) (sl : Slot) (t : CTok), siteOk b row col = true → siteNo row col = site →
    siteKind row col = .fnc → s.choose b site = some sl → sl.ctl = some t → cOpc t = opcGo → bits (cArg t) 11 10 = 0 →
    bits (cArg t) 9 0 = 0 →
    (let op := (s.drawer b sl.ctx).cfg site 1024
     let banks := (s.fx b site sl.ctx).liveLut.isSome ∨ sl.live = false
     ∀ (u : State), u = fncCompute s b site sl false →
      (op = 1 → exec (.convert b row col) s = .next u) ∧
      (op = 2 → exec (.func b row col) s = .next u) ∧
      (op = 3 → exec (.fuse b row col) s = .next u) ∧
      (op = 4 → exec (.select b row col) s = .next u) ∧
      (op = 6 → banks → exec (.lookup b row col) s = .next u) ∧
      (op = 7 → exec (.smaxMax b row col) s = .next u) ∧
      (op = 8 → exec (.smaxExp b row col) s = .next u) ∧
      (op = 9 → exec (.smaxDiv b row col) s = .next u) ∧
      (op = 10 → exec (.rowstat b row col) s = .next u) ∧
      (op = 11 → exec (.slice b row col) s = .next u) ∧
      (op = 12 → exec (.recombine b row col) s = .next u) ∧
      (op ∈ [1, 2, 3, 4, 6, 7, 8, 9, 10, 11, 12] → (op = 6 → banks) →
        (u.site b site).slots = (s.site b site).slots.filter (fun y => !(y.ctx == sl.ctx && y.seq == sl.seq)) ∧
        tget (u.site b site).expPair sl.ctx = (sl.seq + 1) % 4096 ∧ u.mem = s.mem ∧ u.drawers = s.drawers ∧
        u.mxc = s.mxc ∧ u.tier = s.tier ∧ u.host = s.host ∧ u.jig = s.jig ∧ u.clk = s.clk)) ∧
    ((s.drawer b sl.ctx).cfg site 1024 = 5 →
      Answers (.test b row col) s (fun u => tget (u.site b site).expPair sl.ctx = (sl.seq + 1) % 4096 ∧
        (∃ p, (u.site b site).owed = (s.site b site).owed ++
          [(4, mkC opcPred sl.ctx (tget (s.site b site).outSeq (36 + sl.ctx)) p)] ∧ p < 2 ∧ (sl.live = false → p = 0)) ∧
        u = s.putSite b site (u.site b site))) ∧
    ((s.drawer b sl.ctx).cfg site 1024 = 6 → (s.fx b site sl.ctx).liveLut = none → sl.live = true →
      exec (.lookup b row col) s = .next (s.faultCtx b site sl.ctx stProtocol)) ∧
    ((s.drawer b sl.ctx).cfg site 1024 = 0 →
      exec (.fncNone b row col) s = .next (s.faultCtx b site sl.ctx stProtocol))

/-- The results of element-wise and row operations (R145 to R162): `elemPair` packs one code for each element of the
row's next token, `rowPair` emits what the row has gathered at its end. -/
def Obligations.FunctionResults : Prop :=
  ∀ (s : State) (b row col site : Nat) (sl : Slot) (t : CTok) (c : FncCfg) (f : Fnc), siteOk b row col = true →
    siteNo row col = site → siteKind row col = .fnc → s.choose b site = some sl → sl.ctl = some t → cOpc t = opcGo →
    bits (cArg t) 11 10 = 0 → bits (cArg t) 9 0 = 0 → (s.drawer b sl.ctx).fncCfg site = c → s.fx b site sl.ctx = f →
    sl.live = true →
    let e := fmtElems c.inFmt
    let len := s.rowLength b site sl.ctx c
    let x := lanesOf c.inFmt (sl.on c.in1).pay.toNat
    let y := lanesOf c.inFmt (sl.on c.in2).pay.toNat
    let g := f.advance (rowStep f len e (sl.on c.in1).last) e true (sl.on c.in2).pay
    let sent := fun (p : Payload) (last pv : Bool) =>
      (4, mkD (if pv then p else 0) sl.ctx last pv (tget (s.site b site).outSeq (16 + sl.ctx)))
    (0 < e → fmtElems c.outFmt = e → f.pack = [] → f.packLive = false → (sl.on c.in1).last = false → f.pos + e < len →
      let pay := fun (h : Nat → ElemOut) =>
        (BitVec.ofNat 256 (packLanes (fmtWidth c.outFmt) ((List.range e).map (fun i => (h i).1.code))) : Payload)
      let emits := fun (i : Instr) (h : Nat → ElemOut) => Answers i s (fun u =>
        (u.site b site).pipe = (s.site b site).pipe ++ [sent (pay h) false true] ∧ (u.fx b site sl.ctx).pos = f.pos + e)
      (c.op = 1 → emits (.convert b row col) (fun i => (convertElem c.outFmt c.rtz c.sat (decodeElem c.inFmt (x.getD i 0)), false))) ∧
      (c.op = 2 → emits (.func b row col) (fun i =>
        special c.fn (decodeElem c.inFmt (x.getD i 0)) (.fin false 1 1) c.outFmt c.rtz c.sat (s.free + i))) ∧
      (c.op = 3 → emits (.fuse b row col) (fun i => fuseElem (s.drawer b sl.ctx) site c g.sc0 g.sc1 (f.pos + i) (s.free + i)
        (decodeElem c.inFmt (x.getD i 0)) (decodeElem c.inFmt (y.getD i 0)))) ∧
      (c.op = 9 → emits (.smaxDiv b row col) (fun i => smaxDiv c (ofFp32 g.sc0) (decodeElem c.inFmt (x.getD i 0))))) ∧
    (let r := rowStep f len e (sl.on c.in1).last
     let h := (x.take r.count).foldl (fun k v => k.take (decodeElem c.inFmt v)) (f.advance r e true 0)
     (c.op = 7 → Answers (.smaxMax b row col) s (fun u => (u.site b site).pipe = (s.site b site).pipe ++
       (if r.ends then [sent (BitVec.ofNat 256 h.maxCode) (sl.on c.in1).last h.anyLive] else []))) ∧
     (c.op = 10 → Answers (.rowstat b row col) s (fun u => (u.site b site).pipe = (s.site b site).pipe ++
       (if r.ends then [sent (BitVec.ofNat 256 (packLanes (fmtWidth c.outFmt) ((h.statConvs c s.free).map (fun v => v.code))))
         (sl.on c.in1).last h.anyLive] else []))))

/-- LUT_OPEN, LUT_WRITE, LUTFLIP, LUTFLIP_WAIT_TIMEOUT and LUT_BANK_DRAINED (R164 to R166). -/
def Obligations.LookupBanks : Prop :=
  ∀ (s : State) (b row col site : Nat), siteOk b row col = true → siteNo row col = site → siteKind row col = .fnc →
    (∀ (sl : Slot) (arg : Nat) (c : FncCfg) (f : Fnc) (w : Nat), s.goPair b site = some (sl, arg) →
      (s.drawer b sl.ctx).fncCfg site = c → s.fx b site sl.ctx = f → sl.live = true → (sl.on c.in1).pay.toNat = w →
      c.op ≠ 0 →
      (bits arg 11 10 = 3 → w < 2 ^ 25 → bits w 23 17 = 0 → 0 < bits w 16 8 → bits w 16 8 ≤ 256 →
        (c.lutKind = 1 ∨ c.lutKind = 2) → (f.lut (bits w 24 24)).st = .empty ∨ (f.lut (bits w 24 24)).st = .ready →
        (f.lut (1 - bits w 24 24)).st ≠ .filling →
        exec (.lutOpen b row col) s = .next (s.fncFired b site sl (f.putLut (bits w 24 24)
          { st := .filling, gen := bits w 7 0, count := bits w 16 8, toks := [] }))) ∧
      (∀ (k need : Nat), bits arg 11 10 = 2 → k = (if f.lut0.st = .filling then 0 else 1) → (f.lut k).st = .filling →
        need = cdiv ((f.lut k).count * (if c.lutKind = 1 then 4 else if c.lutKind = 2 then 16 else 0)) 32 → bits arg 6 0 < need →
        exec (.lutWrite b row col) s = .next (s.fncFired b site sl (f.putLut k { f.lut k with
          toks := tset (f.lut k).toks (bits arg 6 0) (sl.on c.in1).pay
          st := if (tset (f.lut k).toks (bits arg 6 0) (sl.on c.in1).pay).length = need then .ready else .filling })))) ∧
    (∀ (i : Nat) (t : CTok) (f : Fnc) (k : Nat), i < 5 → s.headC b site i = some t → cOpc t = opcFlip →
      s.seqDue b site i t = true → s.fx b site (cCtx t) = f → k = bits (cArg t) 3 0 → k ≤ 1 →
      ((f.lut k).st = .ready → (f.lut k).gen = bits (cArg t) 11 4 →
        exec (.lutflip b row col i) s = .next (((s.putFx b site (cCtx t) ((f.putLut (1 - k) { f.lut (1 - k) with
            st := if (f.lut (1 - k)).st = .live then .draining else (f.lut (1 - k)).st }).putLut k
              { f.lut k with st := .live })).putSite b site
            { s.site b site with flipAt := tdel (s.site b site).flipAt (cCtx t) }).popC b site i)) ∧
      ((f.lut k).st = .empty ∨ (f.lut k).gen ≠ bits (cArg t) 11 4 →
        exec (.lutflip b row col i) s = .next (s.faultCtx b site (cCtx t) stProtocol))) ∧
    (∀ (ctx since : Nat), ctx < 4 → tfind (s.site b site).flipAt ctx = some since → (s.bay b).frozen = none →
      s.obj 0x2C01 1 < s.fclkNow - since →
      exec (.lutflipWaitTimeout b row col ctx) s = .next (s.faultCtx b site ctx stTimeout)) ∧
    (∀ (d bank : Nat), d < 4 → bank < 2 → ((s.fx b site d).lut bank).st = .draining →
      exec (.lutBankDrained b row col d bank) s = .next (s.putFx b site d ((s.fx b site d).putLut bank
        { (s.fx b site d).lut bank with st := .ready })))

/-- LOAD, ARM, ACTIVATE and CLEAR (R76 to R79, R87). `State.refuseOp` puts PROTOCOL to the task; `State.activateBay` is
none while the section's instance can take no tally (R186). -/
def Obligations.DrawerOperations : Prop :=
  ∀ (s : State) (b d task : Nat) (x : Drawer), b < 32 → d < 4 → s.drawer b d = x →
    (∀ (image digestAt b0 sect : Nat), b0 < 32 → s.domOn b = true →
      (∀ k, s.reusable b image b0 task sect = some k → exec (.load b d image digestAt b0 task sect) s =
        .next (s.putDrawer b k { s.drawer b k with task := task, sect := sect })) ∧
      (s.reusable b image b0 task sect = none → s.edging b = false → x.load = none →
        x.st = .empty ∨ x.st = .idle ∨ x.st = .faulted →
        ((s.newBays b0 task sect).length ≤ 1 ∧ x.bays ≤ 1) ∨
          (∀ j ∈ s.newBays b0 task sect ++ (if x.st.holds then x.bayList else []), s.takable j d = true) →
        let req : LoadReq := {
          image := image, digestAt := digestAt, b0 := b0, task := task, sect := sect, since := s.fclkNow, started := false }
        (s.taskFunc task = (s.bay b).func →
          exec (.load b d image digestAt b0 task sect) s = .next (s.putDrawer b d { x with load := some req })) ∧
        (s.taskFunc task ≠ (s.bay b).func → (∀ k < 4, s.clearable b k = true) →
          exec (.load b d image digestAt b0 task sect) s = .next ((s.newTenant b (s.taskFunc task)).putDrawer b d
            { (s.newTenant b (s.taskFunc task)).drawer b d with load := some req }))) ∧
      (s.reusable b image b0 task sect = none → s.edging b = true ∨ x.load.isSome = true ∨ (x.st ≠ .empty ∧ x.st ≠ .idle ∧ x.st ≠ .faulted) →
        exec (.load b d image digestAt b0 task sect) s = .next (s.blame task stProtocol))) ∧
    (s.edging b = false → x.load = none → x.st = .idle → (∀ k < 4, (s.drawer b k).st ≠ .armed) →
      (∀ j ∈ x.bayList, (s.drawer j d).st = .idle ∨ (s.drawer j d).st = .armed ∨ (s.drawer j d).st = .active) →
      exec (.arm b d task) s = .next (s.putDrawer b d { x with st := .armed, task := task })) ∧
    (s.edging b = true ∨ x.load.isSome = true ∨ x.st ≠ .idle ∨ (∃ k < 4, (s.drawer b k).st = .armed) →
      exec (.arm b d task) s = .next (s.blame task stProtocol)) ∧
    (∀ (b0 : Nat), b0 < 32 →
      (∀ s1 : State, s.edging b = false → x.load = none → x.st = .idle ∨ x.st = .armed → s.activateBay b d b0 task = some s1 →
        Answers (.activate b d b0 task) s (fun u =>
          u = s1.modTask task (fun t => if t.insts == 0 then { t with ranAt := s.clk.dcount } else t) ∧
          (u.bay b).active = d ∧ (u.drawer b d).st = .active ∧ (u.drawer b d).b0 = b0 ∧ (u.drawer b d).task = task ∧
          (∀ k < 4, k ≠ d → u.drawer b k = (if k = (s.bay b).active ∧ (s.drawer b k).st = .active
            then { s.drawer b k with st := .idle } else s.drawer b k)) ∧ u.mem = s.mem ∧ u.clk = s.clk ∧ u.host = s.host)) ∧
      (s.edging b = false → x.load = none → x.st = .idle ∨ x.st = .armed → s.activateBay b d b0 task = none →
        exec (.activate b d b0 task) s =
          .next { s with jig := { s.jig with actWait := s.jig.actWait ++ [(b, d, b0, task)] } }) ∧
      (s.edging b = true ∨ x.load.isSome = true ∨ (x.st ≠ .idle ∧ x.st ≠ .armed) →
        exec (.activate b d b0 task) s = .next (s.blame task stProtocol))) ∧
    (s.edging b = false → x.load = none → x.st = .idle ∨ x.st = .armed ∨ x.st = .faulted → s.bayCount b d = 0 →
      exec (.clear b d task) s = .next ((s.putDrawer b d default).freshDrawer b d)) ∧
    (s.edging b = true ∨ x.load.isSome = true ∨ (x.st ≠ .idle ∧ x.st ≠ .armed ∧ x.st ≠ .faulted) ∨ s.bayCount b d ≠ 0 →
      exec (.clear b d task) s = .next (s.blame task stProtocol))

/-- LOAD_START, LOAD_FINISH and LOAD_WAIT_TIMEOUT (R81 to R86, R91, R92). -/
def Obligations.LoadProcedure : Prop :=
  ∀ (s : State) (b d : Nat) (x : Drawer) (l : LoadReq), b < 32 → d < 4 → s.drawer b d = x → x.load = some l →
    (l.started = false → s.quiescent b d = true →
      exec (.loadStart b d) s = .next ((((s.putDrawer b d { x with st := .loading, load := some { l with started := true } }).freshDrawer b d).bump
        0x3105 (b + 1) (s.fclkNow - l.since)).bringNear l.image)) ∧
    (l.started = false → s.obj 0x2C06 1 < s.fclkNow - l.since →
      exec (.loadWaitTimeout b d) s = .next (((s.putDrawer b d { x with load := none }).bump 0x3105 (b + 1)
        (s.fclkNow - l.since)).blame l.task stTimeout)) ∧
    (∀ (errs : List SymErr) (flip1 flip2 : List (Nat × Nat)) (s0 s1 s2 : State) (bs dg : List Nat) (lay : Layout) (q : Sect),
      l.started = true → s.comingNear l.image = false → s0 = s.harm (l.image / 32) errs →
      s0.readDev (s.taskFunc l.task) l.image 491520 = (stOk, bs, s1) →
      s1.readDev (s.taskFunc l.task) l.digestAt 32 = (stOk, dg, s2) → s2.sectOf l.task l.sect = some (lay, q) →
      let img := fun (f : List (Nat × Nat)) => imageCells s2.mem l.image f
      let right := fun (m : List Host.Cell) => shakeNat (memBytes m 0 491520) 32 = ofLE dg
      let fields := fun (m : List Host.Cell) => ({ (default : Drawer) with img := m } : Drawer).imageOk (b - l.b0) lay.digest l.sect q
      let took := fun (m : List Host.Cell) (u v : State) =>
        v = ((u.putDrawer b d (loadedDrawer m l (s.taskFunc l.task) lay.digest q)).unfault b d).bump 0x3104 (b + 1) 1 ∧ (v.drawer b d).st = .idle ∧
        (v.drawer b d).load = none
      let fails := fun (u : State) (st : Nat) => ((u.clearDrawer b d).emptyFaults b d).blame l.task st
      Answers (.loadFinish b d errs flip1 flip2) s (fun v =>
        (right (img flip1) → fields (img flip1) = true → took (img flip1) s2 v) ∧
        (right (img flip1) → fields (img flip1) = false → v = fails s2 stProtocol) ∧
        (¬right (img flip1) → right (img flip2) → fields (img flip2) = true →
          took (img flip2) (s2.bump 0x3106 (b + 1) 1) v) ∧
        (¬right (img flip1) → right (img flip2) → fields (img flip2) = false →
          v = fails (s2.bump 0x3106 (b + 1) 1) stProtocol) ∧
        (¬right (img flip1) → ¬right (img flip2) → v = fails ((s2.bump 0x3106 (b + 1) 1).bump 0x3106 (b + 1) 1)
          (worst stDigest (if fields (img flip2) then stOk else stProtocol))))) ∧
    (∀ (errs : List SymErr) (flip1 flip2 : List (Nat × Nat)) (s0 s1 : State) (bs : List Nat) (st : Nat),
      l.started = true → s.comingNear l.image = false → s0 = s.harm (l.image / 32) errs →
      s0.readDev (s.taskFunc l.task) l.image 491520 = (st, bs, s1) →
      worst st (s1.readDev (s.taskFunc l.task) l.digestAt 32).1 ≠ stOk →
      exec (.loadFinish b d errs flip1 flip2) s = .next ((((s1.readDev (s.taskFunc l.task) l.digestAt 32).2.2.clearDrawer b d).emptyFaults
        b d).blame l.task (worst st (s1.readDev (s.taskFunc l.task) l.digestAt 32).1)))

/-- ACCOUNTING_TICK, SOURCE_SWITCH, BAY_QUIESCENT and CHAINED_ADVANCE (R88 to R97, R105 to R112). `State.asserted` are
the conditions of R108. -/
def Obligations.SectionAdvance : Prop :=
  ∀ (s : State) (b d : Nat), b < 32 → d < 4 →
    (∀ (x : Inst) (top l : Option Nat), tfind s.insts (b * 4 + d) = some x → top = topCause (s.asserted (b * 4 + d) x) →
      l = (match top with | some c => some c | none => x.latch) →
      (x.pre = .run → x.p + 1 = x.due → x.now = false → ∀ c, l = some c →
        exec (.accountingTick b d) s = .next (s.putInst (b * 4 + d) { x with
          latch := some c, stall := (List.range 8).map (fun i => x.stall.getD i 0 + (if i = c then 1 else 0))
          measured := x.measured + 1 })) ∧
      (x.pre = .run → x.p + 1 = x.due → x.now = false → l = none →
        exec (.accountingTick b d) s = .next (s.putInst (b * 4 + d) { x with
          residual := x.residual + 1, measured := x.measured + 1 })) ∧
      (x.pre = .run → ¬(x.p + 1 = x.due ∧ x.now = false) →
        exec (.accountingTick b d) s = .next (s.putInst (b * 4 + d) { x with
          latch := l, p := x.p + 1, measured := x.measured + 1, events := x.events + (if x.now then 1 else 0), now := false })) ∧
      (x.pre = .saving ∨ x.pre = .restoring → x.now = false →
        exec (.accountingTick b d) s = .next (s.putInst (b * 4 + d) { x with
          latch := l, stall := (List.range 8).map (fun i => x.stall.getD i 0 + (if i = 4 then 1 else 0))
          measured := x.measured + 1 }))) ∧
    (∀ (row col site : Nat) (x : Drawer) (i : Inst), siteOk b row col = true → siteNo row col = site → s.drawer b d = x →
      s.inst b d = some i → i.t ≠ 0 → x.isSource site = true → s.mayStart b d = true → d ∉ (s.site b site).swOut →
      (∀ e ∈ s.xfers, e.unit ≠ unitKey b site d) → (∀ e ∈ (s.site b site).pipe, e.2.ctx ≠ d) →
      (s.srcOf b site d).exhausted = true →
      (s.srcOf b site d).claims.length ≤ x.tilesSent site (s.srcOf b site d) →
      exec (.sourceSwitch b row col d) s = .next (s.putSite b site { s.site b site with
        swOut := (s.site b site).swOut ++ [d]
        owed := (s.site b site).owed ++ (x.waveOuts site).map (fun k =>
          (k, mkC opcSwitch d ((s.site b site).waveSeq k d) (s.nextDrawer b d))) })) ∧
    (∀ (x : Drawer) (i : Inst), s.drawer b d = x → s.inst b d = some i → b ∉ i.quiet → i.pre = .run →
      s.quiescent b d = true →
      (x.st = .active → (s.bay b).active = d → i.quiet.length + 1 < i.bays → exec (.bayQuiescent b d) s = .next (
        (if x.chain then s.putBay b { s.bay b with advWait := some s.fclkNow } else s.putDrawer b d { x with st := .idle }).putInst
          (x.b0 * 4 + d) { i with quiet := i.quiet ++ [b] })) ∧
      (x.st = .idle → (s.bay b).active ≠ d → i.quiet.length + 1 < i.bays → exec (.bayQuiescent b d) s = .next (
        s.putInst (x.b0 * 4 + d) { i with quiet := i.quiet ++ [b] })) ∧
      (x.st = .active → (s.bay b).active = d → max 1 i.bays ≤ i.quiet.length + 1 → x.chain = false →
        exec (.bayQuiescent b d) s = .next (
        (((s.putDrawer b d { x with st := .idle }).putInst (x.b0 * 4 + d) ({ i with quiet := i.quiet ++ [b] } : Inst).finish).closeInst
          (x.b0 * 4 + d) stOk false).modTask i.task (fun t => { t with ended := true })))) ∧
    (∀ (since a : Nat) (s1 : State), (s.bay b).advWait = some since → a < 4 → (s.drawer b a).st = .armed →
      (∀ k < a, (s.drawer b k).st ≠ .armed) → (s.bay b).frozen = none →
      s.activateBay b a (s.drawer b a).b0 (s.drawer b a).task = some s1 →
      exec (.chainedAdvance b) s = .next s1)

/-- EDGE_MODE_WRITE and EDGE_MODE_CLEAR_EFFECT (R175): the write is bay by bay, and the effect on one bay n is as
follows while no other bit changes. -/
def Obligations.EdgeMode : Prop :=
  ∀ (s : State) (n : Nat), n < 32 →
    (∀ (v : Nat), v < 2 ^ 32 → exec (.edgeModeWrite v) s = .next ((List.range 32).foldl (fun st k => edgeBit st v k) s)) ∧
    (∀ (v : Nat), bitOf v n = true → bitOf (s.obj 0x2C10 1) n = false →
      ((∀ d < 4, (s.drawer n d).st = .empty) → tget s.jig.held n = none →
        edgeBit s v n = s.putObj 0x2C10 1 (setBit (s.obj 0x2C10 1) n)) ∧
      ((∃ d < 4, (s.drawer n d).st ≠ .empty) ∨ (tget s.jig.held n).isSome = true →
        edgeBit s v n = s.logErr 0x2C1001 stProtocol 0 n n)) ∧
    (∀ (v : Nat), bitOf v n = false → bitOf (s.obj 0x2C10 1) n = false → edgeBit s v n = s) ∧
    (∀ (v : Nat), bitOf v n = false → bitOf (s.obj 0x2C10 1) n = true →
      edgeBit s v n = s.putBay n { s.bay n with edgeClear := true }) ∧
    ((s.bay n).edgeClear = true → exec (.edgeModeClearEffect n) s = .next ((s.putBay n { s.bay n with edgeClear := false }).putObj
      0x2C10 1 (clrBit (s.obj 0x2C10 1) n)))

/-- CLAIM_ASK, TALLY_REQUEST, TALLY_ANSWER and PACER_RELEASE (R105, R107, R186 to R193). -/
def Obligations.PacerAndTally : Prop :=
  ∀ (s : State) (b d : Nat) (i : Inst), b < 32 → d < 4 →
    (∀ (dr : Drawer), s.drawer b d = dr → s.inst b d = some i → s.mayStart b d = true → i.pre = .run →
      3 * dr.entries ≤ (s.srcOf b (siteOfByte (dr.imgByte 261)) d).frags.length →
      (s.srcOf b (siteOfByte (dr.imgByte 261)) d).exhausted = false → (b - dr.b0) ∉ i.waiting →
      s.unfinished b d ≤ dr.prefetch → s.gateOpen = true →
      exec (.claimAsk b d) s = .next (if i.closed then s.tellSources b d 0x800
        else s.putInst (dr.b0 * 4 + d) { i with waiting := i.waiting ++ [b - dr.b0] })) ∧
    (tfind s.insts (b * 4 + d) = some i →
      (i.asked = false → i.exhausted = false → i.closed = false → i.lead.length < 2 → i.pre = .run →
        (i.away = false → 256 ≤ i.tally ∨
            (s.tallyTurn (i.tally / 64) b = true ∧ s.carcassUp (b / 4) (8 + i.tally / 64) = true) →
          let t := tget s.tallies i.tally
          let s1 := if i.tally < 256 then s.tallyServed (i.tally / 64) b else s
          (t.next < t.t → exec (.tallyRequest b d none) s = .next (({ s1 with
            tallies := tset s1.tallies i.tally { t with next := t.next + 1 } } : State).putInst (b * 4 + d)
              { i with asked := true, askedAt := s.fclkNow, answer := some (some t.next) })) ∧
          (t.t ≤ t.next → exec (.tallyRequest b d none) s = .next (s1.putInst (b * 4 + d)
            { i with asked := true, askedAt := s.fclkNow, answer := some none }))) ∧
        (∀ (dest num key : Nat) (s1 : State), (s.drawer b d).spanDev = true →
          i.away = true ∨ (tget s.tallies i.tally).next = 0 →
          ({ s with tallies := tmod s.tallies i.tally (fun t => { t with used := t.used && i.away }) } : State).sendReq
            { type := 4, dest := dest, src := 0, arg := num % 256 + key % 65536 * 256 } (b * 4 + d) (.claim (b * 4 + d)) b 1 = some s1 →
          s1.link.reqs.length ≠ s.link.reqs.length →
          exec (.tallyRequest b d (some (dest, num, key))) s = .next (s1.putInst (b * 4 + d)
            { i with asked := true, askedAt := s.fclkNow, away := true }))) ∧
      (∀ (c : Nat), i.asked = true → i.refused = none → i.answer = some (some c) →
        exec (.tallyAnswer b d) s = .next (s.putInst (b * 4 + d) { i with
          asked := false, answer := none, refused := none, lead := i.lead ++ [c] })) ∧
      (i.asked = true → i.refused = none → i.answer = some none →
        exec (.tallyAnswer b d) s = .next (s.putInst (b * 4 + d) { i with
          asked := false, answer := none, refused := none, exhausted := true })) ∧
      (∀ (st : Nat), i.asked = true → i.refused = some st → Answers (.tallyAnswer b d) s (fun u =>
        u.insts = tset s.insts (b * 4 + d) { i with asked := false, answer := none, refused := none } ∧
        u.jig = { s.jig with tasks := tmap s.jig.tasks (fun k t =>
          if k == i.task then { t with status := worst t.status st } else t) } ∧
        u = { s with insts := u.insts, jig := u.jig })) ∧
      (i.now = false → i.closed = false → i.pre = .run → i.p + 1 = i.due → ∀ off, nextOffset i.waiting i.served = some off →
        (∀ (c : Nat) (r : List Nat) (ix : Nat), i.lead = c :: r → freeEntry (s.claimsOf (b + off) d) = some ix →
          let s1 := s.putInst (b * 4 + d) { i with now := true, waiting := i.waiting.filter (· != off), served := off, lead := r }
          exec (.pacerRelease b d) s = .next (((({ s1 with
            claims := tset s1.claims ((b + off) * 4 + d) (s.claimsOf (b + off) d ++ [({ ix := ix, tile := c, idx := tileIndices (s.drawer (b + off) d).shapes (s.drawer (b + off) d).extents c, lastBy := [], freed := false } : Claim)]) }
              : State).tellSources (b + off) d ix).bump 0x3120 (b + 1) 1))) ∧
        (i.lead = [] → i.exhausted = true → exec (.pacerRelease b d) s = .next (
          (off :: i.waiting.filter (· != off)).foldl (fun st o => st.tellSources (b + o) d 0x800) (s.putInst (b * 4 + d)
            { i with now := true, waiting := [], served := off, closed := true })))))

/-- FTU_TRANSFER_ISSUE, FTU_TRANSFER_REPLY and SCRATCH_BUFFER_READOUT (R181, R194 to R200). -/
def Obligations.FetchUnits : Prop :=
  (∀ (s : State) (b row col d k site : Nat) (dr : Drawer) (x : Src) (e : FtuStep), siteOk b row col = true →
    siteNo row col = site → d < 4 → k < 8 → s.drawer b d = dr → s.srcOf b site d = x →
    s.ftuStep b site d k = some e → s.ftuFirst b site d k e = true → s.gateOpen = true →
    let st := dr.stream site k
    let ext := s.ftuExtents b site d
    let idx := ((s.claimsOf b d).getD e.claim default).idx
    let next := fun (y : Src) => { y with
      stream := tset y.stream k (if e.pieces.length ≤ e.place + 1 then (e.tile + 1, 0) else (e.tile, e.place + 1)) }
    (e.pieces[e.place]? = none → st.write = false →
      exec (.ftuTransferIssue b row col d k) s = .next (((s.putSite b site ((s.site b site).emitMany st.lane d
        (List.replicate (dr.emptyTile st ext idx).1 0) true (dr.emptyTile st ext idx).2)).putSrc b site d (next x)).sourceLast b site d k)) ∧
    (∀ p : Piece, e.pieces[e.place]? = some p →
      (p.addr < e.slot.1 ∨ (e.slot.1 + e.slot.2 : Int) < p.addr + p.len →
        exec (.ftuTransferIssue b row col d k) s = .next (s.faultCtx b site d stWindow)) ∧
      ((e.slot.1 : Int) ≤ p.addr → p.addr + p.len ≤ (e.slot.1 + e.slot.2 : Int) →
        Answers (.ftuTransferIssue b row col d k) s (fun u =>
          u.xfers = s.xfers ++ [{ acc := s.tier.accNext, unit := unitKey b site d, stream := k, read := !st.write, addr := p.addr.toNat, len := p.len, claim := e.claim, runEnd := p.runEnd, last := decide (e.pieces.length ≤ e.place + 1), since := s.fclkNow, done := none }] ∧
          (∃ data, u.tier = { s.tier with
            accNext := s.tier.accNext + 1
            accs := s.tier.accs ++ [{ id := s.tier.accNext, who := .ftu b (unitKey b site d) k, func := dr.func, addr := p.addr.toNat, len := p.len, write := st.write, data := data, st := .presented, tier := 0, frame := 0, since := s.clk.dcount, status := 0, again := [], bads := [], wrongs := [], more := [] }] } ∧
            (st.write = false → data = [])) ∧
          tget (u.srcOf b site d).stream k = (if e.pieces.length ≤ e.place + 1 then (e.tile + 1, 0) else (e.tile, e.place + 1)) ∧
          u.mem = s.mem ∧ u.sites = s.sites ∧ u.claims = s.claims)))) ∧
  (∀ (s : State) (acc b unit k : Nat) (a : Acc) (e : Xfer), s.tier.accs.find? (fun a => a.id == acc && a.st == .done) = some a →
    a.who = .ftu b unit k → s.xfers.find? (fun e => e.acc == acc) = some e →
    let s1 := { s with tier := { s.tier with accs := s.tier.accs.filter (fun y => y.id != acc) } }
    (a.status ≠ stOk → exec (.ftuTransferReply acc) s = .next
      (let s2 := ({ s1 with xfers := s1.xfers.filter (fun e => e.acc != acc) } : State).faultCtx b (unit / 4 % 120) (unit % 4) a.status
      match s.inst b (unit % 4) with
      | some i => s2.modTask i.task (fun t => if t.st = .saving then { t with status := worst t.status a.status } else t)
      | none => s2)) ∧
    (a.status = stOk → tfind (s.site b (unit / 4 % 120)).faulted (unit % 4) = none →
      exec (.ftuTransferReply acc) s = .next (({ s1 with
        xfers := mapFirst (fun (e : Xfer) => e.acc == acc) (fun e => { e with done := some a.data }) s.xfers } : State).ftuEmit
          b (unit / 4 % 120) (unit % 4) k (mapFirst (fun (e : Xfer) => e.acc == acc) (fun e => { e with done := some a.data }) s.xfers).length))) ∧
  (∀ (s : State) (b row col d site : Nat) (x : Buf) (rest : List Buf), siteOk b row col = true → siteNo row col = site →
    siteKind row col = .scc → d < 4 → tget s.bufs (unitKey b site d) = x :: rest → x.left = none → x.last = true → s.serves b d = true →
    Answers (.scratchBufferReadout b row col d) s (fun u => tget u.bufs (unitKey b site d) = { x with left := some x.toks } :: rest ∧
      (u.site b site).pipe.length = (s.site b site).pipe.length + x.toks ∧ u.sram = s.sram ∧ u.mem = s.mem ∧
      (0 < x.toks → ∃ t : DTok, (u.site b site).pipe.getLast? = some ((s.drawer b d).cfg site 1037 % 8, t) ∧ t.last = true)))

/-- CREATE, PLACE, MOVE, FREE and QUERY (R216 to R221). `State.partCmd` answers a function without keys with PROTOCOL
(R386) and everything in recovery service with TIER_FAIL (R493). -/
def Obligations.ObjectCommands : Prop :=
  ∀ (s : State) (q : Req), s.recovery = false → s.keyed q.func = true →
    (∀ (base tiles place prio n : Nat) (s1 : State), rangeOk q.func base tiles = true → placeOk place prio = true →
      s.overlaps base tiles = false → Memory.wf s.mem = true →
      s.pickNo (s.tier.objs.map (fun e => e.1)) 1048576 = some n →
      let o : Obj := { owner := q.func, pref := place % 4, pin := bitOf place 2, settle := bitOf place 3, prio := prio, st := .live, base := base, tiles := tiles }
      dirBytes (s.tier.leaf.map (fun e => e.1) ++ o.keys) ≤ s.dirFrames * 65536 →
      State.allocTiles n q.func prio (if o.pin then [o.pref] else [1, 2, 3].filter (o.pref ≤ ·)) o.keys s.tick = some s1 →
      Answers (.create q base tiles place prio false) s (fun t => tfind t.tier.objs n = some o ∧
        (∀ a, memGet t.mem a = if base ≤ a ∧ a < base + 65536 * tiles then 0 else memGet s.mem a) ∧ t.tier.walk = [] ∧
        ∃ u : State, t = u.complete q stOk n)) ∧
    (∀ (base tiles place prio : Nat) (lost : Bool),
      rangeOk q.func base tiles = false ∨ placeOk place prio = false ∨ s.overlaps base tiles = true →
      exec (.create q base tiles place prio lost) s = .next (s.complete q stProtocol 0)) ∧
    (∀ (n : Nat) (o : Obj), s.ownObj q.func n = some o →
      (∀ (place prio : Nat), placeOk place prio = true →
        let goal := fun (k : Nat) => if (s.leaf k).moving then (s.leaf k).dest else (s.leaf k).home
        let queued := State.reserveMoves n q.func prio (place % 4) (s.tier.cmdNext + 1)
          (fun k => bitOf place 2 && (o.keys.filter (fun k => goal k != place % 4 && !(s.leaf k).lost)).contains k)
          (o.keys.filter (fun k => goal k != place % 4 || (s.leaf k).moving)) s
        (∀ s1, queued = some s1 → exec (.place q n place prio) s = .next ((s1.putObject n { o with
          pref := place % 4, pin := bitOf place 2, settle := bitOf place 3, prio := prio }).beginMoves q true (s.tier.cmdNext + 1))) ∧
        (queued = none → exec (.place q n place prio) s = .next (s.complete q stResource 0))) ∧
      (∀ (first count tier : Nat), first + count ≤ o.tiles → 1 ≤ tier → tier ≤ 3 → (o.pin = true → tier = o.pref) →
        exec (.move q n first count tier) s = .next ((((o.keys.drop first).take count).foldl (fun st k =>
          st.addMove k tier (s.tier.cmdNext + 1) none) s).beginMoves q false (s.tier.cmdNext + 1))) ∧
      (q.func = o.owner → exec (.free q n) s = .next { s.putObject n { o with st := .freeing } with
        tier := { (s.putObject n { o with st := .freeing }).tier with frees := s.tier.frees ++ [(n, some q)] } }) ∧
      (∀ (addr : Nat), exec (.query q n addr) s = .next ((s.writeDev q.func addr (s.descriptor n o)).2.complete q
        (s.writeDev q.func addr (s.descriptor n o)).1 0))) ∧
    (∀ (n place prio first count tier addr : Nat), (∀ o, tfind s.tier.objs n = some o → o.owner ≠ q.func) →
      exec (.place q n place prio) s = .next (s.complete q stProtocol 0) ∧
      exec (.move q n first count tier) s = .next (s.complete q stProtocol 0) ∧
      exec (.query q n addr) s = .next ((s.windowCause q.func (s.transStatus q.func addr 64)).complete q
        (worst stProtocol (s.transStatus q.func addr 64)) 0))

/-- TRANSLATION, TIER_REPLY, TAG_REREAD and FREE_RELEASE (R211, R217, R224 to R226, R232, R239 to R241). The turn at a port is
the model's order (log 98); the bytes are answered by `memBytes`. -/
def Obligations.TierAccesses : Prop :=
  (∀ (s : State) (id : Nat) (a : Acc), s.tier.accs.find? (fun a => a.id == id && a.st == .presented) = some a →
    s.dirTurn (dieOf (tileOf a.addr)) a = true → s.dirRoute a = true → s.afterOthers a = false →
    s.fabWin a.func a.addr a.len = none →
    let u := s.dirServed (dieOf (tileOf a.addr)) a
    (s.transStatus a.func a.addr a.len = stOk → s.hostLines a.addr a.len = [] →
      (∀ l ∈ s.host.bi, ¬(a.addr / 64 ≤ l ∧ l ≤ (a.addr + max a.len 1 - 1) / 64)) →
      let v := u.touch a.addr a.len
      exec (.translation id) s = .next (if ∃ k ∈ tilesOf a.addr a.len, (v.leaf k).moving = true
        then v.putAcc id (fun x => { x with st := .held }) else (v.wakeTiers a.addr a.len).putAcc id v.accGoes)) ∧
    (s.transStatus a.func a.addr a.len ≠ stOk → exec (.translation id) s =
      .next ((u.putAcc id (fun x => { x with st := .done, status := s.transStatus a.func a.addr a.len, data := [] })).windowCause
        a.func (s.transStatus a.func a.addr a.len)))) ∧
  (∀ (s : State) (id : Nat) (a : Acc), s.tier.accs.find? (fun a => a.id == id && a.st == .flight) = some a →
    (∀ k ∈ tilesOf a.addr a.len, s.tierSt (a.place k).1 = 1) → s.code.hot = [] →
    (∀ w ∈ wordsOf a.addr a.len, s.accUnit a w ∉ s.code.train ∧ s.unitHeld (s.accUnit a w) = false) →
    let done := fun (bs : List Nat) (x : Acc) => { x with
      st := .done, status := stOk, data := bs, again := [], bads := [], wrongs := [] }
    (a.write = true → (∀ w ∈ wordsOf a.addr a.len, partlyIn a.addr a.data w = false) → exec (.tierReply id [] [] [] []) s =
      .next ((s.store a.addr a.data).putAcc a.id (done [])).dropStale) ∧
    (a.write = false → a.data = [] → (∀ w ∈ wordsOf a.addr a.len, s.sick w = false) →
      exec (.tierReply id [] [] [] []) s = .next ((tilesOf a.addr a.len).foldl (fun u k => u.bump 0x3300 (a.place k).1
        (min (a.addr + a.len) ((k + 1) * 65536) - max a.addr (k * 65536)))
          (s.putAcc a.id (done (memBytes s.mem a.addr a.len)))).dropStale ∧
      (∀ (tagBad : List Nat), (∃ w ∈ wordsOf a.addr a.len, tagBad.contains (w - a.addr / 32) = true) →
        Answers (.tierReply id [] tagBad [] []) s (fun t => t.mem = s.mem ∧ t.tier.poison = s.tier.poison ∧
          t.tier.accs = mapFirst (fun (x : Acc) => x.id == id) (fun x => { x with
            st := .reread, again := (wordsOf a.addr a.len).filter (fun w => tagBad.contains (w - a.addr / 32))
            bads := [], wrongs := [] }) s.tier.accs)))) ∧
  (∀ (s : State) (id : Nat) (a : Acc), s.tier.accs.find? (fun a => a.id == id && a.st == .reread) = some a →
    a.write = false → a.data = [] → a.bads = [] → a.wrongs = [] → (∀ w ∈ a.again, s.sick w = false) →
    (∀ b ∈ s.tier.accs, ∀ bay, b.who ≠ .gone bay) →
    let done := fun (st : Nat) (bs : List Nat) => mapFirst (fun (x : Acc) => x.id == a.id) (fun x => { x with
      st := .done, status := st, data := bs, again := [], bads := [], wrongs := [] }) s.tier.accs
    Answers (.tagReread id [] [] []) s (fun t => t.mem = s.mem ∧ t.tier.accs = done stOk (memBytes s.mem a.addr a.len)) ∧
    (∀ (w : Nat) (ks : KeySet), a.again = [w] → tget s.trust.keys (partOf a.addr) = some ks →
      tget s.trust.tagFails (partOf a.addr) + 1 < ks.alarm →
      Answers (.tagReread id [] [w - a.addr / 32] []) s (fun t => t.mem = s.mem ∧ tget t.tier.poison w = true ∧
        t.tier.accs = done stPoison []))) ∧
  (∀ (s : State) (n : Nat) (o : Obj) (q : Req), tfind s.tier.objs n = some o → s.tier.frees.find? (fun e => e.1 == n) = some (n, some q) →
    o.st = .freeing → s.idleObj n o = true →
    let u := (s.dropObj n o).gensFreed n
    exec (.freeRelease n) s = .next ((({ u with tier := { u.tier with frees := u.tier.frees.filter (fun e => e.1 != n) } } : State).complete
      q stOk 0).settleTenant o.owner) ∧
    tfind (s.dropObj n o).tier.objs n = none ∧
    (∀ k, tileOf o.base ≤ k → k < tileOf o.base + o.tiles → tfind (s.dropObj n o).tier.leaf k = none))

/-- MOVE_START, MOVE_COPY, MOVE_COMMIT, OLD_FRAME_FREE and SETTLE_RETURN (R217 to R229). -/
def Obligations.TheMover : Prop :=
  (∀ (s s1 : State) (die fr : Nat) (r : MoveReq), die < 4 → s.movingOn die < 32 → s.dirPorts die = [] →
    nextMove s die s.tier.moveQ [] = some r →
    (s.leaf r.tileKey).home ≠ 0 → (s.leaf r.tileKey).home ≠ r.tier → (s.leaf r.tileKey).lost = false →
    s.tierDown r.tier = false → s.tierDown (s.leaf r.tileKey).home = false →
    s.moveFrame r (tget s.tier.objs (s.leaf r.tileKey).object) (s.leaf r.tileKey).object = some (fr, s1) →
    Answers (.moveStart die) s (fun t => t.leaf r.tileKey = { s1.leaf r.tileKey with
        moving := true, dest := r.tier, dframe := fr, copied := false } ∧ t.mem = s1.mem ∧
      t.tier.moveQ = mapFirst (fun (x : MoveReq) => x.tileKey == r.tileKey && x.cmd == r.cmd) (fun x => { x with started := true }) s1.tier.moveQ)) ∧
  (∀ (s : State) (r : MoveReq) (o : Obj) (n fr : Nat), r.frame = some fr → s.moveFrame r o n = some (fr, s)) ∧
  (∀ (s : State) (k : Nat), (s.leaf k).moving = true → (s.leaf k).copied = false → s.inFlightOn k true = false →
    s.readsLeft (s.leaf k).dest (s.leaf k).dframe = false →
    s.trainingIn (s.leaf k).home = false → s.trainingIn (s.leaf k).dest = false → s.sickIn (tileAddr k) 65536 = [] →
    exec (.moveCopy k [] []) s = .next ((s.bump 0x3300 (s.leaf k).home 65536).putLeaf k { s.leaf k with copied := true })) ∧
  (∀ (s : State) (k : Nat) (l : Leaf), s.leaf k = l → l.moving = true → l.copied = true → s.host.waits = [] → s.code.owed = [] →
    (∀ a ∈ s.tier.accs, a.st ≠ .held) → (∀ r ∈ s.tier.moveQ, ¬(r.started = true ∧ r.tileKey = k)) →
    Answers (.moveCommit k) s (fun t => t.leaf k = { l with
        home := l.dest, frame := l.dframe, moving := false, dest := 0, dframe := 0, copied := false } ∧
      t.tier.old = s.tier.old ++ [{ tier := l.home, frame := l.frame, tileKey := k }] ∧ t.mem = s.mem ∧
      t.obj 0x3301 l.dest = (s.obj 0x3301 l.dest + 1) % 2 ^ 64)) ∧
  (∀ (s : State) (k : Nat) (w : OldFrame) (rest : List OldFrame), s.tier.old = w :: rest → w.tileKey = k →
    (∀ a ∈ s.tier.accs, ¬(a.isOut = true ∧ a.touches k = true ∧ a.place k = (w.tier, w.frame))) →
    exec (.oldFrameFree k) s = .next { s with tier := { s.tier with old := rest } }) ∧
  (∀ (s : State) (t : Nat) (e : Nat × Leaf), 1 ≤ t → t ≤ 3 → 0 < s.freeFrames t →
    firstBy s.returnBefore (s.tier.leaf.filter (s.displaced t)) = some e →
    exec (.settleReturn t) s = .next ({ s with tier := { s.tier with
      moveQ := s.tier.moveQ ++ [{ tileKey := e.1, tier := t, cmd := 0, started := false, frame := some (s.pickFrame t) }] } } : State).tick)

/-- TIER_FAILURE, ACCESS_LIMIT_EXPIRY, DIMM_LOST, EXPANDER_FATAL and RETRAIN_DONE without success (R229 to R235, R493). -/
def Obligations.TierFailures : Prop :=
  (∀ (s : State) (t : Nat), 1 ≤ t → t ≤ 3 → s.tierDown t = true → exec (.tierFailure t) s = .next s) ∧
  (∀ (s : State) (t : Nat), 1 ≤ t → t ≤ 3 → s.tierDown t = false →
    Answers (.tierFailure t) s (fun u => u = s.failTier t ∧ u.tierSt t = 3 ∧
      (t = 1 → u.tier.objs = [] ∧ u.recovery = true) ∧
      (t ≠ 1 → s.host.waits = [] → (∀ a ∈ s.tier.accs, a.st ≠ .held) → (s.tier.leaf.map (fun e => e.1)).Nodup →
        u.mem = s.mem ∧ (∀ r, r ≠ t → u.tierSt r = s.tierSt r) ∧
        (∀ a ∈ u.tier.accs, a.isOut = true → ∀ k ∈ tilesOf a.addr a.len, (a.place k).1 ≠ t) ∧
        (∀ k l, tfind s.tier.leaf k = some l → l.home = t → (u.leaf k).lost = true ∧ (u.leaf k).moving = false) ∧
        (∀ k l, tfind s.tier.leaf k = some l → l.home ≠ t → (u.leaf k).home = l.home ∧ (u.leaf k).lost = l.lost)))) ∧
  (∀ (s : State) (id : Nat) (a : Acc), s.tier.accs.find? (fun a => a.id == id && a.isOut) = some a →
    a.since + s.obj 0x2402 3 ≤ s.clk.dcount → (∀ w ∈ wordsOf a.addr a.len, s.unitHeld (s.accUnit a w) = false) →
    exec (.accessLimitExpiry id) s = .next (s.failTier a.tier)) ∧
  (∀ (s : State) (c : Nat), c < 12 → bitOf s.tier.channels c = true → exec (.dimmLost c) s = .next (s.failTier 2)) ∧
  (∀ (s : State) (x : Nat), x < 8 → bitOf s.tier.expanders x = true → exec (.expanderFatal x) s = .next (s.failTier 3)) ∧
  (∀ (s : State) (u : Nat), u < 28 → u ∈ s.code.train →
    exec (.retrainDone u true) s = .next ({ s with code := { s.code with train := s.code.train.filter (· != u) } } : State).serveWaits ∧
    exec (.retrainDone u false) s = .next (({ s with code := { s.code with
      train := s.code.train.filter (· != u) } } : State).failTier (if u < 16 then 1 else 2)))

/-- NEAR_RETRAIN, DDR5_RETRAIN, DRAM_TEMPERATURE_CHANGE, SCRUB_READ, RESERVE_SPEND, the EXPANDER_ events, USE_AGEING
and DIR_PROBE (R222, R236, R243 to R258). -/
def Obligations.MemoryEvents : Prop :=
  ∀ (s : State),
    (∀ u < 16, s.mayRetrain 1 u (s.obj 0x2420 1) = true → s.code.train.contains u = false →
      exec (.nearRetrain u) s = .next (if s.copying 1 then { s with code := { s.code with
        owed := if s.code.owed.contains u then s.code.owed else s.code.owed ++ [u] } } else { s with code := { s.code with
        train := s.code.train ++ [u], trainedAt := tset s.code.trainedAt u s.clk.dcount } })) ∧
    (∀ c < 12, bitOf s.tier.channels c = true → s.mayRetrain 2 (16 + c) (s.obj 0x2421 4) = true → s.code.train.contains (16 + c) = false →
      exec (.ddr5Retrain c) s = .next (if s.copying 2 then { s with code := { s.code with
        owed := if s.code.owed.contains (16 + c) then s.code.owed else s.code.owed ++ [16 + c] } } else { s with code := { s.code with
        train := s.code.train ++ [16 + c], trainedAt := tset s.code.trainedAt (16 + c) s.clk.dcount } })) ∧
    (∀ n < 32, ∀ hot, exec (.dramTemperatureChange n hot) s = .next { s with code := { s.code with
      warm := s.code.warm.filter (· != n) ++ (if hot then [n] else []) } }) ∧
    (∀ (w t fr : Nat) (overtaken : Bool), s.scrubPlace w = (t, fr) → t ≠ 0 → s.tierSt t = 1 → s.scrubAt t = some w →
      (s.leaf (w / 2048)).moving = false → s.sick w = false →
      exec (.scrubRead w [] overtaken false) s = .next (s.scrubbed t w) ∧
      ((s.passWord t).isSome = true → (s.scrubNext t (w + 1)).isSome = true →
        s.scrubbed t w = { s with code := { s.code with scrub := tset s.code.scrub t (w + 1) } }) ∧
      ((s.passWord t).isSome = true → s.scrubNext t (w + 1) = none →
        s.scrubbed t w = ({ s with code := { s.code with scrub := tdel s.code.scrub t } } : State).bump 0x3316 t 1)) ∧
    (∀ v < 65536, bits v 13 8 ≤ 35 → bits v 5 0 ≤ 35 → tget s.code.spent (bits v 13 8) = none →
      Answers (.reserveSpend v) s (fun t => t.code = { s.code with spent := tset s.code.spent (bits v 13 8) (some (bits v 5 0)) } ∧
        bitOf (tget t.host.cause 12) 1 = true ∧ t.mem = s.mem)) ∧
    (∀ v < 65536, 35 < bits v 13 8 ∨ 35 < bits v 5 0 → exec (.reserveSpend v) s = .next (s.bump 0x3000 1 1)) ∧
    (∀ x < 8, exec (.expanderCorrectable x) s = .next (s.bump 0x3315 (29 + x) 1) ∧
      exec (.expanderMalformed x) s = .next (s.bump 0x3317 (x + 1) 1) ∧
      exec (.expanderCapacityChange x) s = .next (s.logErr (objKey 0x3317 (x + 1)) 0 0xFF (28 + x) 0) ∧
      (∀ detail, exec (.expanderEventRecord x detail) s =
        .next ((s.bump 0x3317 (x + 1) 1).logErr (objKey 0x3317 (x + 1)) 0 0xFF (28 + x) detail)) ∧
      (∀ w, Answers (.expanderMediaError x w) s (fun t => t.log.count = (s.log.count + 1) % 65536 ∧ t.mem = s.mem ∧
        ((s.leaf (w / 2048)).home = 3 → tget s.tier.poison w = false → t.wordBad w = true) ∧
        ((s.leaf (w / 2048)).home ≠ 3 → t.code = s.code)))) ∧
    (s.tier.agedAt + s.obj 0x2402 2 * 1000 ≤ s.clk.dcount → exec .useAgeing s = .next { s with tier := { s.tier with
      agedAt := s.clk.dcount, leaf := s.tier.leaf.map (fun e => (e.1, { e.2 with use := e.2.use / 2 })) } }) ∧
    (∀ addr, exec (.dirProbe addr) s = .next { s with dict := { s.dict with probe := addr % 2 ^ 64 } })

/-- REGISTER, UNREGISTER, SUBMIT, GRAPH_COUNT_DONE and SAVEPOOL (R259 to R266, R280, R392). `checkLayout` and
`checkGraph` give the worst status found and the state after the reads. -/
def Obligations.GraphCommands : Prop :=
  ∀ (s : State) (q : Req), InService s.ren.active s → s.recovery = false → s.keyed q.func = true →
    (∀ (header cut : Nat) (l : Layout) (r : Reading), checkLayout s q.func header cut = (l, r) →
      let log := shakeNat (leBytes (tget s.trust.layoutLog q.func) 64 ++ leBytes l.digest 32 ++ leBytes l.cutDigest 32) 64
      (∀ h, r.bad = stOk → s.pickNo (s.jig.layouts.map (fun e => e.1)) 4096 = some h →
        exec (.register q header cut) s = .next (((({ r.st with
          jig := { r.st.jig with layouts := tset r.st.jig.layouts h l }
          trust := { r.st.trust with layoutLog := tset r.st.trust.layoutLog q.func log } } : State)).tick).complete q stOk h)) ∧
      (stPrec r.bad < 15 → exec (.register q header cut) s = .next (r.st.complete q (worst r.bad
        (if (s.pickNo (s.jig.layouts.map (fun e => e.1)) 4096).isNone then stResource else stOk)) 0))) ∧
    (∀ (h : Nat) (l : Layout), tfind s.jig.layouts h = some l → l.gone = false → l.func = q.func →
      Answers (.unregister q h) s (fun t => ∃ u : State, t = u.complete q stOk 0 ∧
        u = { s with jig := { s.jig with layouts := u.jig.layouts } } ∧
        (s.usesLayout h = false → tfind u.jig.layouts h = none) ∧
        (s.usesLayout h = true → tfind u.jig.layouts h = some { l with gone := true }))) ∧
    (∀ (header g : Nat) (h : List Nat) (es : List (Nat × Nat)) (s1 : State), checkGraph s q.func header = (stOk, h, es, s1) →
      s1.pickNo (s1.jig.graphs.map (fun e => e.1)) 1024 = some g → s1.jig.tasks.length + fieldAt h 8 4 ≤ 262144 →
      s1.edgesHeld + es.length ≤ 4194304 →
      Answers (.submit q header) s (fun t => t = ((s1.admitGraph g q.func h es (some q.ring)).tick).complete q stOk g ∧
        (∃ gr, tfind t.jig.graphs g = some gr ∧ gr.func = q.func ∧ gr.edges = es ∧ gr.counted = false ∧ gr.tasks = fieldAt h 8 4) ∧
        (∀ i < fieldAt h 8 4, ∃ x, t.task (taskKey g i) = some x ∧ x.st = .counting ∧ x.func = q.func))) ∧
    (∀ (g : Nat) (gr : Graph), tfind s.jig.graphs g = some gr → gr.counted = false →
      let u := s.countEdges g gr
      tfind u.jig.graphs g = some { gr with counted := true } ∧
      (∀ k x, s.task k = some x → u.task k = some (if k / 65536 = g
          then { x with count := (gr.edges.filter (fun e => e.2 == k % 65536)).length } else x)) ∧
      ((∃ k x, k / 65536 = g ∧ u.task k = some x ∧ x.st = .counting ∧ x.count = 0) → exec (.graphCountDone g) s = .next u) ∧
      (∀ (ring : Nat), gr.ring = some ring → u.tasksOf g ≠ [] → (∀ e ∈ u.tasksOf g, e.2.st = .counting ∧ e.2.count ≠ 0) →
        Answers (.graphCountDone g) s (fun t => tfind t.jig.graphs g = none ∧ (∀ k, k / 65536 = g → t.task k = none) ∧
          (∀ k, k / 65536 ≠ g → t.task k = s.task k) ∧
          ∃ v : State, v.host = s.host ∧ t.host = (v.queueCpl ring (cplBytes 4 stProtocol 0 0 gr.user 0
            ((u.tasksOf g).length + g * 2 ^ 32))).host))) ∧
    (∀ (object : Nat) (o : Obj), tfind s.tier.objs object = some o → o.st = .live → o.owner = q.func → o.tiles ≠ 0 →
      o.tiles % 1176 = 0 →
      ((tget s.jig.pools q.func).held = [] → exec (.savepool q object) s = .next (({ s with jig := { s.jig with
        pools := tset s.jig.pools q.func { object := object, base := o.base, slots := o.tiles / 1176, held := [] } } } : State).complete q stOk (o.tiles / 1176))) ∧
      ((tget s.jig.pools q.func).held ≠ [] → exec (.savepool q object) s = .next (s.complete q stResource 0)))

/-- TASK_ISSUE, ISSUE_READS_DONE, PLACEMENT_PASS and QUANTUM_EXPIRY (R182, R183, R266 to R278). `checkIssue` answers the
status picked among all the conditions a task meets; `State.finishTask` is the completion of a task. -/
def Obligations.TaskIssue : Prop :=
  (∀ (s : State) (g i k : Nat) (gr : Graph) (x : Task), taskKey g i = k → tfind s.jig.graphs g = some gr → s.task k = some x →
    (gr.counted = true → x.st = .counting → x.count = 0 →
      exec (.taskIssue g i) s = .next { s with jig := { s.jig with tasks := tset s.jig.tasks k { x with st := .reading } } }) ∧
    (∀ (st : Nat) (d : List Nat) (s1 : State), x.st = .reading → gr.port = none →
      s.readDev x.func (gr.taskBase + 128 * i) 128 = (st, d, s1) →
      (st ≠ stOk → exec (.issueReadsDone g i) s = .next ((s1.modTask k (fun y => { y with notify := true, user := 0 })).finishTask k st)) ∧
      (st = stOk → ∀ (bad : Nat) (y : Task) (s2 : State), checkIssue s1 x.func i x d none = (bad, y, s2) →
        (bad = stOk → Answers (.issueReadsDone g i) s (fun t => t.task k = some { y with st := .issued, entered := iclkOf s2.clk.dcount } ∧
          t.jig.order = orderInsert (t.goesBefore k false) k s2.jig.order ∧
          t = { s2 with jig := { s2.jig with order := t.jig.order, tasks := t.jig.tasks } } ∧
          ∀ j ≠ k, t.task j = s2.task j)) ∧
        (bad ≠ stOk → exec (.issueReadsDone g i) s = .next
          (({ s2 with jig := { s2.jig with tasks := tset s2.jig.tasks k y } } : State).finishTask k bad)))) ∧
    (x.st = .placed → s.activated k x = true → x.quantum ≤ s.clk.dcount - x.ranAt →
      exec (.quantumExpiry g i) s = .next { s with jig := { s.jig with tasks := tset s.jig.tasks k { x with expired := true } } })) ∧
  (∀ (s : State), exec .placementPass s = .next (s.jig.order.foldl passTask s)) ∧
  (∀ (s : State) (w b : Nat) (x : Task), s.task w = some x →
    (s.waitRun w x = none → x.st = .issued → lowestRun (s.bayFree w) x.nb = some b → s.suits x b = true →
      passTask s w = s.placeTask w x b) ∧
    (s.waitRun w x = none → x.st = .saved → (∀ j < x.nb, s.bayFree w (x.base + j) = true) →
      passTask s w = (s.hold w x.base x.nb).modTask w (fun y => { y with st := .restoring, doneBays := [] })) ∧
    (s.waitRun w x = some b → (∀ j < x.nb, s.bayFree w (b + j) = true) →
      (x.st = .issued → s.suits x b = true → passTask s w = s.placeTask w x b) ∧
      (x.st = .saved → passTask s w = (s.hold w b x.nb).modTask w (fun y => { y with st := .restoring, doneBays := [] }))) ∧
    (s.waitRun w x = some b → (∃ j < x.nb, s.bayFree w (b + j) = false) → passTask s w = s) ∧
    (∀ c, s.canHave w c = true ↔ s.bayFree w c = true ∨ ∃ v, tget s.jig.held c = some v ∧ s.yields v w = true ∧
      (tget s.jig.reserved c = none ∨ tget s.jig.reserved c = some w)) ∧
    (s.waitRun w x = none → x.st = .issued → lowestRun (s.bayFree w) x.nb = none → lowestRun (s.canHave w) x.nb = some b →
      ∃ u : State, passTask s w = u ∧ u = { s with jig := { s.jig with reserved := u.jig.reserved, preempt := u.jig.preempt, tasks := u.jig.tasks } } ∧
        (∀ v y, s.task v = some y → u.task v = some y ∨ ∃ r, u.task v = some { y with why := r }) ∧
        (∀ c, tget u.jig.reserved c = if b ≤ c ∧ c < b + x.nb then some w else
          if tget s.jig.reserved c = some w then none else tget s.jig.reserved c) ∧
        (∀ v, v ∈ u.jig.preempt ↔ v ∈ s.jig.preempt ∨ ∃ c, b ≤ c ∧ c < b + x.nb ∧ tget s.jig.held c = some v)) ∧
    (s.waitRun w x = none → x.st = .issued → lowestRun (s.bayFree w) x.nb = none → lowestRun (s.canHave w) x.nb = none →
      passTask s w = s)) ∧
  (∀ (p : Nat → Bool) (nb b : Nat), lowestRun p nb = some b →
    b + nb ≤ 32 ∧ (∀ j < nb, p (b + j) = true) ∧ ∀ c < b, ∃ j < nb, p (c + j) = false)

/-- PREEMPT, SAVE_FREEZE, SAVE_STREAM_END, SAVE_COMPLETE and RESTORE (R281 to R286). -/
def Obligations.SaveAndRestore : Prop :=
  ∀ (s : State) (bay k slot : Nat) (x : Task), bay < 32 → tget s.jig.held bay = some k → s.task k = some x →
    slot = x.slots.getD (bay - x.base) 0 →
    ((x.st = .saving ∧ s.faultsFirst x = false) ∨ (x.st = .placed ∧ k ∈ s.jig.preempt ∧ x.status = stOk ∧ x.ended = false ∧
        ∀ j < x.nb, ∀ d < 4, (s.drawer (x.base + j) d).st ≠ .faulted) →
      Answers (.preempt bay) s (fun t =>
        t.task k = some (if x.st = .saving then x else { x with
          st := .saving, doneBays := [] }) ∧
        k ∉ t.jig.preempt ∧ (∀ j ≠ k, t.task j = s.task j ∧ (j ∈ t.jig.preempt ↔ j ∈ s.jig.preempt)) ∧
        (∀ e, tfind t.insts e = (tfind s.insts e).map (fun i =>
          if i.task = k ∧ i.pre = .run then { i with pre := .saving } else i)) ∧
        t = { s with insts := t.insts, jig := { s.jig with
          tasks := t.jig.tasks, preempt := t.jig.preempt, busyAt := tset s.jig.busyAt bay s.clk.dcount } })) ∧
    (x.st = .saving → s.faultsFirst x = true → exec (.preempt bay) s = .next s ∧ exec (.saveFreeze bay) s = .next s) ∧
    (x.st = .saving → s.faultsFirst x = false → (s.bay bay).frozen = none → (∀ d < 4, (s.drawer bay d).st ≠ .loading) →
      (∀ e ∈ s.insts, e.1 / 4 = bay → e.2.asked = false) → (∀ e ∈ s.xfers, e.unit / 480 ≠ bay) →
      Answers (.saveFreeze bay) s (fun t => t.bay bay = { s.bay bay with
          frozen := some s.clk.dcount, offAt := tset (s.bay bay).offAt (s.bay bay).active s.fclkNow } ∧
        (∀ site < 120, (t.site bay site).dat = tmap (s.site bay site).dat (fun _ c => { c with wire := [], queue := c.queue ++ c.wire.map (fun e => e.2) }) ∧
          (t.site bay site).ctl = tmap (s.site bay site).ctl (fun _ c => { c with wire := [], queue := c.queue ++ c.wire.map (fun e => e.2) }) ∧
          (t.site bay site).slots = (s.site bay site).slots) ∧
        (∀ b ≠ bay, ∀ site < 120, t.site b site = s.site b site) ∧ t = { s with sites := t.sites, bays := t.bays })) ∧
    (x.st = .saving → (s.bay bay).frozen.isSome = true → tfind s.jig.saves (x.func * 65536 + slot) = none → x.func < 64 →
      Memory.wf s.mem = true →
      let c := s.capture bay x.func ((s.jig.serial + 1) % 2 ^ 64) (k % 2 ^ 32)
      Answers (.saveStreamEnd bay) s (fun t => tfind t.jig.saves (x.func * 65536 + slot) = some c ∧
        t.jig.serial = (s.jig.serial + 1) % 2 ^ 64 ∧
        (∃ y, t.task k = some y ∧ (bay - x.base < x.nb → y.serials.getD (bay - x.base) 0 = t.jig.serial)) ∧
        ((s.writeDev x.func (s.slotAddr x.func slot) c.header).1 = stOk → memBytes t.mem (s.slotAddr x.func slot) 64 = c.header ∧
          ∀ a, a < s.slotAddr x.func slot ∨ s.slotAddr x.func slot + 64 ≤ a → memGet t.mem a = memGet s.mem a))) ∧
    (x.st = .saving → (tfind s.jig.saves (x.func * 65536 + slot)).isSome = true → s.part bay = 0 →
      let was := worst x.status stOk
      Answers (.saveComplete bay) s (fun t => tget t.jig.held bay = none ∧ (∀ d < 4, t.drawer bay d = default) ∧
        (∀ site < 120, t.site bay site = default) ∧ (t.bay bay).frozen = none ∧
        (x.doneBays.length + 1 < x.nb → (∀ d < 4, (s.drawer bay d).st ≠ .faulted) →
          t.task k = some { x with doneBays := x.doneBays ++ [bay], status := was }) ∧
        (x.nb ≤ x.doneBays.length + 1 → was = stOk → (∀ d < 4, (s.drawer bay d).st ≠ .faulted) → k ∈ t.jig.order ∧
          t.task k = some { x with st := .saved, status := was, doneBays := [], expired := false, entered := iclkOf s.clk.dcount }) ∧
        (x.nb ≤ x.doneBays.length + 1 → (∀ d < 4, (s.drawer bay d).st ≠ .faulted) → was ≠ stOk →
          t.task k = some { x with st := .teardown, status := was, doneBays := [] }) ∧
        (∀ d < 4, (s.drawer bay d).st = .faulted → (∃ u, (s.drawer bay d).fault = some u ∧ u ≠ stOk ∧ stPrec u < 16) →
          ∃ y, t.task k = some y ∧ y.status ≠ stOk ∧ (x.nb ≤ x.doneBays.length + 1 → y.st = .teardown)))) ∧
    (∀ (c : SaveSlot) (st : Nat) (h : List Nat) (s1 : State), x.st = .restoring → (s.bay bay).frozen = none → s.domOn bay = true →
      tfind s.jig.saves (x.func * 65536 + slot) = some c → s.readDev x.func (s.slotAddr x.func slot) 64 = (st, h, s1) →
      s1.sickIn (s.slotAddr x.func slot) 77070336 = [] →
      (st = stOk → ({ c with serial := x.serials.getD (bay - x.base) 0 } : SaveSlot).matchesHeader h = true → c.bay = bay → c.func = x.func →
        Answers (.restore bay) s (fun t => (t.bay bay).frozen = some s.clk.dcount ∧ t.task k = s.task k ∧
          (∃ d, tfind t.jig.saves (x.func * 65536 + slot) = some d ∧ d = { c with instRec := d.instRec }) ∧
          t = { s1 with insts := t.insts, bays := t.bays, jig := { s1.jig with
            saves := t.jig.saves, busyAt := tset s1.jig.busyAt bay s.clk.dcount } })) ∧
      (st ≠ stOk → exec (.restore bay) s = .next (s1.modTask k (fun y => { y with st := .teardown, status := worst y.status st }))) ∧
      (st = stOk → ({ c with serial := x.serials.getD (bay - x.base) 0 } : SaveSlot).matchesHeader h = false →
        exec (.restore bay) s = .next ((s1.bump 0x3136 1 1).modTask k (fun y => { y with
          st := .teardown, status := worst y.status stProtocol }))) ∧
      (c.matchesHeader h = true ↔ h.take 16 = c.header.take 16 ∧ (h.drop 28).take 4 = (c.header.drop 28).take 4))

/-- TASK_COMPLETE, TASK_TEARDOWN and TEARDOWN_FINISH (R266, R269, R270, R276, R287). A graph whose last task ends is gone
from the table, and its tasks with it. -/
def Obligations.TaskEnds : Prop :=
  ∀ (s : State) (g i k : Nat) (x : Task), taskKey g i = k → i < 65536 → s.task k = some x →
    (x.st = .placed → x.ended = true → Answers (.taskComplete g i) s (fun t =>
      (∀ b < 32, tget t.jig.held b ≠ some k) ∧ (∀ b < 32, tget s.jig.held b ≠ some k → tget t.jig.held b = tget s.jig.held b) ∧
      k ∉ t.jig.order ∧ k ∉ t.jig.preempt ∧
      ∀ gr, tfind s.jig.graphs g = some gr → (tfind t.jig.graphs g).isSome = true →
        (∃ y, t.task k = some y ∧ y.st = .done ∧ y.status = worst x.status x.recSt ∧ y.slots = [] ∧ y.nb = 0) ∧
        (∀ n < 65536, n ≠ i → ∀ z, s.task (taskKey g n) = some z → ∃ y, t.task (taskKey g n) = some y ∧
          (worst x.status x.recSt = stOk → y.count = z.count - (gr.edges.filter (· == (i, n))).length) ∧
          (worst x.status x.recSt ≠ stOk → (i, n) ∈ gr.edges → z.st = .counting ∨ z.st = .reading → y.st = .notRun) ∧
          (worst x.status x.recSt ≠ stOk → gr.halt = true → z.st = .counting ∨ z.st = .reading ∨ z.st = .issued → y.st = .notRun) ∧
          (z.st ≠ .counting → z.st ≠ .reading → z.st ≠ .issued → y.st = z.st)))) ∧
    (x.st = .placed ∨ x.st = .restoring ∨ x.st = .saved ∨ s.faultsFirst x = true → s.taskFault k x ≠ stOk → Answers (.taskTeardown g i) s (fun t =>
      t.task k = some { x with st := .teardown, status := s.taskFault k x } ∧ (∀ j ≠ k, t.task j = s.task j) ∧
      (∀ j, j ∈ t.jig.order ↔ j ∈ s.jig.order ∧ j ≠ k) ∧ (∀ j, j ∈ t.jig.preempt ↔ j ∈ s.jig.preempt ∧ j ≠ k) ∧
      (∀ b, ∀ d < 4, tget s.jig.held b = some k → (s.drawer b d).task = k → (s.drawer b d).st.holds = true →
        t.drawer b d = { s.drawer b d with st := .faulted, fault := some ((s.drawer b d).fault.getD (s.taskFault k x)), load := none }) ∧
      (∀ b, ∀ d < 4, tget s.jig.held b ≠ some k → { t.drawer b d with load := none } = { s.drawer b d with load := none }) ∧
      t = { s with drawers := t.drawers, jig := { s.jig with tasks := t.jig.tasks, order := t.jig.order, preempt := t.jig.preempt, actWait := t.jig.actWait } })) ∧
    (x.st = .teardown →
      (∀ e ∈ s.drawers, e.2.task = k → tget s.jig.held (e.1 / 4) = some k → e.2.st ≠ .empty →
        e.2.st ≠ .loading ∧ s.quiescent (e.1 / 4) (e.1 % 4) = true) →
      Answers (.teardownFinish g i) s (fun t => (∀ b < 32, tget t.jig.held b ≠ some k) ∧ k ∉ t.jig.order ∧ k ∉ t.jig.preempt ∧
        (∀ b < 32, tget s.jig.held b = some k → (t.bay b).frozen = none ∧
          ∀ d < 4, (s.drawer b d).task = k → (s.drawer b d).st ≠ .empty ∨ s.jig.actWait = [] → (t.drawer b d).st = .empty) ∧
        (s.jig.actWait = [] → ∀ b < 32, tget s.jig.held b ≠ some k → ∀ d < 4, t.drawer b d = s.drawer b d)))

/-- RESTORE_RESUME gives back what SAVE_STREAM_END captured (R282). -/
def Obligations.SavedBayGoesOn : Prop :=
  ∀ (s u : State) (bay k slot serial job : Nat) (x : Task), bay < 32 →
    (s.drawers.map (fun e => e.1)).Nodup → (s.sites.map (fun e => e.1)).Nodup → (s.mxc.map (fun e => e.1)).Nodup →
    (s.fnc.map (fun e => e.1)).Nodup → (s.src.map (fun e => e.1)).Nodup → (s.sram.map (fun e => e.1)).Nodup →
    (s.bufs.map (fun e => e.1)).Nodup →
    tget u.jig.held bay = some k → u.task k = some x → x.st = .restoring → slot = x.slots.getD (bay - x.base) 0 →
    tfind u.jig.saves (x.func * 65536 + slot) = some (s.capture bay x.func serial job) → (u.bay bay).frozen.isSome = true →
    let off := tget (s.bay bay).offAt (s.bay bay).active
    let again := fun (v : Nat) => if v < off then v + (u.fclkNow - off) else u.fclkNow
    Answers (.restoreResume bay) u (fun t =>
      (∀ d < 4, t.drawer bay d = s.drawer bay d) ∧
      (∀ site < 120, t.site bay site = { s.site bay site with
        slots := (s.site bay site).slots.map (fun l => if l.ctx == (s.bay bay).active then { l with since := again l.since } else l)
        flipAt := tmap (s.site bay site).flipAt (fun c v => if c == (s.bay bay).active then again v else v) }) ∧
      t.bay bay = { s.bay bay with frozen := none } ∧
      (∀ n, n / 480 = bay → tget t.mxc n = tget s.mxc n ∧ tget t.fnc n = tget s.fnc n ∧ tget t.src n = tget s.src n ∧
        tget t.bufs n = tget s.bufs n) ∧
      (∀ n, n / 32768 / 120 = bay → tget t.sram n = tget s.sram n) ∧
      tfind t.jig.saves (x.func * 65536 + slot) = none ∧
      (x.nb ≤ x.doneBays.length + 1 → t.task k = some { x with
        st := .placed, doneBays := [], ranAt := u.clk.dcount, expired := false }) ∧
      (∀ b ≠ bay, (∀ d < 4, t.drawer b d = u.drawer b d) ∧ (∀ site < 120, t.site b site = u.site b site) ∧ t.bay b = u.bay b) ∧
      SameMemory u t)

/-- INTAKE, SHARD_READY, PLANER_SHARD_START, SHARD_CHECK, SHARD_TIMEOUT and GENERATION_STAGED (R292 to R300). -/
def Obligations.IntakeOfWeights : Prop :=
  ∀ (s : State) (q : Req), InService 103 s → s.recovery = false → s.keyed q.func = true →
    (∀ (slot adapter manifest len base tier prio flags : Nat) (sig : Bool) (bs : List Nat) (s1 : State),
      s.readDev q.func manifest len = (stOk, bs, s1) →
      (parseManifest bs = none → exec (.intake q slot adapter manifest len base tier prio flags sig) s = .next (s1.complete q stProtocol 0)) ∧
      (∀ (mf : Manifest) (st : Nat), parseManifest bs = some mf →
        worst (s.intakeArgs q.func slot adapter base tier prio flags) (s1.intakeStatus q.func slot adapter mf sig) = st →
        (st ≠ stOk → Answers (.intake q slot adapter manifest len base tier prio flags sig) s (fun t =>
          ∃ u : State, t = u.complete q st 0 ∧ u.wgt = s1.wgt ∧ u.tier = s1.tier ∧ u.mem = s1.mem)) ∧
        (st = stOk → sig = true → ∀ (n : Nat) (s3 : State),
          let log := shakeNat (leBytes (tget s1.trust.manifestLog q.func) 64 ++ shake256 bs 64 ++ leBytes slot 2 ++ leBytes adapter 2) 64
          State.createFor q.func base (genTiles mf.total) tier prio s1.candidates.length
            { s1 with trust := { s1.trust with manifestLog := tset s1.trust.manifestLog q.func log } } = (stOk, n, s3) →
          Answers (.intake q slot adapter manifest len base tier prio flags sig) s (fun t => t = { s3 with wgt := t.wgt } ∧
            ∃ (m : Model) (r : GenRec), tfind t.wgt.models (modelKey slot adapter) = some m ∧ m.prio = prio ∧ m.keep = bitOf flags 1 ∧
              m.last = r.gen ∧ (∀ old, tfind s3.wgt.models (modelKey slot adapter) = some old →
                m.recs = old.recs ++ [r] ∧ r.gen = nextGen (old.recs.map (fun x => x.gen)) old.last 5) ∧
              (tfind s3.wgt.models (modelKey slot adapter) = none → m.recs = [r] ∧ r.gen = 1 ∧ m.func = q.func ∧ m.slot = slot ∧
                m.modelId = mf.modelId) ∧
              r.st = .building ∧ r.object = n ∧ r.shards = mf.shards ∧ r.tensors = mf.tensors ∧ r.total = mf.total ∧ r.q = q ∧
              r.waits = true ∧ r.auto = bitOf flags 0 ∧ r.done = [] ∧ r.prio = prio)))) ∧
    (∀ (slot adapter shard addr key : Nat) (m : Model) (r : GenRec), s.heldModel q.func slot adapter = some (key, m) →
      m.recIn .building = some r → shard < r.shards.length → r.done.contains shard = false →
      (addr < 2 ^ 52 → exec (.shardReady q slot adapter shard 0 addr) s = .next ((({ s with wgt := { s.wgt with
        queue := s.wgt.queue ++ [{ key := key, gen := r.gen, shard := shard, host := false, addr := addr, prio := r.prio }] } } : State).wakeDom 62).complete q stOk 0)) ∧
      (s.hostOk q.func addr (r.shards.getD shard (0, 0)).1 = true →
        exec (.shardReady q slot adapter shard 1 addr) s = .next ((({ s with wgt := { s.wgt with
          queue := s.wgt.queue ++ [{ key := key, gen := r.gen, shard := shard, host := true, addr := addr, prio := r.prio }] } } : State).wakeDom 62).complete q stOk 0))) ∧
    (∀ (p : Nat) (data : Option (List Nat)) (j : ShardJob) (m : Model) (r : GenRec) (s0 : State), p < 4 → s.domOn 62 = true →
      s.partUp (84 + p) = true → tget s.wgt.planers p = none → nextShard s.wgt.queue = some j →
      s0 = { s with wgt := { s.wgt with queue := s.wgt.queue.erase j } } → s0.buildOf j = some (m, r) →
      (∀ (st : Nat) (bs : List Nat) (s1 : State), j.host = false →
        s0.readDev m.func j.addr (r.shards.getD j.shard (0, 0)).1 = (st, bs, s1) →
        ∀ (fault : Bool) (u : State), (shardTensors r.tensors j.shard).foldl (State.planeTensor bs m.func (tget s1.tier.objs r.object).base)
          (false, s1.bump 0x3402 (p + 1) bs.length) = (fault, u) →
        exec (.planerShardStart p data) s = .next { u with wgt := { u.wgt with
          planers := tset u.wgt.planers p (some { job := j, data := bs, bad := st != stOk || fault }) } }) ∧
      (∀ (bs : List Nat), j.host = true → data = some bs → bs.length = (r.shards.getD j.shard (0, 0)).1 →
        s0.hostOk m.func j.addr bs.length = true →
        ∀ (fault : Bool) (u : State), (shardTensors r.tensors j.shard).foldl (State.planeTensor bs m.func (tget s.tier.objs r.object).base)
          (false, (s0.emit (.hostRead m.func j.addr bs.length 0)).bump 0x3402 (p + 1) bs.length) = (fault, u) →
        exec (.planerShardStart p data) s = .next { u with wgt := { u.wgt with
          planers := tset u.wgt.planers p (some { job := j, data := bs, bad := fault }) } })) ∧
    (∀ (p : Nat) (x : PlanerJob) (m : Model) (r : GenRec) (s0 : State), p < 4 → tget s.wgt.planers p = some x →
      s0 = { s with wgt := { s.wgt with planers := tset s.wgt.planers p none } } → s0.buildOf x.job = some (m, r) →
      (x.bad = false → shakeNat x.data 64 = (r.shards.getD x.job.shard (0, 0)).2 → r.done.contains x.job.shard = false →
        exec (.shardCheck p) s = .next ((s0.bump 0x3400 1 1).putModel x.job.key (m.putRec { r with
          done := r.done ++ [x.job.shard], since := s.clk.dcount }))) ∧
      (x.bad = true ∨ shakeNat x.data 64 ≠ (r.shards.getD x.job.shard (0, 0)).2 →
        (tget r.refetch x.job.shard < s.obj 0x2E00 1 → exec (.shardCheck p) s = .next
          (((s0.bump 0x3400 2 1).putModel x.job.key (m.putRec { r with
            refetch := tset r.refetch x.job.shard (tget r.refetch x.job.shard + 1) })).notice m.func (some r.q.ring) 0x01 stDigest
            (noticeData m.slot x.job.key r.gen x.job.shard))) ∧
        (s.obj 0x2E00 1 ≤ tget r.refetch x.job.shard →
          exec (.shardCheck p) s = .next ((s0.bump 0x3400 2 1).failGen x.job.key r.gen stDigest)))) ∧
    (∀ (slot adapter : Nat) (m : Model) (r : GenRec), tfind s.wgt.models (modelKey slot adapter) = some m →
      m.recIn .building = some r →
      ((∃ i < r.shards.length, r.done.contains i = false ∧
          (∀ j ∈ s.wgt.queue, j.key = modelKey slot adapter → j.gen = r.gen → j.shard ≠ i) ∧
          (∀ e ∈ s.wgt.planers, ∀ x, e.2 = some x → x.job.key = modelKey slot adapter → x.job.gen = r.gen → x.job.shard ≠ i)) →
        r.since + s.obj 0x2E00 2 * 1000000 ≤ s.clk.dcount →
        exec (.shardTimeout slot adapter) s = .next ((s.bump 0x3400 3 1).failGen (modelKey slot adapter) r.gen stShard)) ∧
      (∀ (o : Obj) (s1 : State), tget s.tier.objs r.object = o → (∀ i < r.shards.length, r.done.contains i = true) →
        s.transStatus m.func o.base (o.tiles * 65536) = stOk → s1 = s.store (o.base + r.total) (digestTable s.mem o.base r.total) →
        (r.waits = true → exec (.generationStaged slot adapter) s = .next ((s1.putModel (modelKey slot adapter) (m.putRec { r with
          st := .staged, waits := false, commit := r.auto })).complete r.q stOk r.gen)) ∧
        (r.waits = false → exec (.generationStaged slot adapter) s = .next (s1.putModel (modelKey slot adapter) (m.putRec { r with
          st := .staged, commit := r.auto })))))

/-- COMMIT, GENERATION_SWITCH, DISCARD, RETIRE, HOLD, RELEASE, SLOT_QUERY and RELEASE_SLOT (R294, R300 to R303, R309). -/
def Obligations.Generations : Prop :=
  ∀ (s : State) (q : Req), InService 103 s → s.recovery = false → s.keyed q.func = true →
    (∀ (slot adapter key : Nat) (m : Model), s.heldModel q.func slot adapter = some (key, m) →
      (∀ (r : GenRec), m.recIn .staged = some r →
        exec (.commit q slot adapter 0) s = .next (s.putModel key (m.putRec { r with
          commit := true, warm := false, commits := r.commits ++ [q] })) ∧
        exec (.commit q slot adapter 1) s = .next ((s.putModel key (m.putRec { r with
          commit := true, warm := true, commits := r.commits ++ [q] })).placeWhole r.object 1)) ∧
      (∀ (r : GenRec), m.recs.find? (fun x => x.st == .building || x.st == .staged) = some r →
        exec (.discard q slot adapter) s = .next ((s.failGen key r.gen stGone).complete q stOk 0)) ∧
      (∀ (r : GenRec), m.recIn .live = some r →
        exec (.retire q slot adapter) s = .next ((s.drainGen key r.gen).complete q stOk 0))) ∧
    (∀ (slot adapter : Nat) (m : Model) (r : GenRec), tfind s.wgt.models (modelKey slot adapter) = some m →
      m.recIn .staged = some r → r.commit = true →
      (r.warm = true → s.allNear r.object = false →
        exec (.generationSwitch slot adapter) s = .next (s.placeWhole r.object 1)) ∧
      ((r.warm = true → s.allNear r.object = true) → (m.recs.map (fun x => x.gen)).Nodup → m.recIn .live = none →
        (∀ x ∈ m.recs, x.st ≠ .cold) →
        Answers (.generationSwitch slot adapter) s (fun t => ∃ m' : Model, ∃ u : State,
          u = (s.putModel (modelKey slot adapter) m').bump 0x3401 (if adapter = 0 then 1 else 2) 1 ∧
          t = r.commits.foldl (fun st c => st.complete c stOk r.gen) u ∧
          m' = { m with recs := m.recs.map (fun x => if x.gen = r.gen then { r with st := .live, commit := false, commits := [] } else x) }))) ∧
    (∀ (slot gen key : Nat) (m : Model), s.heldModel q.func slot 0 = some (key, m) →
      (∀ (r : GenRec), m.recOf gen = some r →
        (r.st = .live → exec (.hold q slot gen) s = .next ((s.putModel key (m.putRec { r with holds := r.holds + 1 })).complete q stOk 0)) ∧
        (r.st ≠ .live → exec (.hold q slot gen) s = .next (s.complete q stGeneration 0)) ∧
        (0 < r.holds → exec (.release q slot gen) s = .next
          (((s.putModel key (m.putRec { r with holds := r.holds - 1 })).reapGen key gen).complete q stOk 0)) ∧
        (r.holds = 0 → exec (.release q slot gen) s = .next (s.complete q stProtocol 0))) ∧
      (m.recOf gen = none → exec (.hold q slot gen) s = .next (s.complete q stGeneration 0))) ∧
    (∀ (slot addr : Nat), slot < 4096 → (∀ m, tfind s.wgt.models slot = some m → m.func = q.func) →
      exec (.slotQuery q slot addr) s = .next ((s.writeDev q.func addr (s.slotRecord slot)).2.complete q
        (s.writeDev q.func addr (s.slotRecord slot)).1 0)) ∧
    (∀ (slot : Nat) (m : Model), tfind s.wgt.models slot = some m → slot < 4096 → m.func = q.func →
      ((∀ e ∈ s.wgt.models, e.2.slot = slot → ∀ r ∈ e.2.recs, r.st = .cold) →
        Answers (.releaseSlot q slot) s (fun t => (∀ e ∈ t.wgt.models, e.2.slot ≠ slot) ∧
          (∀ e, e.2.slot ≠ slot → (e ∈ t.wgt.models ↔ e ∈ s.wgt.models)) ∧ ∃ u : State, t = u.complete q stOk 0)) ∧
      (∀ e ∈ s.wgt.models, ∀ r ∈ e.2.recs, e.2.slot = slot → r.st ≠ .cold →
        exec (.releaseSlot q slot) s = .next (s.complete q stProtocol 0))) ∧
    (∀ (slot adapter flags gen : Nat), tfind s.wgt.models slot = none →
      exec (.commit q slot adapter flags) s = .next (s.complete q stProtocol 0) ∧
      exec (.discard q slot adapter) s = .next (s.complete q stProtocol 0) ∧
      exec (.retire q slot adapter) s = .next (s.complete q stProtocol 0) ∧
      exec (.hold q slot gen) s = .next (s.complete q stProtocol 0) ∧
      exec (.release q slot gen) s = .next (s.complete q stProtocol 0) ∧
      exec (.releaseSlot q slot) s = .next (s.complete q stProtocol 0))

/-- WEIGHT_SCRUB, SLOT_AGEING and EVICTION (R304 to R306). -/
def Obligations.WeightUpkeep : Prop :=
  ∀ (s : State),
    (∀ (p slot adapter gen i st : Nat) (m : Model) (r : GenRec) (o : Obj) (bs : List Nat) (s1 : State), p < 4 →
      s.domOn 62 = true → s.partUp (84 + p) = true → tget s.wgt.planers p = none → s.wgt.queue = [] → s.scrubDue r i = true →
      tfind s.wgt.models (modelKey slot adapter) = some m → m.recOf gen = some r → tget s.tier.objs r.object = o →
      r.st = .staged ∨ r.st = .live ∨ r.st = .draining → i < r.total / 65536 →
      (s.putModel (modelKey slot adapter) (m.putRec (r.scrubbed s.clk.dcount))).readDev m.func (o.base + 65536 * i) 65536 = (st, bs, s1) →
      (st = stOk → shakeNat bs 32 = ofLE (memBytes s.mem (o.base + r.total + 32 * i) 32) →
        exec (.weightScrub p slot adapter gen i) s = .next (s1.bump 0x3402 (p + 1) bs.length)) ∧
      (∀ (u : State), st = stPoison ∨ (st = stOk ∧ shakeNat bs 32 ≠ ofLE (memBytes s.mem (o.base + r.total + 32 * i) 32)) →
        u = (((s1.bump 0x3402 (p + 1) bs.length).bump 0x3401 5 1).logErr (objKey 0x3401 5) stDigest m.func 0xFF (o.base + 65536 * i)).notice
          m.func (some r.q.ring) 0x02 stDigest (noticeData m.slot (modelKey slot adapter) gen 0) →
        (r.st = .live → exec (.weightScrub p slot adapter gen i) s = .next (u.drainGen (modelKey slot adapter) gen)) ∧
        (r.st = .staged → exec (.weightScrub p slot adapter gen i) s = .next (u.failGen (modelKey slot adapter) gen stDigest)) ∧
        (r.st = .draining → exec (.weightScrub p slot adapter gen i) s = .next u))) ∧
    (s.wgt.agedAt + s.obj 0x2E00 5 * 1000000 ≤ s.clk.dcount →
      exec .slotAgeing s = .next { s with wgt := { s.wgt with
        agedAt := s.clk.dcount, models := tmap s.wgt.models (fun _ m => { m with use := m.use / 2 }) } }) ∧
    (∀ (t : Nat) (c : Candidate) (o : Obj) (here : List Nat),
      (t = 1 ∧ s.freeFrames 1 < s.obj 0x2E00 6) ∨ (t = 2 ∧ s.obj 0x2E00 6 ≤ s.freeFrames 1 ∧ s.warmShort = false ∧
        s.tierSt 2 = 1 ∧ s.freeFrames 2 < s.obj 0x2E00 7) →
      firstBy Candidate.before (s.candidates.filter (fun x => 0 < s.objTiles x.r.object t)) = some c →
      tget s.tier.objs c.r.object = o → here = o.keys.filter (fun k => (s.leaf k).home == t) →
      (State.fitsAll c.r.object o.owner o.prio (t + 1) here s = true →
        exec .eviction s = .next ((s.moveWhole c.r.object (t + 1)).bump 0x3401 3 1)) ∧
      (State.fitsAll c.r.object o.owner o.prio (t + 1) here s = false → ∀ (d : Candidate),
        firstBy Candidate.before (s.candidates.filter (fun x => !x.r.keep)) = some d →
        exec .eviction s = .next (s.evictOut d))) ∧
    (s.obj 0x2E00 6 ≤ s.freeFrames 1 → s.warmShort = false → s.obj 0x2E00 7 ≤ s.freeFrames 2 → exec .eviction s = .next s) ∧
    (∀ (l : List Candidate) (c : Candidate), firstBy Candidate.before l = some c → c ∈ l ∧ ∀ d ∈ l,
      c.r.prio > d.r.prio ∨ (c.r.prio = d.r.prio ∧ (c.use < d.use ∨ (c.use = d.use ∧ c.slot ≤ d.slot))))

/-- KVPOOL, SERVE, UNSERVE, ENTRY_QUERY, CANCEL and DEADLINE (R310, R313, R316 to R319, R352). -/
def Obligations.ServingCommands : Prop :=
  ∀ (s : State) (q : Req), InService 100 s → s.recovery = false → s.keyed q.func = true →
    (∀ (n runPages cellTiles runs : Nat) (o : Obj), tfind s.tier.objs n = some o → o.owner = q.func → o.st = .live →
      1 ≤ runPages → runPages ≤ 64 → 1 ≤ cellTiles → cellTiles < o.tiles → runsOf o.tiles cellTiles runPages = runs → runs ≠ 0 →
      ((∀ e ∈ s.srv.entries, e.2.func ≠ q.func) →
        Memory.wf s.mem = true → Answers (.kvpool q n runPages cellTiles) s (fun t => (∃ u : State, t = u.complete q stOk runs) ∧
          (t.kv q.func).object = n ∧ (t.kv q.func).runs = runs ∧ (t.kv q.func).table = [] ∧
          (t.kv q.func).cells = [(0, .inner 0 [])] ∧
          (∀ a, a < o.base ∨ o.base + 65536 * (cellTiles + runTableTiles runs) ≤ a → memGet t.mem a = memGet s.mem a) ∧
          (∀ a, o.base + 256 ≤ a → a < o.base + 65536 * (cellTiles + runTableTiles runs) → memGet t.mem a = 0))) ∧
      (∀ e ∈ s.srv.entries, e.2.func = q.func → exec (.kvpool q n runPages cellTiles) s = .next (s.complete q stResource 0))) ∧
    (∀ (tiles cellTiles runPages n : Nat), 1 ≤ runPages → cellTiles < tiles → runsOf tiles cellTiles runPages = n →
      (n ≠ 0 → cellTiles + runTableTiles n + n * runPages ≤ tiles)) ∧
    (∀ (slot prefill decode verify groups vocab context template area key : Nat) (m : Model),
      s.heldModel q.func slot 0 = some (key, m) → s.handleOf q.func prefill = true → s.handleOf q.func decode = true →
      verify = 0xFFFF ∨ s.handleOf q.func verify = true → 1 ≤ groups → groups ≤ (s.kv q.func).runPages → 1 ≤ vocab → vocab ≤ 2 ^ 20 →
      32 ≤ context → context ≤ 2 ^ 20 → context % 32 = 0 → s.transStatus q.func template 128 = stOk →
      s.transStatus q.func area 262144 = stOk → tfind s.srv.binds slot = none → s.slotBusy slot = false →
      exec (.serve q slot prefill decode verify groups vocab context template area 262144) s = .next
        (({ s with srv := { s.srv with binds := tset (tset s.srv.binds slot { (default : Binding) with
            func := q.func, prefill := prefill, decode := decode, verify := verify, groups := groups, vocab := vocab
            context := context, template := template, area := area, serve := [q], unserve := none }) slot { (default : Binding) with
            func := q.func, prefill := prefill, decode := decode, verify := verify, groups := groups, vocab := vocab
            context := context, template := template, area := area, serve := [], unserve := none } } } : State).complete q stOk 0)) ∧
    (∀ (slot : Nat) (b : Binding), tfind s.srv.binds slot = some b → b.func = q.func → b.unserve = none →
      (b.serve = [] → (∀ e ∈ s.srv.entries, e.2.slot ≠ slot) → Answers (.unserve q slot) s (fun t =>
        tfind t.srv.binds slot = none ∧ (∀ j ≠ slot, tfind t.srv.binds j = tfind s.srv.binds j) ∧ ∃ u : State, t = u.complete q stOk 0)) ∧
      (∀ e ∈ s.srv.entries, e.2.slot = slot → s.slotBusy slot = true →
        exec (.unserve q slot) s = .next { s with srv := { s.srv with binds := tset s.srv.binds slot { b with unserve := some q } } })) ∧
    (∀ (n : Nat) (e : Entry), tfind s.srv.entries n = some e →
      (e.func = q.func →
        (∀ addr, exec (.entryQuery q n addr) s = .next ((s.writeDev q.func addr e.bytes).2.complete q (s.writeDev q.func addr e.bytes).1 0)) ∧
        (e.waits = true → e.late = false → e.cancel = false → e.bad = 0 → exec (.cancel q n) s = .next
          ((s.putEntry n { e with cancel := true, endAt := s.clk.dcount, st := .finishing, code := 4, status := stOk }).complete q stOk 0)) ∧
        (e.st = .prefill ∨ e.st = .decode ∨ e.st = .walking → e.late = false → e.cancel = false → exec (.cancel q n) s = .next
          ((s.putEntry n { e with cancel := true, endAt := s.clk.dcount }).complete q stOk 0))) ∧
      (e.func ≠ q.func → exec (.cancel q n) s = .next (s.complete q stProtocol 0) ∧
        ∀ addr, exec (.entryQuery q n addr) s = .next ((s.windowCause q.func (s.transStatus q.func addr 128)).complete q
          (worst stProtocol (s.transStatus q.func addr 128)) 0)) ∧
      (n < 65536 → e.deadline ≠ 0 → e.admitN + 1000 * e.deadline ≤ s.clk.dcount → e.late = false → e.st ≠ .finishing →
        (e.cancel = false ∨ e.endAt = s.clk.dcount →
          (e.waits = true → e.bad = 0 → exec (.deadline n) s = .next (s.putEntry n { e with
            late := true, endAt := s.clk.dcount, st := .finishing, code := 5, status := stTimeout })) ∧
          (e.waits = false → exec (.deadline n) s = .next (s.putEntry n { e with late := true, endAt := s.clk.dcount }))) ∧
        (e.cancel = true → e.endAt ≠ s.clk.dcount → exec (.deadline n) s = .next s)))

/-- REQUEST, THICKET_LOOKUP, WALK_DONE, PUBLISH, EVICT_LEAF, PURGE and ENTRY_FINISH (R314 to R327). `checkRequest`
gives the status picked among all the conditions a request meets. -/
def Obligations.RequestsAndTheWalk : Prop :=
  ∀ (s : State),
    (∀ (q : Req) (flags desc hs : Nat) (hd hp : List Nat) (r : ReqRead), (s.wakeDom 61).part 100 ≠ 2 → (s.wakeDom 61).part 100 ≠ 3 →
      (s.wakeDom 61).recovery = false → (s.wakeDom 61).keyed q.func = true → (s.wakeDom 61).checkRequest q.func flags desc hs hd hp = r →
      (r.status ≠ stOk → exec (.request q flags desc hs hd hp) s = .next (r.st.refuseReq q r.status (fieldAt r.desc 52 8))) ∧
      (r.status = stOk → ∀ n, r.st.pickNo (r.st.srv.entries.map (fun e => e.1)) 65536 = some n →
        Answers (.request q flags desc hs hd hp) s (fun t => t.srv.order = r.st.srv.order + 1 ∧
          (∀ j ≠ n, tfind t.srv.entries j = tfind r.st.srv.entries j) ∧
          ∃ e, tfind t.srv.entries n = some e ∧ e.st = .walking ∧ e.q = q ∧ e.func = q.func ∧ e.slot = fieldAt r.desc 0 2 ∧
            e.adapter = fieldAt r.desc 4 2 ∧ e.level = max (byteAt r.desc 8 % 8) ((s.wakeDom 61).obj 0x2C31 (q.func + 1)) ∧
            e.noShare = bitOf (byteAt r.desc 9) 0 ∧ e.draft = bitOf (byteAt r.desc 9) 1 ∧ e.deadline = fieldAt r.desc 12 4 ∧
            e.prompt = r.prompt ∧ e.maxNew = fieldAt r.desc 28 4 ∧ e.out = fieldAt r.desc 32 8 ∧ e.outLen = fieldAt r.desc 40 4 ∧
            e.par = r.par ∧ e.len = 0 ∧ e.generated = 0 ∧ e.admitN = (s.wakeDom 61).clk.dcount ∧ e.host = bitOf flags 0 ∧ e.ack = bitOf flags 1 ∧
            (∀ live, r.st.liveRec q.func (fieldAt r.desc 0 2) 0 = some live → e.gen = live.2.gen)))) ∧
    (∀ (n : Nat) (e : Entry), n < 65536 → tfind s.srv.entries n = some e →
      (e.st = .walking → e.noShare = false → e.walkOver = false → e.walkAt < e.walkBlocks → s.walkerTurn 10 n = true →
        let u := s.walkerServed 10 n
        ((s.kv e.func).lookup (e.key e.walkAt) = none →
          exec (.thicketLookup n) s = .next ((u.putEntry n { e with walkOver := true }).bump 0x3411 2 1)) ∧
        (∀ (c g k r pr ch d h sl : Nat) (e1 : Entry) (s2 s3 : State), (s.kv e.func).lookup (e.key e.walkAt) = some c →
          tfind (s.kv e.func).cells c = some (.leaf g k r pr ch d h sl) →
          s2 = (u.putCell e.func c (some (.leaf g k r pr ch d s.clk.dcount sl))).putRun e.func r ((s.kv e.func).run r).1 (((s.kv e.func).run r).2 + 1) →
          s2.appendRun e r = some (e1, s3) →
          exec (.thicketLookup n) s = .next ((s3.putEntry n { e1 with walkAt := e1.walkAt + 1, hits := e1.hits ++ [(c, h, s.clk.dcount)] }).bump 0x3411 1 1))) ∧
      (∀ (e1 : Entry) (rs : List Nat) (s2 : State), e.st = .walking → (e.noShare = true ∨ e.walkOver = true ∨ e.walkBlocks ≤ e.walkAt) →
        e1 = { e with matched := e.walkAt, len := 32 * e.walkAt, pubAt := e.walkAt, hits := [] } → e1.need ≤ (s.kv e.func).freeRuns →
        s.reserveRuns e.func e1.need [] = (rs, s2) → e.ack = false → e.late = false → e.cancel = false → e.bad = 0 →
        Answers (.walkDone n) s (fun t => t = (((s2.bump 0x3410 1 1).countUse e.slot).putEntry n { e1 with
          reserved := rs, st := .waitPrefill, waitAt := t.clk.dcount }) ∧ t.clk = s.clk ∧ rs.length = e1.need)) ∧
      (e.noShare = false → e.pubAt < e.len / 32 → (tfind s.srv.pools e.func).isSome = true → s.walkerTurn 9 n = true → ∀ c, (s.kv e.func).lookup (e.key e.pubAt) = some c →
        exec (.publish n) s = .next (((s.walkerServed 9 n).putEntry n { e with pubAt := e.pubAt + 1 }).bump 0x3411 4 1)) ∧
      (e.st = .finishing → e.posted = true → s.endHeld n e = false →
        Answers (.entryFinish n) s (fun t => tfind t.srv.entries n = none ∧
          ∀ j ≠ n, tfind t.srv.entries j = tfind s.srv.entries j))) ∧
    (∀ (f : Nat) (x : Nat × Cell), f < 64 →
      (∀ (n : Nat) (e : Entry), (n, e) ∈ s.srv.entries → e.func = f → e.st = .walking →
        (s.kv f).freeRuns < cdiv (e.prompt.length + e.maxNew) 32 - e.walkAt →
        s.walkerPorts 9 = [] → s.walkerPorts 10 = [] →
        firstBy (fun (a b : Nat × Cell) => a.2.lastHit < b.2.lastHit) ((s.kv f).removable (fun _ => true)) = some x →
        exec (.evictLeaf f) s = .next ((s.removeLeaf f x.1).bump 0x3411 6 1)) ∧
      (s.walkerPorts 9 = [] → s.walkerPorts 10 = [] → (∀ g < 64, s.wantsEvict g = false ∨ s.evictOne g = none) → firstBy (fun (a b : Nat × Cell) => b.2.depth < a.2.depth) ((s.kv f).removable (fun c => match c with
          | .leaf g _ _ _ _ _ _ sl => s.srv.purge.contains (f, sl, g)
          | _ => false)) = some x → exec (.purge f) s = .next ((s.removeLeaf f x.1).bump 0x3411 7 1)))

/-- The draw of R341 over the weights as exact integers (units of 2^-149), and the order of step 10 of R338. -/
def Obligations.DrawOfAToken : Prop :=
  (∀ (p : Params) (ls : List Machine.Num) (free : Nat), (candidates p ls free).Pairwise (fun a b =>
    weightInt b.2 < weightInt a.2 ∨ (weightInt b.2 = weightInt a.2 ∧ a.1 ≤ b.1))) ∧
  (∀ (cs : List (Nat × Nat)) (u : Nat), u < 2 ^ 64 → 0 < weightSum cs → ∃ (i : Nat) (c : Nat × Nat), cs[i]? = some c ∧
    draw cs u = some c.1 ∧ u * weightSum cs < weightSum (cs.take (i + 1)) * 2 ^ 64 ∧
    ∀ j ≤ i, weightSum (cs.take j) * 2 ^ 64 ≤ u * weightSum cs)

/-- BATCH_CLOSE, BATCH_WAIT_EXPIRY, BATCH_TASK_DONE, PRUNE_ROW and GRAFT_DECISION (R329 to R348). The random choices
are those of R340 and R341; `pruneRow` is the pass of R338. -/
def Obligations.Batches : Prop :=
  ∀ (s : State),
    (∀ (n : Nat) (e : Entry), n < 65536 → tfind s.srv.entries n = some e → s.domOn 61 = true → s.partUp 100 = true → e.waits = true →
      (s.batchFull e = true ∨ (∀ b ∈ s.srv.batches, b.2.hasKey e = false) → exec (.batchClose n) s = .next (s.closeBatch e)) ∧
      (e.waitAt + s.obj 0x2E10 1 * 1000 ≤ s.clk.dcount → (s.waitingLike e).head? = some (n, e) →
        exec (.batchWaitExpiry n) s = .next (s.closeBatch e)) ∧
      (∀ (b : Binding) (t g : Nat) (ms : List BMember) (es : List (Nat × Entry)) (s1 s2 s3 s4 : State) (tpl rows : List Nat),
        tfind s.srv.binds e.slot = some b →
        s.pickNo ((s.srv.batches.filter (fun x => x.2.slot == e.slot)).map (fun x => x.2.table)) 4 = some t →
        s.tick.pickNo (s.jig.graphs.map (fun x => x.1)) 1024 = some g → s.jig.tasks.length < 262144 →
        (s.batchMembers e).foldl (fun (p : (List BMember × List (Nat × Entry)) × State) x => p.2.enrol p.1 x) (([], []), s.ticks 2) = ((ms, es), s1) →
        ms ≠ [] → s2 = es.foldl (fun st (x : Nat × Entry) =>
          st.putEntry x.1 { x.2 with st := if e.phase == .prefill then .prefill else .decode }) (s1.ticks ms.length) →
        rows = ((List.range ms.length).zip (ms.zip es)).flatMap (fun (x : Nat × (BMember × (Nat × Entry))) =>
          tableRow x.2.2.1 x.2.2.2 x.2.1.count (s1.free + x.1)) →
        s2.writeDev e.func (b.area + 65536 * t) rows = (stOk, s3) → s3.readDev e.func b.template 128 = (stOk, tpl, s4) →
        fieldAt tpl 8 8 = 0 →
        (s.closeBatch e).srv.batchNext = s4.srv.batchNext + 1 ∧
        (∃ bt, tfind (s.closeBatch e).srv.batches (s4.srv.batchNext + 1) = some bt ∧ bt.members = ms ∧ bt.func = e.func ∧
          bt.slot = e.slot ∧ bt.gen = e.gen ∧ bt.phase = e.phase ∧ bt.table = t ∧ bt.graph = g ∧ bt.rowsAt = none) ∧
        (∃ x, (s.closeBatch e).task (taskKey g 0) = some x ∧ x.st = .counting ∧ x.func = e.func) ∧
        (∃ gr, tfind (s.closeBatch e).jig.graphs g = some gr ∧ gr.ring = none ∧ gr.tasks = 1 ∧ gr.counted = true))) ∧
    (∀ (k : Nat) (b : Batch) (x : Machine.Task), tfind s.srv.batches k = some b → b.rowsAt = none → s.task (taskKey b.graph 0) = some x →
      (x.st = .done → x.status = stOk → (∀ m ∈ b.members, m.rows ≠ 0) → b.members ≠ [] →
        exec (.batchTaskDone k) s = .next (((s.dropPort b.graph).putSrv { s.srv with batches := tset s.srv.batches k { b with
          rowsAt := some ((x.opnds.getD 14 (0, 0)).1, (x.opnds.getD 15 (0, 0)).1)
          members := b.members.map (fun m => { m with isOver := false }) } }).wakeDom 61)) ∧
      (x.st = .done → x.status ≠ stOk → exec (.batchTaskDone k) s = .next ((b.members.foldl (fun st m =>
        match tfind st.srv.entries m.entry with
        | some e => st.failEntry m.entry e x.status
        | none => st) (s.dropPort b.graph)).putBatch k { b with members := b.members.map (fun m => { m with isOver := true }) }))) ∧
    (∀ (k i base drafts : Nat) (b : Batch) (m : BMember) (e : Entry) (p : Params), tfind s.srv.batches k = some b →
      b.rowsAt = some (base, drafts) → b.members[i]? = some m → m.isOver = false → s.domOn 61 = true →
      tfind s.srv.entries m.entry = some e → params e.par = p →
      (∀ (r : RowRead) (out : Pruned) (s1 s2 : State), m.row < m.rows → m.cands = none → s.partUp (88 + s.prunerOf i) = true →
        s.readRow b.func b.vocab (base + rowStride b.vocab * (m.firstRow + m.row)) p = r →
        s1 = r.st.bump 0x3421 (s.prunerOf i + 1) (cdiv b.vocab 64) →
        pruneRow p r.logits r.mask r.bias (e.history m.accepted p.repWindow) s.free = out →
        s2 = (s1.ticks b.vocab).bump 0x3420 2 out.nans →
        (r.status ≠ stOk → exec (.pruneRow k i) s = .next (s1.memberFails m.entry k i e r.status)) ∧
        (r.status = stOk → out.choice = none → exec (.pruneRow k i) s = .next ((s2.bump 0x3420 3 1).memberFails m.entry k i e stProtocol)) ∧
        (∀ best, r.status = stOk → out.choice = some best → b.phase = .verify → exec (.pruneRow k i) s = .next
          ((s2.bump 0x3420 1 1).putMember k i { m with
            cands := some out.cands, greedy := best, stops := m.stops.take m.row ++ [r.stops] })) ∧
        (∀ best x, r.status = stOk → out.choice = some best → b.phase ≠ .verify →
          x = chooseToken out p.greedy e.seed (e.prompt.length + e.generated) 0 → exec (.pruneRow k i) s = .next
          (State.stepOver ((s2.bump 0x3420 1 1).writeTokens m.entry { e with len := m.start + m.count - 1 } p.eos [(x, r.stops)]) m.entry k i))) ∧
      (∀ (cs : List (Nat × Nat)), m.cands = some cs → b.phase = .verify → s.partUp (96 + i % 8 / 2) = true →
        (m.row = m.count - 1 → exec (.graftDecision k i) s = .next (s.verifyOver k i m e p m.accepted
          (chooseToken { nans := 0, choice := some m.greedy, cands := cs } p.greedy e.seed (m.start + m.row + 1) 0))) ∧
        (∀ (bs : List Nat) (s1 : State), m.row ≠ m.count - 1 → s.readDev b.func (drafts + 64 * i + 4 * m.row) 4 = (stOk, bs, s1) →
          (accepts p m.greedy cs e.seed (m.start + m.row + 1) (fieldAt bs 0 4) = true → exec (.graftDecision k i) s = .next
            (s1.putMember k i { m with row := m.row + 1, cands := none, accepted := m.accepted ++ [fieldAt bs 0 4] })) ∧
          (accepts p m.greedy cs e.seed (m.start + m.row + 1) (fieldAt bs 0 4) = false → exec (.graftDecision k i) s = .next
            (s1.verifyOver k i m e p m.accepted (chooseToken
              { nans := 0, choice := some m.greedy, cands := cs.filter (fun c => c.1 != fieldAt bs 0 4) } p.greedy e.seed (m.start + m.row + 1) 2))))))

/-- SQ_TAIL, CQ_HEAD, RING_ENABLE, RING_DISABLE, RING_STOPPED, RING_ENTRY_READ and SUBMISSION_ENTRY (R366 to R376). -/
def Obligations.Rings : Prop :=
  ∀ (s : State) (f i r : Nat) (x : Ring), s.ring r = x →
    (f < 64 → s.barServed f 0 = true → i < (s.fn f).ringCount → r = (s.fn f).ringFirst + i →
      (∀ (v : Nat), x.st = .running →
        let u := ((s.bump 0x3500 (f + 1) 1).wakeDom 52).wakeDom 63
        (v % 65536 < x.size → exec (.sqTail f i v) s = .next (u.putRing r { x with sqTail := v % 65536 })) ∧
        (x.size ≤ v % 65536 → exec (.sqTail f i v) s = .next (u.ringError r stProtocol))) ∧
      (∀ (v : Nat), x.st = .running ∨ x.st = .stopping →
        (v % 65536 < x.size → (v % 65536 + x.size - x.cqHead) % x.size ≤ (x.cqTail + x.size - x.cqHead) % x.size →
          exec (.cqHead f i v) s = .next (s.putRing r { x with cqHead := v % 65536 })) ∧
        (x.size ≤ v % 65536 ∨ (x.cqTail + x.size - x.cqHead) % x.size < (v % 65536 + x.size - x.cqHead) % x.size →
          exec (.cqHead f i v) s = .next (s.ringError r stProtocol))) ∧
      (∀ (v c st : Nat), x.st = .disabled → s.host.viralHold = false → c = bits (setBit v 0) 39 8 * 256 + bits (setBit v 0) 5 0 →
        s.ringCheck f { x with ctrl := c } = st →
        (st = stOk → Answers (.ringEnable f i v) s (fun t => t.ring r = { x with
          ctrl := c, st := .running, err := 0, sqHead := 0, sqTail := 0, cqTail := 0, cqHead := 0, phase := true, reading := []
          toWrite := [], unsig := 0, unsigAt := none } ∧ (∀ j ≠ r, t.ring j = s.ring j) ∧ t = { s with host := { s.host with rings := t.host.rings } })) ∧
        (st ≠ stOk → Answers (.ringEnable f i v) s (fun t => t = (s.putRing r { x with ctrl := c }).ringError r st ∧
          (t.ring r).st = .error ∧ (t.ring r).err = st))) ∧
      (∀ (v : Nat), bits v 15 8 = bits x.ctrl 15 8 → bits v 5 1 = bits x.ctrl 5 1 →
        (x.st = .running → Answers (.ringDisable f i v) s (fun t => (t.ring r).st = .stopping ∧ (t.ring r).sqHead = x.sqHead ∧
          (t.ring r).sqTail = x.sqTail ∧ (t.ring r).toWrite = x.toWrite ∧ t = { s with host := { s.host with rings := t.host.rings } })) ∧
        (x.st = .error → Answers (.ringDisable f i v) s (fun t => (t.ring r).st = .disabled ∧
          t = { s with host := { s.host with rings := t.host.rings } })))) ∧
    (r < 16384 → x.st = .stopping → s.ringQuiet r = true → exec (.ringStopped r) s = .next (s.putRing r { x with st := .disabled })) ∧
    (∀ (ix : Nat), r < 16384 → s.ringOwner r = some f → x.st = .running → x.held = [] → s.domOn 52 = true →
      ix = (x.sqHead + x.reading.length) % x.size → ix ≠ x.sqTail → s.ringTurn f (r - (s.fn f).ringFirst) = true →
      (s.hostOk f (x.sqBase + 64 * ix) 64 = true → Answers (.ringEntryRead r) s (fun t =>
        (t.ring r).reading = x.reading ++ [s.host.nextTag] ∧ t.host.nextTag = s.host.nextTag + 1 ∧
        (∃ h, t.host.reads = s.host.reads ++ [h] ∧ h.tag = s.host.nextTag ∧ h.func = f ∧ h.ring = r ∧ h.addr = x.sqBase + 64 * ix ∧
          h.since = s.clk.dcount ∧ h.sent = s.hostOpen f) ∧
        t.out = s.out ++ (if s.hostOpen f then [.hostRead f (x.sqBase + 64 * ix) 64 s.host.nextTag] else []))) ∧
      (s.hostOk f (x.sqBase + 64 * ix) 64 = false → exec (.ringEntryRead r) s = .next (({ s with
        arb := tset (tset s.arb 8 ((f + 1) % 64)) (64 + f) ((r - (s.fn f).ringFirst + 1) % 2048) } : State).ringError r stWindow))) ∧
    (∀ (es : List Nat) (tag : Nat) (rest : List Nat) (h : HRead) (s1 : State), r < 16384 → x.reading = tag :: rest →
      s.host.reads.find? (fun h => h.tag == tag) = some h → h.sent = true → h.got = none →
      (∀ g ∈ s.host.reads, g.tag ∈ rest → g.got = none) →
      s1 = { s.putRing r { x with reading := rest } with host := { (s.putRing r { x with reading := rest }).host with
        reads := s.host.reads.filter (fun h => h.tag != tag) } } →
      (byteAt es 0 = 1 ∧ commandOk es = true ∨ byteAt es 0 = 2 ∧ requestOk es = true →
        Answers (.submissionEntry r es) s (fun t =>
          (t.ring r).sqHead = (x.sqHead + 1) % x.size ∧ (t.ring r).inFlight = x.inFlight + 1 ∧
          t.host.cmds = s.host.cmds ++ [{ ring := r, tag := fieldAt es 4 4, func := h.func, entry := (List.range 64).map (byteAt es) }])) ∧
      (byteAt es 0 = 1 → commandOk es = false → exec (.submissionEntry r es) s = .next
        (((s1.putRing r { x with reading := rest, sqHead := (x.sqHead + 1) % x.size }).bump 0x3501 (h.func + 1) 1).queueCpl r
          (cplBytes 1 stProtocol 0 (fieldAt es 4 4) 0 0 0)))) ∧
    (∀ (v : Nat), f < 64 → s.barServed f 0 = true → (s.fn f).ringCount ≤ i →
      exec (.sqTail f i v) s = .next ((s.bump 0x3503 (f + 1) 1).raiseCause f 0 2) ∧
      exec (.cqHead f i v) s = .next ((s.bump 0x3503 (f + 1) 1).raiseCause f 0 2))

/-- COMPLETION_WRITE, CQ_STALL_EXPIRY, COAL_TIME_EXPIRY, MSIX_PENDING_SEND, HOST_READ_RESPONSE, HOST_READ_LIMIT_EXPIRY
and HOST_WRITE_GO (R359, R360, R373 to R377). -/
def Obligations.Completions : Prop :=
  ∀ (s : State) (f r : Nat) (x : Ring), s.ring r = x → s.ringOwner r = some f → r < 16384 →
    (∀ (c : Cpl) (rest : List Cpl) (data : List Nat), x.st = .running ∨ x.st = .stopping → x.toWrite = c :: rest → x.room ≠ 0 →
      s.cplBlocked c.data = false → data = c.data.take 3 ++ [if x.phase then 1 else 0] ++ c.data.drop 4 →
      (s.hostOk f (x.cqBase + 32 * x.cqTail) 32 = true → Answers (.completionWrite r) s (fun t =>
        t.ring r = { x with
          toWrite := rest, cqTail := (x.cqTail + 1) % x.size
          phase := if (x.cqTail + 1) % x.size = 0 then !x.phase else x.phase } ∧
        (∃ w, t.host.writes = s.host.writes ++ [w] ∧ w.tag = s.host.nextTag ∧ w.func = f ∧ w.who = .cpl r ∧
          w.addr = x.cqBase + 32 * x.cqTail ∧ w.data = data ∧ w.since = s.clk.dcount ∧ w.sent = s.hostOpen f) ∧
        t.out = s.out ++ (if s.hostOpen f then [.completion r data] else []) ∧
        t.obj 0x3502 (f + 1) = (s.obj 0x3502 (f + 1) + 1) % 2 ^ 64 ∧ SameMemory s t)) ∧
      (s.hostOk f (x.cqBase + 32 * x.cqTail) 32 = false → exec (.completionWrite r) s = .next (s.ringError r stWindow))) ∧
    (∀ (c : Cpl) (rest : List Cpl), x.held = c :: rest → c.since + s.obj 0x2800 3 * 1000 < s.clk.dcount →
      exec (.cqStallExpiry r) s = .next (s.raiseCause f 0 1)) ∧
    (∀ (t0 : Nat), x.unsigAt = some t0 → t0 + bits x.ctrl 39 24 * 1000 ≤ s.clk.dcount →
      exec (.coalTimeExpiry r) s = .next ((s.putRing r { x with unsig := 0, unsigAt := none }).raiseVector f (bits x.ctrl 15 8))) ∧
    (∀ (v : Nat), f < 64 → v < 256 → tget s.host.pba (f * 256 + v) = true → tget s.host.msixEn f = true →
      tget s.host.fnMask f = false → (tgetD s.host.msix (f * 256 + v) {}).masked = false →
      exec (.msixPendingSend f v) s = .next { s with
        host := { s.host with pba := tset s.host.pba (f * 256 + v) false }, out := s.out ++ [.msix f v] }) ∧
    (∀ (tag : Nat) (data : List Nat) (h : HRead), s.host.reads.find? (fun h => h.tag == tag && h.sent && h.got.isNone) = some h → h.ring = r →
      exec (.hostReadResponse tag false data) s = .next (s.ringError r stPoison) ∧
      exec (.hostReadResponse tag true data) s = .next (s.entryBack r tag data)) ∧
    (∀ (tag : Nat) (h : HRead), s.host.reads.find? (fun h => h.tag == tag && h.got.isNone && s.readLate h.since) = some h → h.ring = r →
      exec (.hostReadLimitExpiry tag) s = .next (s.ringError r stTimeout)) ∧
    (∀ (tag : Nat) (w : HWrite) (rest : List HWrite) (s1 : State), s1 = { s with host := { s.host with writes := rest } } →
      ((∀ h ∈ s.host.reads, h.tag ≠ tag) → takeFirst (fun (w : HWrite) => w.tag == tag && s.readLate w.since) s.host.writes = some (w, rest) →
        exec (.hostReadLimitExpiry tag) s = .next (s1.writeFails w stTimeout)) ∧
      (takeFirst (fun (w : HWrite) => w.tag == tag && w.sent) s.host.writes = some (w, rest) →
        exec (.hostWriteGo tag false) s = .next (s1.writeFails w stPoison) ∧
        (∀ q, w.who = .cmd q → exec (.hostWriteGo tag true) s = .next (s1.complete q stOk 0)) ∧
        (∀ n, w.who = .token n → exec (.hostWriteGo tag true) s = .next s1) ∧
        (w.who = .cpl r → (bits x.ctrl 23 16 ≤ x.unsig + 1 ∨ bits x.ctrl 39 24 = 0) →
          exec (.hostWriteGo tag true) s = .next ((s1.putRing r { x with unsig := x.unsig + 1, unsigAt := some (x.unsigAt.getD s.clk.dcount) }).signal r)) ∧
        (w.who = .cpl r → x.unsig + 1 < bits x.ctrl 23 16 → bits x.ctrl 39 24 ≠ 0 →
          exec (.hostWriteGo tag true) s = .next (s1.putRing r { x with unsig := x.unsig + 1, unsigAt := some (x.unsigAt.getD s.clk.dcount) }))))

/-- RING_RANGE_WRITE, VECTORS_WRITE, HDM_WINDOW_WRITE, HDM_INVALIDATE_DONE, CAUSE_WRITE, REGISTER_WRITE,
UNSUPPORTED_REQUEST, CONFIGURATION_REQUEST and BUS_MASTER_CLEAR (R354 to R382, R521). -/
def Obligations.FunctionControl : Prop :=
  ∀ (s : State),
    (∀ (f : Nat), f < 64 → s.barServed 0 0 = true → tget s.trust.locked f = false →
      (∀ (first count : Nat),
        (s.ringRangeOk f first count = true → exec (.ringRangeWrite f first count) s = .next { s with host := { s.host with
          fns := tset s.host.fns f { s.fn f with ringFirst := first, ringCount := count } } }) ∧
        (s.ringRangeOk f first count = false →
          exec (.ringRangeWrite f first count) s = .next (s.logErr hostPortObject stProtocol f 0 (first + count * 65536)))) ∧
      (∀ (v : Nat),
        (s.vectorsOk f v = true → exec (.vectorsWrite f v) s = .next { s with host := { s.host with
          fns := tset s.host.fns f { s.fn f with vectors := v } } }) ∧
        (s.vectorsOk f v = false → exec (.vectorsWrite f v) s = .next (s.logErr hostPortObject stProtocol f 0 v)))) ∧
    (∀ (w len : Nat) (e : HdmWin), w < 256 → s.barServed 0 0 = true → tget s.host.wins w = e →
      tget s.trust.locked e.reg.func = false → e.now.len = 0 →
      (s.winOk w { e.reg with len := len } = true → Answers (.hdmWindowWrite w len) s (fun t =>
        tget t.host.wins w = { e with reg := { e.reg with len := len }, next := some { e.reg with len := len } } ∧
        t = { s with host := { s.host with wins := t.host.wins, snoop := t.host.snoop } })) ∧
      (s.winOk w { e.reg with len := len } = false → Answers (.hdmWindowWrite w len) s (fun t =>
        tget t.host.wins w = { e with reg := { e.reg with len := 0 }, next := some { e.reg with len := 0 } } ∧ t.log.count = (s.log.count + 1) % 65536))) ∧
    (∀ (w : Nat) (e : HdmWin) (m : HdmMap), w < 256 → tget s.host.wins w = e → e.next = some m → s.winLines w = [] →
      (∀ l ∈ s.host.bi, e.now.len = 0 ∨ l < e.now.dev / 64 ∨ (e.now.dev + e.now.len) / 64 ≤ l) →
      exec (.hdmInvalidateDone w) s = .next (({ s with host := { s.host with
        wins := tset s.host.wins w { e with now := m, next := none } } } : State).serveWaits)) ∧
    (∀ (f g v : Nat), 1 ≤ f → f < 64 → s.barServed f 0 = true → g < 4 →
      exec (.causeWrite f g v) s = .next { s with host := { s.host with
        cause := tset s.host.cause (f * 16 + g) (andNot (tget s.host.cause (f * 16 + g)) v) } }) ∧
    (∀ (f bar off len n : Nat) (v : Verdict),
      (s.barServed f bar = false ∨ barSize f bar < off + len →
        exec (.registerWrite f bar off len (some n) v) s = .next { s with
          out := s.out ++ [.cxl "UR" [f, bar]], host := { s.host with aer := s.host.aer + 1 } } ∧
        exec (.registerWrite f bar off len none v) s = .next { s with
          out := s.out ++ [.cxl "UR" [f, bar], .mmio f bar off (2 ^ (8 * len) - 1)], host := { s.host with aer := s.host.aer + 1 } }) ∧
      (s.barServed f bar = false → exec (.unsupportedRequest f bar) s = .next { s with
        out := s.out ++ [.cxl "UR" [f, bar]], host := { s.host with aer := s.host.aer + 1 } }) ∧
      (s.barServed f bar = true → off + len ≤ barSize f bar → len ≠ 8 ∨ off % 8 ≠ 0 →
        exec (.registerWrite f bar off len (some n) v) s = .next ((s.bump 0x3503 (f + 1) 1).raiseCause f 0 2) ∧
        exec (.registerWrite f bar off len none v) s = .next (((s.bump 0x3503 (f + 1) 1).raiseCause f 0 2).emit (.mmio f bar off 0))) ∧
      (s.barServed f bar = true → off + len ≤ barSize f bar → len = 8 → off % 8 = 0 →
        exec (.registerWrite f bar off len none v) s =
          .next ((s.readReg f bar off).2.emit (.mmio f bar off (s.readReg f bar off).1)))) ∧
    (∀ (f n : Nat) (v : Verdict), 1 ≤ f → f < 64 → s.barServed f 0 = true → n < 2 ^ 64 →
      exec (.registerWrite f 0 8 8 (some n) v) s = .next { s with host := { s.host with ssrVec := tset s.host.ssrVec f (n % 512) } } ∧
      exec (.registerWrite f 0 0x18 8 (some n) v) s = .next { s with host := { s.host with fdb := tset s.host.fdb f (andNot (tget s.host.fdb f) n) } } ∧
      exec (.registerWrite f 0 0x108 8 (some n) v) s = .next { s with host := { s.host with mask := tset s.host.mask (f * 16) (n &&& 7) } } ∧
      (∀ i, i < (s.fn f).ringCount → i < 2048 → (s.ring ((s.fn f).ringFirst + i)).st = .disabled →
        (s.ring ((s.fn f).ringFirst + i)).sqBase ≠ n / 4096 * 4096 →
        exec (.registerWrite f 0 (0x100040 + 0x1000 * i) 8 (some n) v) s = .next (s.putRing ((s.fn f).ringFirst + i)
          { s.ring ((s.fn f).ringFirst + i) with sqBase := n / 4096 * 4096 }))) ∧
    (∀ (f a n : Nat) (v : Verdict), f < 64 → a < 8 → s.barServed 0 0 = true → tget s.trust.locked f = false → n < 2 ^ 64 →
      exec (.registerWrite 0 0 (0x1100000 + 256 * f + 16 + 16 * a) 8 (some n) v) s = .next { s with host := { s.host with
        fns := tset s.host.fns f { s.fn f with aps := tset (s.fn f).aps a ((tget (s.fn f).aps a).1, n / 4096 * 4096) } } }) ∧
    (∀ (f k n : Nat) (v : Verdict), f < 64 → k < 256 → s.barServed f 4 = true → n < 2 ^ 64 →
      exec (.registerWrite f 4 (16 * k) 8 (some n) v) s = .next { s with host := { s.host with
        msix := tset s.host.msix (f * 256 + k) { tgetD s.host.msix (f * 256 + k) {} with addr := n } } } ∧
      exec (.registerWrite f 4 (16 * k + 8) 8 (some n) v) s = .next { s with host := { s.host with
        msix := tset s.host.msix (f * 256 + k) { tgetD s.host.msix (f * 256 + k) {} with data := n % 2 ^ 32, masked := bitOf n 32 } } }) ∧
    (∀ (f v : Nat) (r : CfgReg) (w : Option Nat), f < 64 →
      (s.host.linkUp = true → s.clk.phase = .starting →
        exec (.configurationRequest f r w) s = .next { s with out := s.out ++ [.cxl "RetryStatus" [f]] }) ∧
      (s.host.linkUp = true → s.clk.phase ≠ .starting → s.fnExists f = true →
        exec (.configurationRequest f .msix (some v)) s = .next { s with
          host := { s.host with msixEn := tset s.host.msixEn f (bitOf v 15), fnMask := tset s.host.fnMask f (bitOf v 14) }
          out := s.out ++ [.cxl "Cpl" [f]] } ∧
        exec (.configurationRequest f .command (some v)) s = .next ((({ s with host := { s.host with
          memEn := tset s.host.memEn f (bitOf v 1), busM := tset s.host.busM f (bitOf v 2) } } : State).flushHost).emit (.cxl "Cpl" [f]))) ∧
      exec (.busMasterClear f) s = .next { s with host := { s.host with busM := tset s.host.busM f false } })

/-- HOST_MEM_READ, HOST_MEM_WRITE, BIRSP, HOST_SNOOP, HOST_LINK_TRAINED, HOST_LINK_DOWN, VF_ENABLE_CHANGE, FLR, VIRAL
and CONVENTIONAL_RESET (R354 to R365, R381). -/
def Obligations.HostAccessesAndResets : Prop :=
  ∀ (s : State),
    (∀ (dpa tag addr : Nat) (tee cache : Bool) (win : HdmMap), s.portUp = true → s.windowOf dpa = some win →
      addr = win.dev + (dpa - win.dpa) → (bitOf win.flags 1 = true → tee = true) → s.transStatus win.func addr 64 = stOk →
      (∀ (s2 s3 : State) (bad : List Nat), (s.leaf (tileOf addr)).moving = false → s.tierBusy addr 64 = false →
        s.host.bi.contains (addr / 64) = false →
        State.readWords ((s.touch addr 64).sickIn addr 64) (s.touch addr 64) = (bad, s2) →
        s3 = (s2.bump 0x3300 (s.leaf (tileOf addr)).home 64).emit (.hostData tag false (memBytes s2.mem addr 64)) →
        (bad = [] → exec (.hostMemRead dpa tee false tag) s = .next s3 ∧
          exec (.hostMemRead dpa tee true tag) s = .next (s3.cacheLine (addr / 64))) ∧
        (bad ≠ [] → exec (.hostMemRead dpa tee cache tag) s =
          .next (((s2.bump 0x3504 2 1).raiseCause win.func 1 1).emit (.hostData tag true [])))) ∧
      (∀ (s1 : State), s1 = s.wakeTiers addr 64 →
        (s.leaf (tileOf addr)).moving = true ∨ s.host.bi.contains (addr / 64) = true ∨ s.tierBusy addr 64 = true →
        exec (.hostMemRead dpa tee cache tag) s = .next { s1 with host := { s1.host with
          waits := s1.host.waits ++ [{ dpa, write := false, tee, cache, tag, data := [], since := s.clk.dcount, onMove := (s.leaf (tileOf addr)).moving }] } }) ∧
      (∀ (data : List Nat), (s.leaf (tileOf addr)).moving = false → s.tierBusy addr 64 = false → addr % 32 = 0 →
        bitOf win.flags 0 = true → data.length = 64 → (∀ b ∈ data, b < 256) → Memory.wf s.mem = true →
        Answers (.hostMemWrite dpa data tee tag) s (fun t => memBytes t.mem addr 64 = data ∧
          (∀ a, a < addr ∨ addr + 64 ≤ a → memGet t.mem a = memGet s.mem a) ∧ t.out = s.out ++ [.cxl "Cmp" [tag]] ∧ Memory.wf t.mem = true))) ∧
    (∀ (dpa tag : Nat) (tee cache : Bool) (data : List Nat), s.portUp = true →
      (s.windowOf dpa = none → exec (.hostMemRead dpa tee cache tag) s = .next
        (((s.bump 0x3504 1 1).raiseCause 0 1 0).emit (.hostData tag true []))) ∧
      (∀ win, s.windowOf dpa = some win → bitOf win.flags 0 = false → exec (.hostMemWrite dpa data tee tag) s = .next
        (((s.bump 0x3504 1 1).raiseCause win.func 1 0).emit (.cxl "Cmp" [tag]))) ∧
      exec (.hostSnoop dpa) s = .next { s with out := s.out ++ [.cxl "RspIHitI" [dpa]] }) ∧
    (∀ (l : Nat), s.host.waits = [] → exec (.birsp l) s = .next { s with host := { s.host with bi := s.host.bi.filter (· != l), waits := [] } }) ∧
    (∀ (rate width : Nat), s.clk.phase ≠ .off → 64 ≤ rate → 16 ≤ width → s.host.reads = [] → s.host.writes = [] →
      exec (.hostLinkTrained rate width) s = .next (({ s with host := { s.host with
        linkUp := true, rate := rate, width := width } } : State).putObj 0x2800 1 (rate % 256 * 256 + width % 256))) ∧
    (∀ (f : Nat), f < 64 → s.fnExists f = true → f ≠ 0 → Answers (.flr f) s (fun t =>
      (∀ i < (s.fn f).ringCount, (t.ring ((s.fn f).ringFirst + i)).st = .disabled ∧ (t.ring ((s.fn f).ringFirst + i)).ctrl = 8) ∧
      (∀ g < 16, tget t.host.cause (f * 16 + g) = 0 ∧ tget t.host.mask (f * 16 + g) = 0) ∧
      tget t.host.memEn f = false ∧ tget t.host.busM f = false ∧ tget t.host.msixEn f = false ∧ tget t.host.ssrVec f = 0 ∧
      (∀ h ∈ t.host.reads, h.func ≠ f) ∧ (∀ w ∈ t.host.writes, w.func ≠ f) ∧ (∀ c ∈ t.host.cmds, c.func ≠ f) ∧
      (∀ e ∈ t.srv.entries, e.2.func ≠ f))) ∧
    (∀ (n : Nat), s.host.linkUp = true → s.serving = true → s.host.vfEn = false →
      exec (.vfEnableChange true n) s = .next { s with host := { s.host with vfEn := true, numVf := n % 65536 } }) ∧
    exec .viral s = .next (({ s.flr 0 with host := { (s.flr 0).host with viralHold := true } } : State).raiseCause 0 8 2) ∧
    exec .conventionalReset s = .next { s.flr 0 with host := { (s.flr 0).host with viralHold := false } } ∧
    (s.host.linkUp = true → exec .hostLinkDown s = .next (({ s.flr 0 with host := { (s.flr 0).host with linkUp := false } } : State).raiseCause 0 8 1))

/-- KEY_LOAD, KEY_ROLL_DONE, TENANT_END, DEBUG_NONCE, DEBUG_UNLOCK, SPDM_REQUEST, MEASUREMENTS, TSP_LOCK and TSP_UNLOCK
(R388 to R407). -/
def Obligations.Escutcheon : Prop :=
  ∀ (s : State) (q : Req), InService 104 s →
    (∀ (addr len hs st : Nat) (b p : List Nat) (tag : Bool), q.func < 64 → s.keyLoadStatus q addr len hs b tag p = st →
      (st = stOk → s.zeroedNow q.func = false → tget s.trust.keys q.func = none → Answers (.keyLoad q addr len hs b tag p) s (fun t =>
        tget t.trust.keys q.func = some (keySetOf p (fieldAt b 8 4)) ∧ t.epochOf q.func = fieldAt b 8 4 ∧
        fieldAt b 8 4 = (s.epochOf q.func + 1) % 2 ^ 32 ∧ tget t.trust.layoutLog q.func = 0 ∧ tget t.trust.manifestLog q.func = 0 ∧
        t.rolling q.func = s.rolling q.func ∧ ∃ u : State, t = u.complete q stOk (fieldAt b 8 4))) ∧
      (st = stOk → s.zeroedNow q.func = false → ∀ o, tget s.trust.keys q.func = some o → Answers (.keyLoad q addr len hs b tag p) s (fun t =>
        tget t.trust.keys q.func = some (keySetOf p (fieldAt b 8 4)) ∧ t.rolling q.func = true ∧ tget t.trust.rollCmd q.func = some q ∧
        tget t.trust.old q.func = some o)) ∧
      (st = stOk → s.zeroedNow q.func = true → exec (.keyLoad q addr len hs b tag p) s = .next
        (({ s with trust := { s.trust with epoch := tset s.trust.epoch q.func (fieldAt b 8 4) } } : State).complete q stGone 0)) ∧
      (st = stDigest → exec (.keyLoad q addr len hs b tag p) s = .next ((s.bump 0x3600 2 1).complete q stDigest 0)) ∧
      (st ≠ stOk → Answers (.keyLoad q addr len hs b tag p) s (fun t => t.trust = s.trust))) ∧
    (∀ (f : Nat) (tagBad : List Nat), f < 64 → tget s.trust.rollCmd f = some q → s.recalibrating = false →
      (s.tier.poison = [] → s.code.bad = [] → s.code.flips = [] → exec (.keyRollDone f []) s = .next (({ s with trust := { s.trust with
        old := tset s.trust.old f none, rollCmd := tset s.trust.rollCmd f none } } : State).complete q stOk (s.epochOf f))) ∧
      (∀ u : State, u = s.rollWords f tagBad → tget u.trust.rollCmd f = some q → exec (.keyRollDone f tagBad) s = .next
        (({ u with trust := { u.trust with
          old := tset u.trust.old f none, rollCmd := tset u.trust.rollCmd f none } } : State).complete q stOk (u.epochOf f)))) ∧
    (∀ (f : Nat), 1 ≤ f → f < 64 →
      (q.func = 0 → (s.tier.objs.map (fun e => e.1)).Nodup → Answers (.tenantEnd q f) s (fun t => tget t.trust.keys f = none ∧ tget t.trust.locked f = false ∧
        tget t.trust.layoutLog f = 0 ∧ tget t.trust.manifestLog f = 0 ∧ t.epochOf f = s.epochOf f ∧
        (∀ e ∈ t.wgt.models, e.2.func ≠ f) ∧ (∀ n o, tfind t.tier.objs n = some o → o.owner = f → o.st ≠ .live ∧ o.st ≠ .damaged))) ∧
      (q.func ≠ 0 → exec (.tenantEnd q f) s = .next (s.complete q stProtocol 0))) ∧
    (∀ (addr : Nat),
      (q.func = 0 → addr % 32 = 0 → s.hostOk 0 addr 32 = true → ∀ n, (Config.freePayload s.free).toNat = n →
        Answers (.debugNonce q addr) s (fun t => t.trust = { s.trust with nonces := s.trust.nonces ++ [n] } ∧
          ∃ w, t.host.writes = s.host.writes ++ [w] ∧ w.who = .cmd q ∧ w.addr = addr ∧ w.data = leBytes n 32)) ∧
      (s.hostOk 0 addr 32 = false →
        exec (.debugNonce q addr) s = .next ((s.raiseCause q.func 1 0).complete q stWindow 0)) ∧
      (q.func ≠ 0 → s.hostOk 0 addr 32 = true → exec (.debugNonce q addr) s = .next (s.complete q stProtocol 0))) ∧
    (∀ (addr serial nonce scope : Nat) (sig : Bool), q.func = 0 → s.transStatus 0 addr 1 = stOk →
      (serial = s.trust.serial → nonce ∈ s.trust.nonces → sig = true → Answers (.debugUnlock q addr serial nonce scope sig) s (fun t =>
        t.trust.opened = true ∧ t.trust.scope = scope ∧ t.trust.provKeys = false ∧ (∀ f < 64, tget t.trust.keys f = none) ∧
        t.trust.nonces = s.trust.nonces.erase nonce ∧ t.tier.objs = [] ∧ t.drawers = [] ∧ t.sram = [] ∧ t.mem = [])) ∧
      (serial ≠ s.trust.serial ∨ nonce ∉ s.trust.nonces → exec (.debugUnlock q addr serial nonce scope sig) s = .next (s.complete q stProtocol 0)) ∧
      (serial = s.trust.serial → nonce ∈ s.trust.nonces → sig = false →
        exec (.debugUnlock q addr serial nonce scope sig) s = .next (s.complete q stDigest 0))) ∧
    (∀ (f nonce : Nat) (m : SpdmMsg) (ses : Option Nat), f < 64 → s.mailbox f = true →
      (s.trust.noId = true → exec (.spdmRequest f 0x13 m) s = .next (s.spdm f "ERROR" []) ∧
        exec (.measurements f ses nonce) s = .next (s.spdm f "ERROR" [])) ∧
      (s.trust.noId = false →
        (exec (.spdmRequest f 0x13 m) s = .next (s.spdmAnswer f m)) ∧
        (exec (.spdmRequest f 0x10 .version) s = .next (s.spdm f "VERSION" [0x12, 0x13])) ∧
        (∀ n, s.hasSession f n = true → Answers (.spdmRequest f 0x12 (.endSession n)) s (fun t => t.hasSession f n = false)) ∧
        (exec (.measurements f none nonce) s = .next (s.spdm f "MEASUREMENTS" (nonce :: (s.quote f false).flatMap (fun b => b.1 :: b.2)))) ∧
        (∀ n, s.hasSession f n = true → exec (.measurements f (some n) nonce) s = .next
          (s.spdm f "MEASUREMENTS" (nonce :: (s.quote f true).flatMap (fun b => b.1 :: b.2)))))) ∧
    (∀ (f : Nat), f < 64 →
      (1 ≤ f → s.mailbox f = true → s.keyed f = true → exec (.tspLock f) s = .next { s with trust := { s.trust with
        locked := tset s.trust.locked f true } }) ∧
      exec (.tspUnlock f) s = .next { s with trust := { s.trust with locked := tset s.trust.locked f false } })

/-- FRAME_TRANSMIT, FRAME_RECEIVE, ACK_TIMEOUT, LANE_LOCK_LOSS, SWAP and LINK_MAINT_SWAP (R414 to R418, R434). -/
def Obligations.LinkFrames : Prop :=
  ∀ (s : State) (l : Nat) (x : Link), l < 32 → s.lnk l = x →
    ((∀ a ∈ s.tier.accs, a.st ≠ .done) →
      (∀ (f : Frame) (rest : List Frame), x.st = .up → x.replay = f :: rest → exec (.frameTransmit l) s = .next
        ((s.emitFrame l x f true).putLnk l { x.sent with replay := rest, ackAt := s.clk.dcount })) ∧
      (∀ (x1 : Link), x.st = .up → x.replay = [] → x.held.length < 128 → x.fcount - x.keyCount < 2 ^ 36 → x.newKey = false →
        x.fill 15 = x1 → x1.newKey = false → Answers (.frameTransmit l) s (fun t =>
          let f : Frame := { fseq := x1.fseq, phase := x1.phase, segs := x1.txSegs.take 15, since := s.clk.dcount }
          (t.lnk l).held = x1.held ++ [f] ∧ (t.lnk l).fseq = (x1.fseq + 1) % 4096 ∧ (t.lnk l).fcount = x1.fcount + 1 ∧
          (t.lnk l).nak = false ∧ (t.lnk l).outq = x1.outq ∧ (t.lnk l).txSegs = x1.txSegs.drop 15 ∧ t.out = (s.emitFrame l x1 f false).out ∧
          ∀ j ≠ l, t.lnk j = s.lnk j)) ∧
      (x.st = .up → x.replay = [] → 128 ≤ x.held.length → exec (.frameTransmit l) s = .next s) ∧
      (x.st = .sleep → x.outq ≠ [] → exec (.frameTransmit l) s = .next
        (((s.putLnk l { x with st := .waking }).emit (.link l "WAKE" [])).wakeDom (53 + l / 4)))) ∧
    (∀ (f : RxFrame), x.st = .up → f.corr = [] →
      (f.hdrOk = false → exec (.frameReceive l f) s = .next ((s.putLnk l { x with wait := none, nak := true, dropping := true }).bump 0x3611 (l + 1) 1)) ∧
      (f.hdrOk = true → f.rsvOk = false → exec (.frameReceive l f) s = .next ((s.linkViolation l).mapOut l)) ∧
      (∀ (y : Link) (s2 u : State), f.hdrOk = true → f.rsvOk = true → s.takeHeader l f = s2 → s2.lnk l = y → y.st = .up →
        u = s2.putLnk l { y with dropping := false } →
        (y.wait = none → f.fseq = y.expect → f.segsOk = true → exec (.frameReceive l f) s = .next (u.putLnk l { y with
          dropping := false, wait := some { fseq := f.fseq, phase := f.phase, segs := f.segs, since := s2.clk.dcount } })) ∧
        (∀ (w : Frame) (s3 : State), y.wait = some w → f.fseq = (w.fseq + 1) % 4096 → f.ptagOk = true → u.acceptFrame l w = s3 →
          (s3.lnk l).st = .up → f.segsOk = true → exec (.frameReceive l f) s = .next (s3.putLnk l { s3.lnk l with
            wait := some { fseq := f.fseq, phase := f.phase, segs := f.segs, since := s2.clk.dcount } })) ∧
        (∀ w, y.wait = some w → f.fseq = (w.fseq + 1) % 4096 → f.ptagOk = false → exec (.frameReceive l f) s = .next (u.badPtag l)) ∧
        (y.wait = none → y.dropping = true → f.fseq ≠ y.expect → f.replay = false → exec (.frameReceive l f) s = .next s2) ∧
        (y.wait = none → y.dropping = false → f.fseq ≠ y.expect → f.replay = false → exec (.frameReceive l f) s = .next
          ((s2.putLnk l { y with nak := true, wait := none, dropping := true }).linkViolation l)))) ∧
    (x.st = .up → x.held ≠ [] → x.ackAt + 2000 ≤ s.clk.dcount →
      (x.retries < s.obj 0x2600 4 → exec (.ackTimeout l) s = .next (s.putLnk l { x with
        replay := x.held, retries := x.retries + 1, ackAt := s.clk.dcount })) ∧
      (s.obj 0x2600 4 ≤ x.retries → exec (.ackTimeout l) s = .next (s.mapOut l))) ∧
    (∀ (lane : Nat), lane < 5 →
      (x.st = .up ∨ x.st = .sleep → lane ≠ 4 → x.rxSwap = none → exec (.laneLockLoss l lane) s = .next
        (((s.putLnk l { x with rxSwap := some lane }).emit (.link l "SWAP" [lane])).raiseCause 0 10 1)) ∧
      (∀ k, x.st = .up ∨ x.st = .sleep → x.rxSwap = some k → k ≠ lane → exec (.laneLockLoss l lane) s = .next (s.mapOut l)) ∧
      (x.st = .up → x.rxSwap = none → exec (.linkMaintSwap l lane) s = .next
        (((s.putLnk l { x with rxSwap := some lane }).emit (.link l "SWAP" [lane])).raiseCause 0 10 1)) ∧
      (x.st = .up → x.txSwap = none → exec (.swap l lane false) s = .next ((s.putLnk l { x with txSwap := some lane }).raiseCause 0 10 1) ∧
        exec (.swap l lane true) s = .next (((s.putLnk l { x with txSwap := some lane }).raiseCause 0 10 1).emit (.link l "SLEEP_REFUSED" []))))

/-- The second spare of a direction (R435), at LANE_LOCK_LOSS, LINK_MAINT_SWAP and SWAP. -/
def Obligations.SecondSpare : Prop :=
  ∀ (s : State) (l lane first : Nat) (sleep : Bool), l < 32 → lane < 5 → (s.lnk l).st = .up →
    let out := fun (c : Instr) => Answers c s (fun t => (t.lnk l).st = .mappedOut ∧ bitOf (t.obj 0x2601 1) l = true)
    ((s.lnk l).rxSwap = some first → lane ≠ first → out (.laneLockLoss l lane)) ∧
    ((s.lnk l).rxSwap = some first → out (.linkMaintSwap l lane)) ∧
    ((s.lnk l).txSwap = some first → out (.swap l lane sleep))

/-- LINK_READ, LINK_WRITE, LINK_ATOMIC, LINK_CLAIM, LINK_TOKENS, LINK_DOORBELL, LINK_RESP, MESSAGE_FORWARD and
LINK_REQ_EXPIRY (R422 to R431). -/
def Obligations.LinkMessages : Prop :=
  ∀ (s : State) (l : Nat), l < 32 →
    (∀ (m : Msg) (s1 : State) (n : Nat), n = m.arg % 2 ^ 13 → s.takeMsg l 1 = some (m, s1) →
      (s1.tenantOk m = true → n % 32 = 0 → 32 ≤ n → n ≤ 4096 → exec (.linkRead l) s = .next (s1.serveMsg l m m.addr n false [])) ∧
      (s1.tenantOk m = false → exec (.linkRead l) s = .next (s1.respond m stWindow 0 [])) ∧
      (s1.tenantOk m = true → n % 32 ≠ 0 → exec (.linkRead l) s = .next (s1.respond m stProtocol 0 []))) ∧
    (∀ (m : Msg) (s1 : State) (n : Nat), n = m.arg % 2 ^ 13 → s.takeMsg l 2 = some (m, s1) →
      (s1.tenantOk m = true → 1 ≤ n → n ≤ 4096 → m.len = cdiv n 32 → bits m.arg 44 13 = 0 →
        exec (.linkWrite l) s = .next (s1.serveMsg l m m.addr n true (m.data.take n))) ∧
      (s1.tenantOk m = false → exec (.linkWrite l) s = .next (s1.respond m stWindow 0 []))) ∧
    (∀ (m : Msg) (s0 s1 s2 s3 : State) (op n old w : Nat) (bs : List Nat), s.takeMsg l 3 = some (m, s0) → op = m.arg % 16 → op < 4 →
      n = (if op = 0 then 4 else 8) → s0.tenantOk m = true → m.addr % n = 0 →
      (s.leaf (tileOf m.addr)).moving = false → s.tierBusy m.addr n = false → s.linkBefore l m.addr = false → s1 = s0.freeAtomic l →
      s1.readDev (partOf m.addr) m.addr n = (stOk, bs, s2) → ofLE bs = old →
      s2.writeDev (partOf m.addr) m.addr (leBytes (atomicResult op n old (bits m.arg 67 4) m.cmp) n) = (w, s3) →
      exec (.linkAtomic l) s = .next (s3.respond m w (if w = stOk then old else 0) [])) ∧
    (∀ (m : Msg) (s0 s1 : State) (k : Nat) (t : Tally), s.takeMsg l 4 = some (m, s0) → m.arg % 256 = k →
      s.tallyTurn (k / 64) (32 + l % 8) = true → s1 = { s.tallyServed (k / 64) (32 + l % 8) with link := s0.link } → tget s1.tallies k = t →
      (t.key = bits m.arg 23 8 → t.used = true → t.next < t.t → exec (.linkClaim l) s = .next (({ s1 with
        tallies := tset s1.tallies k { t with next := t.next + 1 } } : State).respond m stOk t.next [])) ∧
      (t.key = bits m.arg 23 8 → t.used = true → t.t ≤ t.next → exec (.linkClaim l) s = .next (s1.respond m stOk (2 ^ 32) [])) ∧
      (t.used = false → exec (.linkClaim l) s = .next (s1.respond m stGone 0 [])) ∧
      (t.used = true → t.key ≠ bits m.arg 23 8 → exec (.linkClaim l) s = .next (s1.respond m stProtocol 0 []))) ∧
    (∀ (m : Msg) (s1 : State) (b site lane : Nat) (c : Chan DTok), s.takeMsg l 5 = some (m, s1) →
      Config.tokenTarget (bits m.arg 54 39) (bits m.arg 38 31) = (b, site, lane) → 1 ≤ m.len → m.len ≤ 16 →
      c = (s1.site (b % 32) (site % 120)).dchan (lane % 5) →
      (m.len ≤ c.cred → s.tokensSaved (b % 32) (bits m.arg 54 39) = false → exec (.linkTokens l) s = .next (s1.putSite (b % 32) (site % 120) ((s1.site (b % 32) (site % 120)).putD (lane % 5)
        (m.tokens.foldl (fun ch t => ch.send true t) c)))) ∧
      (c.cred < m.len ∨ s.tokensSaved (b % 32) (bits m.arg 54 39) = true → exec (.linkTokens l) s = .next s)) ∧
    (∀ (m : Msg) (s1 s2 : State) (v : Nat), s.takeMsg l 6 = some (m, s1) → s1.tenantOk m = true →
      s2 = { s1 with host := { s1.host with
        fdb := tset s1.host.fdb (partOf m.addr) (tget s1.host.fdb (partOf m.addr) ||| m.arg % 2 ^ 64) } } →
      tget s1.host.ssrVec (partOf m.addr) = v →
      (bitOf v 8 = true → exec (.linkDoorbell l) s = .next
        ((((s2.raiseVector (partOf m.addr) (v % 256)).wakeDom 52).wakeDom 63).respond m stOk 0 [])) ∧
      (bitOf v 8 = false → exec (.linkDoorbell l) s = .next (((s2.wakeDom 52).wakeDom 63).respond m stOk 0 []))) ∧
    (∀ (m : Msg) (s1 : State), s.takeMsg l 0x10 = some (m, s1) →
      (∀ r, s1.link.reqs.find? (fun r => r.xid == m.xid) = some r →
        (m.incarn = s1.incarn r.part → exec (.linkResp l) s = .next (s1.endReq r (statusOf m.status) m.arg m.data)) ∧
        (m.incarn ≠ s1.incarn r.part → exec (.linkResp l) s = .next (((s1.closeReq r).bump 0x3613 (l + 1) 1).bump 0x3722 (r.part + 1) 1))) ∧
      ((∀ r ∈ s1.link.reqs, r.xid ≠ m.xid) →
        (m.xid ∈ s1.link.late → exec (.linkResp l) s = .next (({ s1 with link := { s1.link with late := s1.link.late.erase m.xid } } : State).bump
          0x3614 (l + 1) 1)) ∧
        (m.xid ∉ s1.link.late → exec (.linkResp l) s = .next (s1.bump 0x3612 (l + 1) 1)))) ∧
    (∀ (m : Msg) (rest : List Msg) (s1 : State), takeFirst (fun (m : Msg) => m.dest != s.faddr) (s.lnk l).inbox = some (m, rest) →
      s1 = s.putLnk l ({ s.lnk l with inbox := rest }.free (poolOf m.type) m.size) →
      (m.ttl ≤ 1 → isRequest m.type = true → exec (.messageForward l) s = .next ((s1.linkViolation l).respond m stGone 0 [])) ∧
      (m.ttl ≤ 1 → isRequest m.type = false → exec (.messageForward l) s = .next (s1.linkViolation l)) ∧
      (∀ o, 1 < m.ttl → m.type ≠ 5 → s1.route m.dest m.src (tileOf m.addr) = some o → (s1.lnk o).outq = [] →
        m.size ≤ tget (s1.lnk o).cred (poolOf m.type) → exec (.messageForward l) s = .next (s1.queueMsg o { m with ttl := m.ttl - 1 }))) ∧
    (∀ (xid : Nat) (r : LReq), s.link.reqs.find? (fun r => r.xid == xid) = some r → r.since + s.obj 0x2600 5 * 1000 ≤ s.clk.dcount →
      exec (.linkReqExpiry xid) s = .next (({ s with link := { s.link with late := s.link.late ++ [xid] } } : State).endReq r stTimeout 0 []))

/-- HELLO, CREDIT_INIT, REKEY, REKEY_INTERVAL_EXPIRY, KEY_AGREEMENT_DONE, LINK_TRAINING_DONE, SLEEP, SLEEP_ACK,
LINK_IDLE_EXPIRY, WAKE_PATTERN, LINK_READMIT, LINK_MAP_OUT, MAINT_WINDOW, MAINT_WINDOW_CLOSE and FABRIC_WINDOW_WRITE
(R404, R412 to R423, R436 to R439). -/
def Obligations.LinkStates : Prop :=
  ∀ (s : State) (l : Nat) (x : Link), l < 32 → s.lnk l = x →
    (x.st = .training →
      exec (.linkTrainingDone l true) s = .next ((s.putLnk l { x with aligned := true }).emit (.link l "HELLO" ([s.faddr, s.objIn 0x2600 1] ++ (List.range 5).map poolSize))) ∧
      (x.attempts < 2 → exec (.linkTrainingDone l false) s = .next (s.putLnk l { x with attempts := x.attempts + 1, aligned := false })) ∧
      (2 ≤ x.attempts → exec (.linkTrainingDone l false) s = .next (s.mapOut l)) ∧
      (∀ (addr mode : Nat) (cs : List Nat), x.aligned = true →
        (addr % 2 ^ 18 ≠ s.faddr → mode = s.objIn 0x2600 1 → exec (.hello l addr mode cs) s = .next (s.putLnk l { x with
          st := .agreeing, allow := s.allowNow, peer := addr % 2 ^ 18, cred := (List.range 5).map (fun p => (p, min (poolSize p) (cs.getD p 0))) })) ∧
        (addr % 2 ^ 18 = s.faddr ∨ mode ≠ s.objIn 0x2600 1 → exec (.hello l addr mode cs) s = .next ((s.linkViolation l).mapOut l)) ∧
        exec (.creditInit l cs) s = .next (s.putLnk l { x with cred := (List.range 5).map (fun p => (p, min (poolSize p) (cs.getD p 0))) }))) ∧
    (x.st = .waking → exec (.linkTrainingDone l true) s = .next (s.putLnk l { x with st := .up, idleAt := s.clk.dcount })) ∧
    (∀ (serial : Nat), x.st = .agreeing →
      (s.trust.noId = false → x.admits serial = true → exec (.keyAgreementDone l true serial) s = .next (s.putLnk l { x with
        st := .up, fseq := 0, fcount := 0, keyCount := 0, phase := false, rxPhase := false, expect := 0
        keyedAt := s.clk.dcount, idleAt := s.clk.dcount, attempts := 0, first := false })) ∧
      exec (.keyAgreementDone l false serial) s = .next ((s.bump 0x3602 (l + 1) 1).mapOut l) ∧
      (x.admits serial = false → exec (.keyAgreementDone l true serial) s = .next ((s.bump 0x3602 (l + 1) 1).mapOut l))) ∧
    (x.st = .up →
      exec (.rekey l) s = .next ((s.putLnk l { x with rekey := true, allow := s.allowNow }).emit (.link l "REKEY" [])) ∧
      (x.rekey = false → x.keyedAt + s.obj 0x2600 6 * 1000000000 ≤ s.clk.dcount →
        exec (.rekeyIntervalExpiry l) s = .next ((s.putLnk l { x with rekey := true, allow := s.allowNow }).emit (.link l "REKEY" []))) ∧
      (∀ serial, x.rekey = true → s.trust.noId = false → x.admits serial = true → exec (.keyAgreementDone l true serial) s = .next
        (s.putLnk l { x with rekey := false, newKey := true, keyedAt := s.clk.dcount })) ∧
      ((∀ a ∈ s.tier.accs, a.st ≠ .done) → x.outq = [] → x.txSegs = [] →
        exec (.sleep l) s = .next ((s.sleepLink l).emit (.link l "SLEEP_ACK" [x.fseq])) ∧
        (x.offered = true → exec (.sleepAck l) s = .next (s.sleepLink l)) ∧
        (x.offered = false → x.idleAt + s.obj 0x2600 3 * 1000 ≤ s.clk.dcount → exec (.linkIdleExpiry l) s = .next
          ((s.putLnk l { x with offered := true }).emit (.link l "SLEEP" []))))) ∧
    (x.st = .sleep → exec (.wakePattern l) s = .next ((s.wakeDom (53 + l / 4)).putLnk l { x with st := .waking })) ∧
    (x.st = .off → Answers (.wakePattern l) s (fun t => (t.lnk l).st = .training ∧ (t.lnk l).attempts = 0 ∧ (t.lnk l).txSwap = x.txSwap ∧
      (t.lnk l).rxSwap = x.rxSwap ∧ ∀ j ≠ l, t.lnk j = s.lnk j)) ∧
    (x.st ≠ .mappedOut → Answers (.linkMapOut l) s (fun t => (t.lnk l).st = .mappedOut ∧ (t.lnk l).peer = x.peer ∧
      (∀ r ∈ t.link.reqs, r.link ≠ l) ∧ t.obj 0x2601 1 = setBit (s.obj 0x2601 1) l ∧ ∀ j ≠ l, t.lnk j = s.lnk j)) ∧
    (∀ (code t0 : Nat), s.link.maint = some (code, t0) → s.clk.dcount < t0 → x.st = .mappedOut →
      Answers (.linkReadmit l code) s (fun t => (t.lnk l).st = .training ∧ t.obj 0x2601 1 = clrBit (s.obj 0x2601 1) l ∧
        t.obj 0x3610 (l + 1) = 0 ∧ t.obj 0x3611 (l + 1) = 0 ∧ t.obj 0x3612 (l + 1) = 0 ∧ t.obj 0x3613 (l + 1) = 0 ∧ t.obj 0x3614 (l + 1) = 0)) ∧
    (∀ (code : Nat), s.link.maint = none → exec (.linkReadmit l code) s = .next (s.logErr (objKey 0x2601 3) stProtocol 0xFF l code)) ∧
    (∀ (v : Nat), exec (.maintWindow v) s = .next { s with link := { s.link with
      maint := some (bits v 31 0, s.clk.dcount + bits v 63 32 * 1000000000) } }) ∧
    (∀ (code t0 : Nat), s.link.maint = some (code, t0) → t0 ≤ s.clk.dcount →
      exec .maintWindowClose s = .next { s with link := { s.link with maint := none } }) ∧
    (∀ (n : Nat) (bs : List Nat), n < 128 →
      (s.fabWinOk n (fabWinOf bs) = true → exec (.fabricWindowWrite n bs) s = .next (({ s with link := { s.link with
        wins := tset s.link.wins n (fabWinOf bs) } } : State).putObj 0x2620 (n + 1) (ofLE (fabWinOf bs).bytes))) ∧
      (s.fabWinOk n (fabWinOf bs) = false → Answers (.fabricWindowWrite n bs) s (fun t =>
        tget t.link.wins n = { fabWinOf bs with len := 0 } ∧ t.log.count = (s.log.count + 1) % 65536)))

/-- ESM_INIT, ESM_PREOP, ESM_SAFEOP, ESM_OP, ESM_BOOT, ECAT_FRAME, ECAT_PORT_LINK_CHANGE, PD_SNAPSHOT and PD_LOST (R442
to R444, R455 to R457). -/
def Obligations.FieldBusStates : Prop :=
  ∀ (s : State), s.clk.vaon33 = true →
    exec .esmInit s = .next { s with mgmt := { s.mgmt with esm := .init, al := 0 } } ∧
    (∀ (a b : Sm), s.mgmt.esm = .init →
      (s.clk.phase ≠ .bootWait → a = ⟨0x1000, 512, 0x26⟩ → b = ⟨0x1200, 512, 0x22⟩ →
        exec (.esmPreop a b) s = .next { s with mgmt := { s.mgmt with sms := tset (tset s.mgmt.sms 0 a) 1 b, esm := .preop, al := 0 } }) ∧
      (s.clk.phase ≠ .bootWait → a ≠ ⟨0x1000, 512, 0x26⟩ ∨ b ≠ ⟨0x1200, 512, 0x22⟩ →
        exec (.esmPreop a b) s = .next { s with mgmt := { s.mgmt with sms := tset (tset s.mgmt.sms 0 a) 1 b, al := 0x0016 } }) ∧
      exec .esmBoot s = .next { s with mgmt := { s.mgmt with esm := .boot, al := 0 } } ∧
      exec .esmOp s = .next { s with mgmt := { s.mgmt with al := 0x0011 } }) ∧
    (∀ (a b : Sm), s.mgmt.esm = .preop →
      (s.clk.phase = .service → s.syncOk = true → a = ⟨0x1400, 4, 0x64⟩ → b = ⟨0x1A00, 20, 0x20⟩ → Answers (.esmSafeop a b) s (fun t =>
        t.mgmt = { s.mgmt with sms := tset (tset s.mgmt.sms 2 a) 3 b, esm := .safeop, al := 0, safeWrite := false } ∧
        t.objIn 0x1C32 1 = s.obj 0x1C32 1 ∧ t.objIn 0x1C33 1 = s.obj 0x1C33 1)) ∧
      (a ≠ ⟨0x1400, 4, 0x64⟩ → exec (.esmSafeop a b) s = .next { s with mgmt := { s.mgmt with
        sms := tset (tset s.mgmt.sms 2 a) 3 b, al := 0x001D } }) ∧
      (a = ⟨0x1400, 4, 0x64⟩ → b ≠ ⟨0x1A00, 20, 0x20⟩ → exec (.esmSafeop a b) s = .next { s with mgmt := { s.mgmt with
        sms := tset (tset s.mgmt.sms 2 a) 3 b, al := 0x001E } }) ∧
      exec .esmBoot s = .next { s with mgmt := { s.mgmt with al := 0x0011 } }) ∧
    (s.mgmt.esm = .safeop →
      (s.mgmt.safeWrite = true → exec .esmOp s = .next { s with mgmt := { s.mgmt with esm := .op, al := 0, armed := true } }) ∧
      (s.mgmt.safeWrite = false → exec .esmOp s = .next { s with mgmt := { s.mgmt with al := 0x001B } })) ∧
    (∀ (w id : Nat), s.mgmt.esm = .safeop ∨ s.mgmt.esm = .op →
      exec (.ecatFrame none true) s = .next { s with out := s.out ++ [.sm3 s.mgmt.snap] } ∧
      exec (.ecatFrame (some (w, id)) false) s = .next (({ s with out := s.out ++ [.sm3 s.mgmt.snap] } : State).bump 0x3000 3 1) ∧
      Answers (.ecatFrame (some (w, id)) true) s (fun t => t.obj 0x6000 1 = w % 65536 ∧ t.obj 0x6000 2 = id % 65536 ∧
        t.mgmt.goodAt = s.clk.dcount ∧ t.mgmt.lost = false ∧ t.pwr.rackW = rackCap (w % 65536) ∧ t.pwr.rackId = id % 65536 ∧
        (s.mgmt.esm = .op → t.pwr.orphan = false))) ∧
    (∀ (n : Nat) (up : Bool), n < 2 → exec (.ecatPortLinkChange n up) s = .next { s with mgmt := { s.mgmt with ports := tset s.mgmt.ports n up } }) ∧
    Answers .pdSnapshot s (fun t => t = { s with mgmt := { s.mgmt with snap := t.mgmt.snap } } ∧ t.mgmt.snap.length = 20 ∧
      fieldAt t.mgmt.snap 0 2 = s.pdStatus ∧ fieldAt t.mgmt.snap 4 2 = s.pwr.means.headD 0 / 1000 % 65536 ∧
      fieldAt t.mgmt.snap 6 2 = s.pwr.capW % 65536 ∧ fieldAt t.mgmt.snap 10 8 = s.clk.dcount % 2 ^ 64 ∧
      fieldAt t.mgmt.snap 18 2 = s.log.count % 65536 ∧ (s.pwr.orphan = true → fieldAt t.mgmt.snap 2 2 = 0xFFFF)) ∧
    (s.mgmt.armed = true → s.mgmt.lost = false → s.mgmt.goodAt + max (3 * s.obj 0x2000 3) 2000 * 1000 ≤ s.clk.dcount →
      Answers .pdLost s (fun t => t.mgmt = { s.mgmt with lost := true } ∧ t.pwr.orphan = true ∧ t.obj 0x3000 2 = (s.obj 0x3000 2 + 1) % 2 ^ 64))

/-- SDO_DOWNLOAD, SDO_UPLOAD, SDO_INFO, DICT_WRITE and the LONG_* commands (R10, R12, R446 to R454). The order of the
refusals is the model's choice (its log entry on the dictionary). -/
def Obligations.Dictionary : Prop :=
  (∀ (s : State) (ix sub : Nat), s.clk.vaon33 = true → s.clk.phase = .service → s.mgmt.esm = .preop ∨ s.mgmt.esm = .safeop ∨ s.mgmt.esm = .op →
    s.part 103 = 0 →
    (∀ ty acc, objAt ix sub = some (ty, acc) →
      (acc ≠ .WO → exec (.sdoUpload ix sub false) s = .next { s with out := s.out ++ [.mbox 0 (s.objBytes ix sub ty)] }) ∧
      (acc = .WO → exec (.sdoUpload ix sub false) s = .next (s.dictRefused.emit (.mbox 0x06010001 [])))) ∧
    (objAt ix sub = none → ∀ bs v, exec (.sdoUpload ix sub false) s = .next (s.dictRefused.emit (.mbox (missing ix) [])) ∧
      exec (.sdoDownload ix sub false bs v) s = .next (s.dictRefused.emit (.mbox (missing ix) []))) ∧
    (∀ r bs v, objRow ix sub = some r →
      (r.acc = .RO → exec (.sdoDownload ix sub false bs v) s = .next (s.dictRefused.emit (.mbox 0x06010002 []))) ∧
      (r.acc = .RWP → s.mgmt.esm ≠ .preop → exec (.sdoDownload ix sub false bs v) s = .next (s.dictRefused.emit (.mbox 0x08000022 []))) ∧
      (r.acc ≠ .RO → (r.acc = .RWP → s.mgmt.esm = .preop) → ¬(ix = 0x2002 ∧ sub = 2) → bs.length ≠ r.bytes sub →
        exec (.sdoDownload ix sub false bs v) s = .next (s.dictRefused.emit (.mbox 0x06070010 []))) ∧
      (r.acc ≠ .RO → (r.acc = .RWP → s.mgmt.esm = .preop) → bs.length = r.bytes sub → s.actOn true ix sub bs v = none →
        (r.store.apply (ofLE bs) = none → exec (.sdoDownload ix sub false bs v) s = .next (s.dictRefused.emit (.mbox 0x06090030 []))) ∧
        (∀ x, r.store.apply (ofLE bs) = some x →
          (objKey ix sub ∈ keptObjects → Answers (.sdoDownload ix sub false bs v) s (fun t => t.obj ix sub = x ∧
            t.objIn ix sub = s.objIn ix sub ∧ tfind t.dict.kept (objKey ix sub) = some x ∧ t.out = s.out ++ [.mbox 0 []])) ∧
          (ix = 0x6000 → ∀ u, u = s.putObj ix sub x → exec (.sdoDownload ix sub false bs v) s =
            .next ((u.rackArrives (u.obj 0x6000 1) (u.obj 0x6000 2) false).emit (.mbox 0 []))) ∧
          (objKey ix sub ∉ keptObjects → ix ∉ [0x1C32, 0x1C33, 0x2402, 0x2620, 0x2800, 0x2C10, 0x6000] → ¬(ix = 0x2100 ∧ sub = 2) →
            exec (.sdoDownload ix sub false bs v) s = .next ((s.putObj ix sub x).emit (.mbox 0 [])) ∧ (s.putObj ix sub x).obj ix sub = x ∧
            ∀ jx jsub, jx < 0x8000 → jsub < 256 → ix < 0x8000 → sub < 256 → ¬(jx = ix ∧ jsub = sub) →
              (s.putObj ix sub x).obj jx jsub = s.obj jx jsub)))) ∧
    (objIndex ix = true → Answers (.sdoInfo (some ix)) s (fun t => ∃ bs, t = { s with out := s.out ++ [.mbox 0 bs] } ∧
      ∀ k ty acc, k ≤ topSub ix → objAt ix k = some (ty, acc) → ∃ i, bs.drop i ≠ [] ∧ (bs.drop i).take 3 = [k, ty.code, acc.code])) ∧
    Answers (.sdoInfo none) s (fun t => ∃ bs, t = { s with out := s.out ++ [.mbox 0 bs] } ∧ ∀ r ∈ objRows, r.ix ∈ bs)) ∧
  (∀ (s : State) (ix sub : Nat) (v : Verdict), s.clk.vaon33 = true →
    (s.clk.phase = .hold → s.mgmt.esm = .preop → ¬(0x1000 ≤ ix ∧ ix ≤ 0x20FF) → ¬(0x3800 ≤ ix ∧ ix ≤ 0x3FFF) →
      exec (.sdoUpload ix sub false) s = .next (s.dictRefused.emit (.mbox 0x08000022 []))) ∧
    (s.mgmt.esm = .init → ∀ cpl, exec (.sdoUpload ix sub cpl) s = .next s ∧ exec (.sdoInfo (some ix)) s = .next s) ∧
    (s.mgmt.esm = .boot → s.clk.phase ≠ .bootWait → ∀ cpl, exec (.sdoUpload ix sub cpl) s = .next (s.dictRefused.emit (.mbox 0x08000022 []))) ∧
    (s.mgmt.esm = .preop → s.clk.phase = .service → s.part 103 ≠ 0 → ∀ bs, exec (.sdoDownload ix sub false bs v) s =
      .next { s with mgmt := { s.mgmt with held := s.mgmt.held ++ [.download ix sub false bs v] } })) ∧
  (∀ (s : State) (ix sub n : Nat) (v : Verdict), 0x1000 ≤ ix → ix < 0x8000 → sub < 64 → n < 2 ^ 64 →
    (s.barServed 0 2 = false → exec (.dictWrite ix sub n v) s = .next (s.unsupported 0 2)) ∧
    (s.barServed 0 2 = true → s.dictServed ix = true → ∀ (r : ObjRow) (len : Nat), objRow ix sub = some r → r.ty.len = some len →
      (256 ^ len ≤ n ∨ r.acc = .RO ∨ (r.acc = .RWP ∧ s.mgmt.esm ≠ .preop) → exec (.dictWrite ix sub n v) s = .next s.dictRefused) ∧
      (n < 256 ^ len → r.acc = .RW → s.actOn false ix sub (leBytes n len) v = none →
        (r.store.apply n = none → exec (.dictWrite ix sub n v) s = .next s.dictRefused) ∧
        (∀ x, r.store.apply n = some x → objKey ix sub ∉ keptObjects → ix ∉ [0x1C32, 0x1C33, 0x2402, 0x2620, 0x2800, 0x2C10, 0x6000] →
          ¬(ix = 0x2100 ∧ sub = 2) → exec (.dictWrite ix sub n v) s = .next (s.putObj ix sub x))))) ∧
  (∀ (s : State) (n : Nat), s.barServed 0 2 = true →
    let d := fun (sel : Nat) (staged : Option (List Nat)) (st : Nat) => ({ s.dict with longSel := sel, staged := staged, longStatus := st } : Dict)
    let ix := s.dict.longSel % 65536
    let sub := bits s.dict.longSel 23 16
    let off := s.dict.longSel / 2 ^ 32
    let next := s.dict.longSel % 2 ^ 32 + (off + 8) % 2 ^ 32 * 2 ^ 32
    exec (.longSel n) s = .next { s with dict := d (n % 2 ^ 24 + bits n 63 35 * 2 ^ 35) none 0 } ∧
    Answers (.longData (some n)) s (fun t => ∃ l, t = { s with dict := d next (some l) 2 } ∧ off + 8 ≤ l.length ∧
      (∀ i < 8, l.getD (off + i) 0 = n / 256 ^ i % 256) ∧
      (∀ i, i < off ∨ off + 8 ≤ i → l.getD i 0 = (s.dict.staged.getD []).getD i 0)) ∧
    ((s.dictRead ix sub).1 = 0 → Answers (.longData none) s (fun t => ∃ l, t = { s with
      dict := d next s.dict.staged s.dict.longStatus, out := s.out ++ [.bar2 l] } ∧ l.length = 8 ∧
      ∀ i < 8, l.getD i 0 = (s.dictRead ix sub).2.getD (off + i) 0)) ∧
    exec .longAbort s = .next { s with dict := d s.dict.longSel none 0 } ∧
    (∀ v, Answers (.longCommit v) s (fun t => t.dict.staged = none ∧
      (t.dict.longStatus = 0 ↔ (s.busWrite ix sub (stagedValue ix sub (s.dict.staged.getD [])) v).1 = 0) ∧
      t = { (s.busWrite ix sub (stagedValue ix sub (s.dict.staged.getD [])) v).2 with dict := t.dict })))

/-- FOE_WRITE, FOE_READ, IMAGE_TARGET, IMAGE_DATA, IMAGE_COMMIT, IMAGE_ABORT, IMAGE_PATH_TIMEOUT and TRIP_CLEAR (R405, R461 to
R465, R487). The order of the checks and FoE error 0x8004 are the model's (its log entries on images). -/
def Obligations.Images : Prop :=
  (∀ (s : State) (file : Nat) (data : List Nat) (v : Verdict), s.clk.vaon33 = true → s.clk.phase = .service → 1 ≤ file → file ≤ 3 →
    s.mgmt.esm = .preop ∨ s.mgmt.esm = .safeop ∨ s.mgmt.esm = .op → s.part 103 = 0 →
    let wipe := fun (foe : Bool) (bs : List Nat) => ({ s with mgmt := { s.mgmt with flash := tset s.mgmt.flash (s.targetBank file) {}
                                                                                    path := some { foe := foe, bank := s.targetBank file, bytes := bs, at_ := s.clk.dcount } } } : State)
    (s.pathHeld true = false → exec (.foeWrite file 0 true false data v) s =
      .next { wipe true (data.map (· % 256)) with out := s.out ++ [.mbox 0 []] }) ∧
    (s.pathHeld true = true → ∀ a b, exec (.foeWrite file 0 a b data v) s = .next { s with out := s.out ++ [.mbox 0x8002 []] }) ∧
    (∀ a b pw, pw ≠ 0 → exec (.foeWrite file pw a b data v) s = .next { s with out := s.out ++ [.mbox 0x8002 []] }) ∧
    (s.pathHeld false = false → exec (.imageTarget true file) s = .next { wipe false [] with out := s.out ++ [.mbox 0 []] }) ∧
    (s.pathHeld false = true → exec (.imageTarget true file) s = .next (s.dictRefused.emit (.mbox 0x08000020 [])) ∧
      exec (.imageData true data) s = .next (s.dictRefused.emit (.mbox 0x08000020 []))) ∧
    (s.mgmt.path = none → exec (.foeWrite file 0 false false data v) s = .next { s with out := s.out ++ [.mbox 0x8004 []] }) ∧
    (∀ p, s.mgmt.path = some p → p.foe = false →
      exec (.imageData true data) s = .next { s with out := s.out ++ [.mbox 0 []], mgmt := { s.mgmt with
        path := some { p with bytes := p.bytes ++ data.map (· % 256), at_ := s.clk.dcount } } } ∧
      exec (.imageAbort true) s = .next { s with out := s.out ++ [.mbox 0 []], mgmt := { s.mgmt with path := none } } ∧
      Answers (.imageCommit true v) s (fun t => ∃ r u, s.commitImage p v = (r, u) ∧
        (r = 1 → t = u.emit (.mbox 0 [])) ∧ (r ≠ 1 → t.log.count = (u.log.count + 1) % 65536 ∧ t.mgmt = u.mgmt ∧
          ∃ l, t.out = u.out ++ l ++ [.mbox 0 []]))) ∧
    (∀ p, s.mgmt.path = some p → p.foe = true → ∃ r u,
      s.commitImage { p with bytes := p.bytes ++ data.map (· % 256), at_ := s.clk.dcount } v = (r, u) ∧ 
      exec (.foeWrite file 0 false true data v) s =
        .next { u with out := u.out ++ [.mbox (if r = 1 then 0 else 0x800B) []] }) ∧
    exec (.foeRead 4) s = .next { s with out := s.out ++ [.mbox 0 (s.log.entries.flatMap (fun e => e.2.bytes))] } ∧
    (s.pwr.trip = true → exec (.tripClear 1) s = .next { s with
      pwr := { s.pwr with trip := false }, out := s.out ++ [.land "THERMTRIP_N" false, .mbox 0 []] })) ∧
  (∀ (s : State) (p : ImgPath), s.mgmt.path = some p → p.at_ + 60000000000 ≤ s.clk.dcount →
    Answers .imagePathTimeout s (fun t => t.obj 0x2002 4 = 6 ∧ t.mgmt = { s.mgmt with path := none } ∧
      t = { s with dict := t.dict, mgmt := t.mgmt })) ∧
  (∀ (s : State) (p : ImgPath) (v : Verdict), ∃ r t, s.commitImage p v = (r, t) ∧ (r ≠ 1 → t.obj 0x2002 4 = r) ∧
    (s.clk.phase = .service → t.obj 0x2002 4 = r ∧ t.mgmt.path = none ∧
      (r ≠ 1 → t.mgmt = { s.mgmt with path := none } ∧ t = { s with dict := t.dict, mgmt := t.mgmt }) ∧
      (r = 1 → p.bank < 6 → (tget t.mgmt.flash p.bank).ok = true ∧ (∀ b, b ≠ p.bank → tget t.mgmt.flash b = tget s.mgmt.flash b) ∧
        t = { s with dict := t.dict, mgmt := { s.mgmt with path := none, flash := t.mgmt.flash } })) ∧
    (s.clk.phase = .hold → p.bank / 2 = 2 → r ≠ 1 → t.clk.phase = .hold) ∧
    (p.bank / 2 < 2 → 256 ≤ p.bytes.length →
      let h := Config.fwHeader (p.bytes.take 256)
      (r = 1 ↔ h.magic = 0x57464851 ∧ h.kind = p.bank / 2 + 1 ∧ h.svn < 64 ∧ h.len = p.bytes.length - 256 ∧
        v.cert = true ∧ v.sig = true ∧ h.digest = shakeNat (p.bytes.drop 256) 64 ∧ s.svnFloor (p.bank / 2) ≤ h.svn)) ∧
    (p.bank / 2 = 2 → (r = 1 ↔ cfgFormat p.bytes s.trust.serial = true ∧ v.cert = true ∧ v.sig = true ∧
      cfgDigests p.bytes = true ∧ (cfgDefaults p.bytes).isSome = true))) ∧
  (∀ (s : State), s.clk.phase = .service →
    (∀ kind < 2, s.targetBank (kind + 1) / 2 = kind ∧ s.targetBank (kind + 1) ≠ s.running kind) ∧
    (s.mgmt.cfgBank = 4 ∨ s.mgmt.cfgBank = 5 → (s.bank s.mgmt.cfgBank).ok = true → s.targetBank 3 / 2 = 2 ∧ s.targetBank 3 ≠ s.mgmt.cfgBank))

/-- DOMAIN_IDLE_EXPIRY, RETENTION_OFF_EXPIRY, READY_CHAIN_STEP and WAKE_SOURCE (R468 to R475). `State.domIdle` and
`State.mayGoOff` are the conditions of the domains table. -/
def Obligations.PowerDomains : Prop :=
  (∀ (s : State) (d : Nat), d < 65 →
    let x := s.dom d
    let set := fun (y : Domain) => ({ s with pwr := { s.pwr with doms := tset s.pwr.doms d y } } : State)
    (domTier d = 0 → x.st = .on → s.domIdle d = true → x.usedAt + s.idleTime d ≤ s.clk.dcount →
      exec (.domainIdleExpiry d) s = .next (set { x with st := .sleeping, step := 4, deep := false, turn := false })) ∧
    (domTier d ≠ 0 → d ∈ s.tierDoms (domTier d) → (∀ e ∈ s.tierDoms (domTier d), s.domOn e = true) → s.domIdle d = true →
      (s.dom (tierDom (domTier d))).usedAt + s.idleTime d ≤ s.clk.dcount → Answers (.domainIdleExpiry d) s (fun t =>
        (∀ e, (t.dom e).st = if e ∈ s.tierDoms (domTier d) then .sleeping else (s.dom e).st) ∧
        (s.tierSt (domTier d) = 1 → t.tierSt (domTier d) = 2) ∧ (∀ n, n ≠ domTier d → t.tierSt n = s.tierSt n) ∧
        t = { s with pwr := { s.pwr with doms := t.pwr.doms }, tier := { s.tier with st := t.tier.st } })) ∧
    (x.st = .retention → s.mayGoOff d = true →
      exec (.retentionOffExpiry d) s = .next (set { x with st := .sleeping, step := 1, deep := true, turn := false })) ∧
    (x.st = .retention → s.tierHolds d = true → exec (.retentionOffExpiry d) s = .next (s.emit (.refused stResource))) ∧
    (x.st = .sleeping → 1 < x.step →
      (x.turn = false → exec (.readyChainStep d) s = .next (set { x with step := x.step - 1 })) ∧
      (x.turn = true → exec (.readyChainStep d) s = .next (set { x with st := .waking, step := x.step - 1, turn := false }))) ∧
    (x.st = .sleeping → x.step = 1 →
      (x.deep = false → x.turn = false →
        exec (.readyChainStep d) s = .next (set { x with st := .retention, step := 0, retAt := s.clk.dcount })) ∧
      (x.deep = true → x.turn = false → Answers (.readyChainStep d) s (fun t => (t.dom d).st = .off ∧
        (∀ e ≠ d, t.dom e = s.dom e) ∧ SameMemory s t ∧
        (d < 32 → ∀ k < 4, (t.drawer d k).st = .empty) ∧ (∀ b < 32, b ≠ d → ∀ k < 4, t.drawer b k = s.drawer b k) ∧
        (d < 32 → ∀ site < 120, ∀ w < 32768, tget t.sram ((d * 120 + site) * 32768 + w) = 0) ∧
        (53 ≤ d → d < 61 → ∀ l, l / 4 = d - 53 → (t.lnk l).st = .off ∨ (t.lnk l).st = .mappedOut))) ∧
      (x.deep = true → x.turn = true → d < 32 → Answers (.readyChainStep d) s (fun t => (t.dom d).st = .waking ∧ (t.dom d).step = 0 ∧
        (t.dom d).deep = true))) ∧
    (x.st = .waking → x.step < 3 → exec (.readyChainStep d) s = .next (set { x with step := x.step + 1 })) ∧
    (x.st = .waking → 3 ≤ x.step → d < 32 → s.domOn (32 + d / 4) = false → exec (.readyChainStep d) s = .next s) ∧
    (x.st = .waking → 3 ≤ x.step → (d < 32 → s.domOn (32 + d / 4) = true) → domTier d = 0 → (x.deep = false ∨ d < 53 ∨ 61 ≤ d) →
      exec (.readyChainStep d) s = .next (set { x with st := .on, step := 4, deep := false, usedAt := s.clk.dcount })) ∧
    (x.st = .waking → 3 ≤ x.step → domTier d ≠ 0 → s.tierSt (domTier d) = 2 → d ∈ s.tierDoms (domTier d) →
      (∀ e ∈ s.tierDoms (domTier d), e ≠ d → s.domOn e = true) →
      Answers (.readyChainStep d) s (fun t => (t.dom d).st = .on ∧ t.tierSt (domTier d) = 1))) ∧
  (∀ (s : State) (d : Nat), s.clk.phase = .service → d < 64 →
    (∀ e, (d < 32 ∧ (e = d ∨ e = 32 + d / 4)) ∨ (domTier d ≠ 0 ∧ e ∈ s.tierDoms (domTier d)) ∨ (32 ≤ d ∧ domTier d = 0 ∧ e = d) →
      Answers (.wakeSource (.demand d)) s (fun t =>
        ((s.dom e).st = .off ∨ (s.dom e).st = .retention → (t.dom e).st = .waking ∧ (t.dom e).step = 0 ∧
          ((t.dom e).deep = true ↔ (s.dom e).st = .off) ∧ t.obj 0x3701 (e + 1) = (s.obj 0x3701 (e + 1) + 1) % 2 ^ 64) ∧
        ((s.dom e).st = .sleeping → t.dom e = { s.dom e with turn := true }) ∧
        ((s.dom e).st = .on ∨ (s.dom e).st = .waking → t.dom e = s.dom e) ∧
        t = { s with pwr := { s.pwr with doms := t.pwr.doms }, dict := { s.dict with vals := t.dict.vals } }))) ∧
  (∀ (s : State) (l p : Nat) (ds : List Nat),
    (l < 32 → exec (.wakeSource (.link l)) s = .next (s.wakeDom (53 + l / 4))) ∧
    (48 ≤ p → p < 53 → exec (.wakeSource (.cxl p)) s = .next (s.wakeDom p)) ∧
    exec (.wakeSource (.doorbell false)) s = .next ((s.wakeDom 52).wakeDom 63) ∧
    exec (.wakeSource (.doorbell true)) s = .next (((s.wakeDom 52).wakeDom 63).wakeDom 61) ∧
    ((∀ d ∈ ds, d < 65) → exec (.wakeSource (.timer ds)) s = .next (ds.foldl (fun u d => u.wakeDom d) s)))

/-- CAP_SAMPLE, OP_STEP_DONE, FLOOR_ESTIMATE and the PWR_ALERT_N commands (R477 to R485). That A is a ratio of the work's
dynamic power is the model's (its log entry on the cap controller). -/
def Obligations.PowerCaps : Prop :=
  ∀ (s : State),
    let best := fun (t : State) (n : Nat) => n < 7 ∧ (∀ m < n, t.within t.pwr.capW < t.pwr.fixed + t.dynAt m) ∧
      (n < 6 → t.pwr.fixed + t.dynAt n ≤ t.within t.pwr.capW)
    let lets := fun (t : State) => let l := min t.follow t.riseTo - t.pwr.fixed
      8 ≤ t.pwr.admitN ∧ t.pwr.admitN ≤ 256 ∧ (t.pwr.unreach = true → t.pwr.admitN = 8) ∧
      (8 < t.pwr.admitN → t.pwr.admitN * t.dynAt t.pwr.op ≤ l * 256) ∧
      (t.pwr.unreach = false → t.pwr.admitN < 256 → l * 256 < (t.pwr.admitN + 1) * t.dynAt t.pwr.op)
    let towards := fun (n : Nat) (t : State) => t.pwr.stepTo =
      if n = t.pwr.target ∨ s.pwr.trip = true ∨ s.uncoreReset = true then none
      else some (if n < t.pwr.target then n + 1 else n - 1)
    (∀ (power fixed dyn : Nat), s.pwr.trip = false → s.clk.vin12 = true → Answers (.capSample power fixed dyn) s (fun t =>
      t.pwr.samples = power :: s.pwr.samples.take 99 ∧ t.pwr.means = t.pwr.samples.sum / t.pwr.samples.length :: s.pwr.means.take 99 ∧
      t.pwr.energy = s.pwr.energy + power ∧ s.pwr.ballast ≤ t.pwr.ballast ∧ t.pwr.fixed = fixed ∧ t.pwr.dyn = dyn ∧
      t.pwr.capW ≤ 1800 ∧ (s.obj 0x2100 2 ≠ 0 → t.pwr.capW ≤ s.obj 0x2100 2) ∧
      t.pwr.capW ≤ (if s.pwr.orphan then s.pwr.orphanW else s.pwr.rackW) ∧ (s.pwr.throttle = true → t.pwr.capW ≤ s.pwr.thermMw / 1000) ∧
      (t.pwr.capW = 1800 ∨ t.pwr.capW = s.obj 0x2100 2 ∨ t.pwr.capW = (if s.pwr.orphan then s.pwr.orphanW else s.pwr.rackW) ∨
        (s.pwr.throttle = true ∧ t.pwr.capW = s.pwr.thermMw / 1000)) ∧ lets t ∧ t.pwr.op = s.pwr.op ∧
      (t.pwr.capW = s.pwr.capW → t.pwr.target = s.pwr.target ∧ t.pwr.stepTo = s.pwr.stepTo ∧ t.dict = s.dict ∧ t.pwr.unreach = s.pwr.unreach) ∧
      (t.pwr.capW ≠ s.pwr.capW → t.obj 0x3700 1 = (s.obj 0x3700 1 + 1) % 2 ^ 64 ∧
        t.pwr.unreach = (s.pwr.unreach || decide (t.pwr.capW < s.pwr.floorW)) ∧
        (t.pwr.unreach = true → t.pwr.target = 6) ∧ (t.pwr.unreach = false → best t t.pwr.target) ∧
        (s.pwr.stepTo = none → towards s.pwr.op t) ∧ (s.pwr.stepTo.isSome = true → t.pwr.stepTo = s.pwr.stepTo)) ∧
      (t.pwr.unreach = s.pwr.unreach → t = { s with pwr := t.pwr, dict := { s.dict with vals := t.dict.vals } }) ∧
      (t.pwr.unreach ≠ s.pwr.unreach → t.obj 0x3700 2 = (s.obj 0x3700 2 + 1) % 2 ^ 64 ∧ t.log.count = (s.log.count + 1) % 65536 ∧
        bitOf (tget t.host.cause 9) 0 = true ∧
        t = { s with pwr := t.pwr, dict := { s.dict with vals := t.dict.vals }, log := t.log, host := t.host, out := t.out }))) ∧
    (∀ n, s.pwr.stepTo = some n → Answers .opStepDone s (fun t => t.pwr.op = n ∧ t.pwr.target = s.pwr.target ∧ t.pwr.capW = s.pwr.capW ∧
      towards n t ∧ lets t ∧ t = { s with pwr := { s.pwr with op := n, stepTo := t.pwr.stepTo, admitN := t.pwr.admitN } })) ∧
    (∀ w, (s.pwr.capW < w → s.pwr.unreach = false → Answers (.floorEstimate w) s (fun t => t.pwr.unreach = true ∧ t.pwr.floorW = w ∧
        t.pwr.target = 6 ∧ t.pwr.admitN = 8 ∧ t.obj 0x3700 2 = (s.obj 0x3700 2 + 1) % 2 ^ 64 ∧ t.log.count = (s.log.count + 1) % 65536 ∧
        bitOf (tget t.host.cause 9) 0 = true ∧ (s.pwr.stepTo = none → towards s.pwr.op t) ∧ t.pwr.capW = s.pwr.capW)) ∧
      (s.pwr.capW < w → s.pwr.unreach = true → exec (.floorEstimate w) s = .next { s with pwr := { s.pwr with floorW := w } }) ∧
      (w ≤ s.pwr.capW → s.pwr.unreach = false → exec (.floorEstimate w) s = .next { s with pwr := { s.pwr with floorW := w } }) ∧
      (w ≤ s.pwr.capW → s.pwr.unreach = true → Answers (.floorEstimate w) s (fun t => t.pwr.unreach = false ∧ best t t.pwr.target ∧
        (s.pwr.stepTo = none → towards s.pwr.op t) ∧
        t = { s with pwr := { s.pwr with unreach := false, floorW := w, target := t.pwr.target, stepTo := t.pwr.stepTo } }))) ∧
    (s.pwr.alertN = true → exec .pwrAlertAssert s = .next s) ∧
    (s.pwr.alertN = false → s.pwr.holdFrom = none → Answers .pwrAlertAssert s (fun t => t.obj 0x3700 4 = (s.obj 0x3700 4 + 1) % 2 ^ 64 ∧
      bitOf (tget t.host.cause 9) 2 = true ∧ t.pwr = { s.pwr with alertN := true, admitN := 8 } ∧
      t = { s with pwr := t.pwr, dict := { s.dict with vals := t.dict.vals }, host := t.host, out := t.out })) ∧
    (∀ a, s.pwr.alertN = false → s.pwr.holdFrom = some a → exec .pwrAlertAssert s =
      .next { s with pwr := { s.pwr with alertN := true, holdFrom := none, admitN := 8 } }) ∧
    (s.pwr.alertN = true → exec .pwrAlertRelease s = .next { s with pwr := { s.pwr with alertN := false, holdFrom := some s.clk.dcount } }) ∧
    (∀ a, s.pwr.holdFrom = some a → a + 1000 * s.obj 0x2100 5 ≤ s.clk.dcount → Answers .pwrAlertHoldExpiry s (fun t => lets t ∧
      t = { s with pwr := { s.pwr with holdFrom := none, admitN := t.pwr.admitN } }))

/-- THERM_ALERT_ASSERT, THERM_ALERT_RELEASE, JUNCTION_THROTTLE_REACHED, THERMAL_STEP and THERMTRIP (R486, R487). What a trip
leaves of the domains' states is the model's (its log entry on the trip). -/
def Obligations.Thermal : Prop :=
  ∀ (s : State),
    let starts := fun (t : State) => t.pwr.throttle = true ∧ t.pwr.thermMw = s.obj 0x2200 2 * 1000 ∧ t.pwr.throttleAt = s.clk.dcount ∧
      t.pwr.coolAt = none ∧ bitOf (tget t.host.cause 9) 1 = true ∧ t.pwr.capW ≤ s.obj 0x2200 2 ∧ t.pwr.capW = t.lowestLimit ∧
      t = { s with pwr := t.pwr, dict := { s.dict with vals := t.dict.vals }, log := t.log, host := t.host, out := t.out }
    (s.pwr.throttle = false → Answers .thermAlertAssert s (fun t => starts t ∧ t.pwr.thermN = true ∧ t.pwr.tj = s.pwr.tj)) ∧
    (s.pwr.throttle = true → exec .thermAlertAssert s = .next { s with pwr := { s.pwr with thermN := true, coolAt := none } }) ∧
    exec .thermAlertRelease s = .next { s with pwr := { s.pwr with thermN := false } } ∧
    (∀ n r, n < 160 →
      (s.obj 0x2200 1 ≤ r → s.pwr.throttle = false → Answers (.junctionThrottleReached n r) s (fun t => starts t ∧
        t.pwr.tj = tset s.pwr.tj n (max r (tget s.pwr.tj n)))) ∧
      (r < s.obj 0x2200 1 ∨ s.pwr.throttle = true → exec (.junctionThrottleReached n r) s =
        .next { s with pwr := { s.pwr with tj := tset s.pwr.tj n (max r (tget s.pwr.tj n)) } })) ∧
    (∀ (rs : List Nat), rs.length = 160 →
      let hot := ∃ r ∈ rs, s.obj 0x2200 1 ≤ r
      let cool := s.pwr.thermN = false ∧ ∀ r ∈ rs, r + 50 < s.obj 0x2200 1
      let read := fun (t : State) => ∀ i < 160, tget t.pwr.tj i = rs.getD i 0
      (s.pwr.throttle = false → hot → Answers (.thermalStep rs) s (fun t => starts t ∧ read t)) ∧
      (s.pwr.throttle = false → ¬hot → 0 < s.obj 0x2200 1 → Answers (.thermalStep rs) s (fun t => read t ∧ t = { s with pwr := { s.pwr with tj := t.pwr.tj } })) ∧
      (s.pwr.throttle = true → hot → Answers (.thermalStep rs) s (fun t => read t ∧ t.pwr.throttle = true ∧ t.pwr.coolAt = none ∧
        t.pwr.thermMw = max (min s.pwr.thermMw (s.pwr.floorW * 1000)) (s.pwr.thermMw * 9 / 10) ∧ t.pwr.capW = t.lowestLimit)) ∧
      (s.pwr.throttle = true → ¬hot → ¬cool → 0 < s.obj 0x2200 1 → Answers (.thermalStep rs) s (fun t => read t ∧ t = { s with pwr := { s.pwr with
        tj := t.pwr.tj, coolAt := none } })) ∧
      (s.pwr.throttle = true → cool → 0 < s.obj 0x2200 1 → (s.pwr.coolAt = none → Answers (.thermalStep rs) s (fun t => read t ∧
        t = { s with pwr := { s.pwr with tj := t.pwr.tj, coolAt := some s.clk.dcount } })) ∧
        ∀ a, s.pwr.coolAt = some a → a + 10000000 ≤ s.clk.dcount → Answers (.thermalStep rs) s (fun t => read t ∧
          t.pwr.throttle = false ∧ t.pwr.coolAt = none ∧ t.pwr.capW = t.lowestLimit ∧
          t.obj 0x3700 5 = (s.obj 0x3700 5 + (s.clk.dcount - s.pwr.throttleAt) / 1000) % 2 ^ 64))) ∧
    (∀ n, n < 160 → s.clk.vaon33 = true → s.pwr.trip = false → Answers (.thermtrip n) s (fun t =>
      t.pwr.trip = true ∧ tget t.pwr.tj n = 1100 ∧ .land "THERMTRIP_N" true ∈ t.out ∧ t.log.count = (s.log.count + 1) % 65536 ∧ t.clk = { s.clk with phase := .off } ∧
      t.jig = Jig.reset ∧ t.srv = State.reset.srv ∧ t.wgt = State.reset.wgt ∧ t.mem = [] ∧ t.trust.provKeys = false ∧ t.trust.svnFloor = s.trust.svnFloor ∧
      t.mgmt.flash = s.mgmt.flash ∧ t.dict.vals = s.dict.vals ∧ t.pending = s.pending ∧
      (∀ d x, (d, x) ∈ t.pwr.doms → d ≠ 64 → x.st = .retention ∨ x.st = .off) ∧
      (∀ l < 32, (t.lnk l).st = .off ∨ (t.lnk l).st = .mappedOut)))

/-- VIN12_LOW, VIN12_RISE, VAON33_APPLY and VAON33_LOSS (R488, R490 to R492, R518). -/
def Obligations.Supplies : Prop :=
  ∀ (s : State) (mv : Nat) (x : StartFacts),
    let starts := fun (c : Instr) (u : State) =>
      (bitOf u.pwr.refLost 0 = true → Answers c s (fun t => t.clk.phase = .starting ∧ t.mgmt.waitAt = some .clock)) ∧
      (bitOf u.pwr.refLost 0 = false →
        (u.pickBank 0 = none ∨ u.pickBank 1 = none → Answers c s (fun t => t.clk.phase = .bootWait ∧ t.mgmt.waitAt = some .firmware ∧
          (t.mgmt.esm = .init ∨ t.mgmt.esm = .boot) ∧ t.trust.powerOns = u.trust.powerOns + 1)) ∧
        (∀ r e, u.pickBank 0 = some r → u.pickBank 1 = some e →
          (u.pickConfig = none → Answers c s (fun t => t.clk.phase = .hold ∧ t.mgmt.waitAt = some .config ∧
            t.mgmt.esm ≠ .safeop ∧ t.mgmt.esm ≠ .op)) ∧
          (∀ n, u.pickConfig = some n → testOp u.clk.jtag = true → Answers c s (fun t => t.clk.phase = .starting ∧ t.mgmt.waitAt = some .scan)) ∧
          (∀ n, u.pickConfig = some n → testOp u.clk.jtag = false → Answers c s (fun t => t.clk.phase = .service ∧ t.mgmt.waitAt = none ∧
            t.mgmt.cfgBank = n ∧ t.mgmt.fwBanks = r % 2 + e % 2 * 2 ∧ t.trust.powerOns = u.trust.powerOns + 1 ∧ t.trust.provKeys = true ∧
            (t.trust.noId = true ↔ u.mgmt.facts.devIdOk = false) ∧ t.pwr.orphan = true ∧ t.pwr.op = 0 ∧ t.pwr.capW = t.lowestLimit ∧
            t.ren.active = 101 ∧ t.ren.inStep = true ∧ (∀ d < 65, d < 45 ∨ 52 ≤ d → (t.dom d).st = .on) ∧
            (∀ l < 32, (t.lnk l).st = if (u.lnk l).st = .mappedOut then .mappedOut else .training) ∧
            (∀ b < 32, (∀ k ∈ u.mgmt.facts.badSites, k / 120 ≠ b) → t.bayIn b = true) ∧
            (∀ k < 2, u.svnFloor k ≤ t.svnFloor k)))))
    let gone := fun (t : State) => t.jig = Jig.reset ∧ t.srv = State.reset.srv ∧ t.wgt = State.reset.wgt ∧ t.mem = [] ∧ t.drawers = [] ∧
      t.insts = [] ∧ t.trust.provKeys = false ∧ t.trust.keys = [] ∧ t.trust.svnFloor = s.trust.svnFloor ∧ t.trust.powerOns = s.trust.powerOns ∧
      t.mgmt.flash = s.mgmt.flash ∧ t.pending = s.pending
    (s.clk.vin12 = true → s.clk.vaon33 = true → Answers (.vin12Low mv) s (fun t => gone t ∧ t.clk = { s.clk with phase := .off, vin12 := false } ∧
      (∀ d < 64, (t.dom d).st = .off) ∧ (t.dom 64).st = .on ∧ t.mgmt.esm = s.mgmt.esm ∧ t.log.count = (s.log.count + 1) % 65536 ∧
      t.obj 0x3700 8 = (s.obj 0x3700 8 + 1) % 2 ^ 64 ∧
      (∀ ix sub, ix < 0x8000 → sub < 256 → ¬(ix = 0x3700 ∧ sub = 8) → t.obj ix sub = s.obj ix sub) ∧
      (∀ l < 32, (t.lnk l).st = if bitOf (s.obj 0x2601 1) l then .mappedOut else .off))) ∧
    (s.clk.vin12 = true → s.clk.vaon33 = false → exec (.vin12Low mv) s =
      .next { s with clk := { s.clk with vin12 := false }, pwr := { s.pwr with vin12Mv := mv } }) ∧
    (s.clk.vin12 = false → exec (.vin12Low mv) s = .next s) ∧ (s.clk.vin12 = true → exec (.vin12Rise mv x) s = .next s) ∧
    (s.clk.vin12 = false →
      let pop := s.mgmt.population.getD (populationOf x.groups)
      let u : State := { s with clk := { s.clk with vin12 := true }, pwr := { s.pwr with vin12Mv := mv }, mgmt := { s.mgmt with
        facts := { x with groups := pop }, population := some pop } }
      (s.clk.vaon33 = false ∨ s.pwr.trip = true → exec (.vin12Rise mv x) s = .next u) ∧
      (s.clk.vaon33 = true → s.pwr.trip = false → starts (.vin12Rise mv x) u)) ∧
    (s.clk.vaon33 = false →
      let u : State := { s with clk := { Clk.reset with vaon33 := true, vin12 := s.clk.vin12 }, log := ErrLog.reset, pwr := { s.pwr with
        doms := [(64, { st := .on, step := 4 })], vaon33Mv := mv } }
      (s.clk.vin12 = false → exec (.vaon33Apply mv) s = .next u) ∧ (s.clk.vin12 = true → starts (.vaon33Apply mv) u)) ∧
    (s.clk.vaon33 = true → exec (.vaon33Apply mv) s = .next s ∧ Answers .vaon33Loss s (fun t => gone t ∧ t.clk = { Clk.reset with vin12 := s.clk.vin12 } ∧
      t.dict = Dict.reset ∧ t.log = ErrLog.reset ∧ t.mgmt.esm = .init ∧ t.pwr.trip = false ∧ t.host.linkUp = false)) ∧
    (s.clk.vaon33 = false → exec .vaon33Loss s = .next s)

/-- REFCLK_LOSS, REFCLK_RETURN and JTAG_INSTRUCTION (R512, R517, R518). A nonce is an open value. -/
def Obligations.ClocksAndScan : Prop :=
  ∀ (s : State), s.clk.vaon33 = true →
    (∀ n, n < 6 → bitOf s.pwr.refLost n = true → exec (.refclkLoss n) s = .next s) ∧
    (∀ n, n < 6 → bitOf s.pwr.refLost n = false →
      (n = 0 → s.clk.phase = .off → exec (.refclkLoss n) s = .next { s with pwr := { s.pwr with refLost := setBit s.pwr.refLost n } }) ∧
      (n = 0 → s.clk.phase ≠ .off → Answers (.refclkLoss n) s (fun t => t.clk = { s.clk with phase := .off } ∧ t.mgmt.waitAt = some .clock ∧
        t.pwr.refLost = setBit s.pwr.refLost 0 ∧ t.jig = Jig.reset ∧ t.mem = [] ∧ t.trust.provKeys = false ∧
        t.log.count = (s.log.count + 1) % 65536 ∧ t.mgmt.flash = s.mgmt.flash ∧ t.trust.svnFloor = s.trust.svnFloor ∧ t.pending = s.pending)) ∧
      (n = 1 → Answers (.refclkLoss n) s (fun t => t.host.linkUp = false ∧ bitOf t.pwr.refLost 1 = true)) ∧
      (2 ≤ n → Answers (.refclkLoss n) s (fun t => t.pwr = { s.pwr with refLost := setBit s.pwr.refLost n } ∧
        (∀ l, l / 8 = n - 2 → (t.lnk l).st = if (s.lnk l).st = .off ∨ (s.lnk l).st = .mappedOut then (s.lnk l).st else .training) ∧
        (∀ l, l / 8 ≠ n - 2 → t.lnk l = s.lnk l)))) ∧
    (∀ n, n < 6 → bitOf s.pwr.refLost n = false → exec (.refclkReturn n) s = .next s) ∧
    (∀ n, n < 6 → bitOf s.pwr.refLost n = true → n ≠ 0 ∨ s.mgmt.waitAt ≠ some .clock ∨ s.clk.vin12 = false →
      exec (.refclkReturn n) s = .next { s with pwr := { s.pwr with refLost := clrBit s.pwr.refLost n } }) ∧
    (bitOf s.pwr.refLost 0 = true → s.mgmt.waitAt = some .clock → s.clk.vin12 = true → Answers (.refclkReturn 0) s (fun t =>
      bitOf t.pwr.refLost 0 = false ∧ t.mgmt.waitAt ≠ some .clock ∧ t.trust.powerOns = s.trust.powerOns + 1 ∧
      (s.pickBank 0 = none → t.clk.phase = .bootWait))) ∧
    (s.mgmt.waitAt ≠ some .scan →
      exec (.jtagInstruction .other) s = .next { s with clk := { s.clk with jtag := .bypass } } ∧
      (∀ o, o = .bypass ∨ o = .idcode ∨ o = .sample → exec (.jtagInstruction o) s = .next { s with clk := { s.clk with jtag := o } }) ∧
      (∀ o, testOp o = true → s.scanOpen = true → exec (.jtagInstruction o) s = .next { s with clk := { s.clk with jtag := o } })) ∧
    (∀ o, testOp o = true → s.scanOpen = false → Answers (.jtagInstruction o) s (fun t => t.clk = { s.clk with jtag := .bypass } ∧
      t.log.count = (s.log.count + 1) % 65536 ∧ t.sites = s.sites ∧ t.mem = s.mem ∧ t.dict = s.dict)) ∧
    (s.mgmt.waitAt = some .scan → ∀ o, o = .bypass ∨ o = .idcode ∨ o = .sample ∨ o = .other → Answers (.jtagInstruction o) s (fun t =>
      t.clk.phase = .service ∧ t.mgmt.waitAt = none ∧ testOp t.clk.jtag = false)) ∧
    (s.escutcheonUp = true →
      (∃ n, exec (.jtagInstruction (.mailbox none)) s = .next { s with
        clk := { s.clk with jtag := .mailbox none }, free := s.free + 1
        trust := { s.trust with nonces := s.trust.nonces ++ [n] } }) ∧
      ∀ a, exec (.jtagInstruction (.mailbox (some a))) s =
        .next (({ s with clk := { s.clk with jtag := .mailbox none } } : State).presentToken a.1 a.2.1 a.2.2.1 a.2.2.2).2)

/-- RESET, OUT, IN, RECAL, HANDOVER and SUBST (R494 to R498). `State.renewApplies` is the table of the actions. -/
def Obligations.RenewalCommands : Prop :=
  (∀ (s : State) (p a : Nat) (c : Instr), p < 256 →
    (a = 1 ∧ c = .reset p) ∨ (a = 2 ∧ c = .out p) ∨ (a = 3 ∧ c = .in_ p) ∨ (a = 4 ∧ c = .recal p) ∨ (a = 5 ∧ c = .handover p) →
    s.clk.phase ≠ .service ∨ 104 < p ∨ tget s.ren.action p ≠ 0 ∨ s.renewApplies p a 0 = false → Answers c s (fun t =>
      t.obj 0x2010 3 = p + a * 256 + 0x3000 ∧ t.log.count = (s.log.count + 1) % 65536 ∧
      t = { s with dict := { s.dict with vals := t.dict.vals }, log := t.log, host := t.host, out := t.out })) ∧
  (∀ (s : State) (p : Nat),
    (s.renewApplies p 2 0 = true ↔ (p < 40 ∨ (52 ≤ p ∧ p < 100)) ∧ s.part p = 0 ∧ s.linkMapped p = false) ∧
    (s.renewApplies p 3 0 = true ↔ (p < 40 ∨ (52 ≤ p ∧ p < 100)) ∧ (s.part p = 2 ∨ s.part p = 5) ∧ s.linkMapped p = false) ∧
    (s.renewApplies p 4 0 = true → (40 ≤ p ∧ p < 52) ∨ p = 100) ∧ (s.renewApplies p 5 0 = true → 101 ≤ p ∧ p < 105) ∧
    (p = s.ren.active → 101 ≤ p → p < 103 → (s.renewApplies p 1 0 = true ↔ s.ren.inStep = false) ∧ (s.renewApplies p 5 0 = true ↔ s.ren.inStep = true)) ∧
    (∀ arg, p < 32 → 0x8000 ≤ substEntry (s.obj 0x2C02 (p + 1)) (arg % 4) → s.renewApplies p 6 arg = false)) ∧
  (∀ (s : State) (p : Nat), s.clk.phase = .service → p < 105 → tget s.ren.action p = 0 →
    let inc := s.obj 0x2011 (p + 1)
    let runs := fun (a : Nat) (t : State) => t.obj 0x2010 3 = p + a * 256 + 0x1000 ∧ tget t.ren.action p = a
    let ends := fun (a : Nat) (t : State) => t.obj 0x2010 3 = p + a * 256 + 0x2000 ∧ tget t.ren.action p = 0
    (s.renewApplies p 1 0 = true → p < 32 ∨ 40 ≤ p → Answers (.reset p) s (fun t => runs 1 t ∧ t.part p = 3 ∧
      t.obj 0x2011 (p + 1) = (if s.isOut p then inc else (inc + 1) % 256) ∧ (s.isOut p = false → tget t.ren.leftAt p = s.clk.dcount) ∧
      (p < 32 → t.bayIn p = false ∧ (∀ d < 4, (t.drawer p d).st = .empty) ∧ ∀ k x, s.task k = some x → onBay p x = true →
        ∃ y, t.task k = some y ∧ y.status = worst x.status stGone) ∧
      (52 ≤ p → p < 84 → (t.lnk (p - 52)).st = .training ∧ ∀ r ∈ t.link.reqs, r.link ≠ p - 52))) ∧
    (s.renewApplies p 1 0 = true → 32 ≤ p → p < 40 → s.part p = 0 → (∀ b, b / 4 = p - 32 → s.part b = 0 ∧ tget s.ren.action b = 0 ∧
        tget s.jig.held b = none) →
      let out := fun (t : State) => t.obj 0x2011 (p + 1) = (inc + 1) % 256 ∧ ∀ b, b / 4 = p - 32 → t.part b = 2 ∧ t.bayIn b = false
      Answers (.out p) s (fun t => ends 2 t ∧ t.part p = 2 ∧ out t) ∧ Answers (.reset p) s (fun t => runs 1 t ∧ t.part p = 3 ∧ out t)) ∧
    (s.renewApplies p 2 0 = true →
      (p < 32 → tget s.jig.held p = none → Answers (.out p) s (fun t => ends 2 t ∧ t.part p = 2 ∧ t.bayIn p = false ∧
        t.obj 0x2011 (p + 1) = (inc + 1) % 256)) ∧
      (∀ k, p < 32 → tget s.jig.held p = some k → Answers (.out p) s (fun t => runs 2 t ∧ t.part p = 1 ∧ t.bayIn p = false ∧
        t.obj 0x2011 (p + 1) = inc ∧ k ∈ t.jig.preempt ∧ t.jig.held = s.jig.held)) ∧
      (52 ≤ p → Answers (.out p) s (fun t => ends 2 t ∧ t.part p = 2 ∧ t.obj 0x2011 (p + 1) = (inc + 1) % 256 ∧ SameMemory s t))) ∧
    (s.renewApplies p 3 0 = true → Answers (.in_ p) s (fun t => runs 3 t ∧ t.part p = 3 ∧ t.obj 0x2011 (p + 1) = inc ∧
      (p < 32 → ∀ d < 4, (t.drawer p d).st = .empty) ∧ (52 ≤ p → p < 84 → (t.lnk (p - 52)).st = .training) ∧ t.jig = s.jig ∧ t.mem = s.mem)) ∧
    (s.renewApplies p 4 0 = true → Answers (.recal p) s (fun t => runs 4 t ∧ t.part p = 4 ∧ t.obj 0x2011 (p + 1) = inc ∧
      tget t.ren.leftAt p = s.clk.dcount ∧ t = { s with dict := { s.dict with vals := t.dict.vals }, ren := { s.ren with
        action := t.ren.action, leftAt := t.ren.leftAt } })) ∧
    (s.renewApplies p 5 0 = true → Answers (.handover p) s (fun t => t.obj 0x2010 3 = p + 0x2500 ∧ t.part p = s.part p ∧
      t.obj 0x2011 (p + 1) = inc ∧ t.obj 0x3720 (p + 1) = (s.obj 0x3720 (p + 1) + 1) % 2 ^ 64 ∧ t.jig = s.jig ∧
      (p < 103 → t.ren.active = 203 - p ∧ t.ren.inStep = false ∧ bitOf (t.obj 0x2012 (p + 1)) 7 = true ∧
        bitOf (t.obj 0x2012 (204 - p)) 7 = false) ∧
      (103 ≤ p → bitOf t.mgmt.fwBanks (p - 103) = !bitOf s.mgmt.fwBanks (p - 103) ∧ t.ren = s.ren) ∧
      ∀ k < 2, s.svnFloor k ≤ t.svnFloor k)) ∧
    (∀ arg, arg < 65536 → p < 32 → s.renewApplies p 6 arg = true → s.obj 0x2C02 (p + 1) < 2 ^ 64 → Answers (.subst p arg) s (fun t =>
      t.obj 0x2010 3 = p + 0x2600 ∧ substEntry (t.obj 0x2C02 (p + 1)) (arg % 4) = 0x8000 + bits arg 11 8 * 16 + bits arg 15 12 ∧
      (∀ j < 4, j ≠ arg % 4 → substEntry (t.obj 0x2C02 (p + 1)) j = substEntry (s.obj 0x2C02 (p + 1)) j) ∧
      t.obj 0x2C03 (p + 1) = (s.obj 0x2C03 (p + 1) + 1) % 65536 ∧ t = { s with dict := { s.dict with vals := t.dict.vals } })))

/-- RECAL_DONE, PARTITION_RETURN, STANDBY_RESYNC and COPPICE_ACTION (R493 to R499). -/
def Obligations.RenewalReturns : Prop :=
  (∀ (s : State) (p : Nat), p < 105 →
    let v := s.obj 0x2010 3
    let named := v % 256 = p ∧ v / 4096 % 16 = 1
    let result := fun (r : Nat) (t : State) => t.obj 0x2010 3 = if named then v % 4096 + r * 4096 else v
    let back := fun (t : State) => t.part p = 0 ∧ tget t.ren.action p = 0 ∧ result 2 t
    let fails := fun (t : State) => t.part p = 2 ∧ tget t.ren.action p = 0 ∧ result 4 t
    let counts := fun (t : State) => t.obj 0x3720 (p + 1) = (s.obj 0x3720 (p + 1) + 1) % 2 ^ 64
    (s.part p ≠ 4 → exec (.recalDone p) s = .next s) ∧
    (s.part p = 4 → Answers (.recalDone p) s (fun t => back t ∧ t.obj 0x2011 (p + 1) = s.obj 0x2011 (p + 1) ∧ t.mem = s.mem ∧
      (40 ≤ p → p < 52 → (∀ u ∈ groupUnits p, ∀ e ∈ t.code.spent, e.1 ≠ u) ∧
        ∀ (i : Nat) (a : Acc), s.tier.accs[i]? = some a → a.tier = domTier p → a.st = .flight → a.since ≤ s.clk.dcount → tget s.ren.leftAt p ≤ s.clk.dcount →
          ∃ b : Acc, t.tier.accs[i]? = some b ∧ b.since = min s.clk.dcount (a.since + (s.clk.dcount - tget s.ren.leftAt p))))) ∧
    (∀ ok x y, s.part p ≠ 3 ∨ s.clk.dcount < tget s.ren.leftAt p + s.drainBound p → p ≠ 103 →
      exec (.partitionReturn p ok x y) s = .next s) ∧
    (s.part p = 3 → tget s.ren.leftAt p + s.drainBound p ≤ s.clk.dcount →
      (p < 32 → p ∉ s.ren.noSpare → ∀ x y, (∀ k ∈ x, k / 120 ≠ p) →
        Answers (.partitionReturn p true x y) s (fun t => back t ∧ counts t ∧ t.bayIn p = true) ∧
        Answers (.partitionReturn p false x y) s (fun t => fails t)) ∧
      (p < 32 → ∀ ok y row col j, row < 10 → col < 12 → spareFor row col = some j → 0x8000 ≤ substEntry (s.obj 0x2C02 (p + 1)) j →
        Answers (.partitionReturn p ok [p * 120 + row * 12 + col] y) s (fun t => t.part p = 5 ∧ t.bayIn p = false ∧ result 4 t ∧ p ∈ t.ren.noSpare)) ∧
      (∀ ok x y, 52 ≤ p → p < 84 →
        ((s.lnk (p - 52)).st = .up → Answers (.partitionReturn p ok x y) s (fun t => back t ∧ counts t)) ∧
        ((s.lnk (p - 52)).st = .mappedOut → Answers (.partitionReturn p ok x y) s fails) ∧
        ((s.lnk (p - 52)).st ≠ .up → (s.lnk (p - 52)).st ≠ .mappedOut → exec (.partitionReturn p ok x y) s = .next s)) ∧
      (∀ x y, (32 ≤ p ∧ p < 52) ∨ 84 ≤ p → p ≠ 103 → Answers (.partitionReturn p false x y) s fails ∧
        Answers (.partitionReturn p true x y) s (fun t => back t ∧ counts t ∧
          (40 ≤ p → p < 52 → p ∈ s.tierDoms (domTier p) → (∀ e ∈ s.tierDoms (domTier p), e ≠ p → e ∈ s.ren.passed) →
            (domTier p ≠ 1 → t.tierSt (domTier p) = 1 ∧ t.tier.objs = s.tier.objs) ∧
            (domTier p = 1 → t.recovery = false ∧ t.tier.objs = [] ∧ t.tier.leaf = [] ∧ (s.tierSt 1 ≠ 0 → t.tierSt 1 = 1))))) ∧
      (∀ x y, p = 103 → s.mgmt.held = [] → Answers (.partitionReturn p true x y) s (fun t => back t ∧ counts t)))) ∧
  (∀ (s : State), (s.part (203 - s.ren.active) = 0 → exec .standbyResync s = .next { s with ren := { s.ren with inStep := true } }) ∧
    (s.part (203 - s.ren.active) ≠ 0 → exec .standbyResync s = .next s)) ∧
  (∀ (s : State) (rest : List Report), s.clk.phase = .service →
    (s.ren.reports = [] → exec .coppiceAction s = .next s) ∧
    (∀ b, s.ren.reports = .bay b :: rest → b < 32 →
      (tget s.ren.action b ≠ 0 → exec .coppiceAction s = .next { s with ren := { s.ren with reports := rest ++ [.bay b] } }) ∧
      (tget s.ren.action b = 0 → s.part b = 0 → tget s.jig.held b = none → Answers .coppiceAction s (fun t => t.part b = 2 ∧ t.bayIn b = false ∧
        t.ren.reports = rest ++ [.back b] ∧ t.obj 0x2011 (b + 1) = (s.obj 0x2011 (b + 1) + 1) % 256))) ∧
    (∀ b, s.ren.reports = .back b :: rest → b < 32 → tget s.ren.action b = 0 → s.part b = 2 →
      Answers .coppiceAction s (fun t => t.part b = 3 ∧ tget t.ren.action b = 3 ∧ t.ren.reports = rest ∧ ∀ d < 4, (t.drawer b d).st = .empty)) ∧
    (∀ l lane, s.ren.reports = .lane l lane :: rest →
      ((s.lnk l).rxSwap = none → Answers .coppiceAction s (fun t => (t.lnk l).rxSwap = some lane ∧ t.ren.reports = rest ∧
        ∀ k ≠ l, t.lnk k = s.lnk k)) ∧
      ((s.lnk l).rxSwap.isSome = true → Answers .coppiceAction s (fun t => (t.lnk l).st = .mappedOut ∧ t.ren.reports = rest))))

/-- Each command is its operation, whatever the state (R16, R29). -/
def Obligations.EachCommandDoesItsOperation : Prop :=
  ∀ (s : State),
    ((∀ (win : Nat), win < 5 → exec (.windowIntervalStart win) s = .next (opWindowIntervalStart win s)) ∧
    (∀ (bay row col input : Nat) (tok : Option DTok) (symErr bitErr : Nat), (siteOk bay row col && input < 5) = true →
      exec (.dataTokenArrive bay row col input tok symErr bitErr) s =
        .next (opDataTokenArrive bay row col input tok symErr bitErr s)) ∧
    (∀ (bay row col input : Nat) (tok : Option CTok) (bitErr : Nat), (siteOk bay row col && input < 5) = true →
      exec (.controlTokenArrive bay row col input tok bitErr) s =
        .next (opControlTokenArrive bay row col input tok bitErr s)) ∧
    (∀ (bay row col lane : Nat), (siteOk bay row col && lane < 12) = true →
      exec (.creditReturn bay row col lane) s = .next (opCreditReturn bay row col lane s)) ∧
    (∀ (bay row col lane : Nat), (siteOk bay row col && lane < 12) = true →
      exec (.tokenSend bay row col lane) s = .next (opTokenSend bay row col lane s)) ∧
    (∀ (bay row col : Nat), siteOk bay row col = true →
      exec (.stagingAccept bay row col) s = .next (opStagingAccept bay row col s)) ∧
    (∀ (bay row col : Nat), siteOk bay row col = true → exec (.pred bay row col) s = .next (opPred bay row col s)) ∧
    (∀ (bay row col : Nat), siteOk bay row col = true → exec (.sel bay row col) s = .next (opSel bay row col s)) ∧
    (∀ (bay row col input : Nat), (siteOk bay row col && input < 5) = true →
      exec (.shape bay row col input) s = .next (opShape bay row col input s)) ∧
    (∀ (bay row col input : Nat), (siteOk bay row col && input < 5) = true →
      exec (.claim bay row col input) s = .next (opClaim bay row col input s)) ∧
    (∀ (bay row col input : Nat), (siteOk bay row col && input < 5) = true →
      exec (.fence bay row col input) s = .next (opFence bay row col input s)) ∧
    (∀ (bay row col input : Nat), (siteOk bay row col && input < 5) = true →
      exec (.switch bay row col input) s = .next (opSwitch bay row col input s)) ∧
    (∀ (bay row col input : Nat), (siteOk bay row col && input < 5) = true →
      exec (.lutflip bay row col input) s = .next (opLutflip bay row col input s)) ∧
    (∀ (bay row col input : Nat), (siteOk bay row col && input < 5) = true →
      exec (.fault bay row col input) s = .next (opFault bay row col input s)) ∧
    (∀ (bay row col ctx seq : Nat), (siteOk bay row col && ctx < 4) = true →
      exec (.pairWatchdogExpiry bay row col ctx seq) s = .next (opPairWatchdogExpiry bay row col ctx seq s)) ∧
    (∀ (bay d image digestAt b0 task sect : Nat), (bay < 32 && d < 4 && b0 < 32) = true →
      exec (.load bay d image digestAt b0 task sect) s = .next (opLoad bay d image digestAt b0 task sect s)) ∧
    (∀ (bay d task : Nat), (bay < 32 && d < 4) = true → exec (.arm bay d task) s = .next (opArm bay d task s)) ∧
    (∀ (bay d b0 task : Nat), (bay < 32 && d < 4 && b0 < 32) = true →
      exec (.activate bay d b0 task) s = .next (opActivate bay d b0 task s)) ∧
    (∀ (bay d task : Nat), (bay < 32 && d < 4) = true → exec (.clear bay d task) s = .next (opClear bay d task s)) ∧
    (∀ (bay d : Nat), (bay < 32 && d < 4) = true → exec (.loadStart bay d) s = .next (opLoadStart bay d s)) ∧
    (∀ (bay d : Nat) (errs : List SymErr) (flip1 flip2 : List (Nat × Nat)), (bay < 32 && d < 4) = true →
      exec (.loadFinish bay d errs flip1 flip2) s = .next (opLoadFinish bay d errs flip1 flip2 s)) ∧
    (∀ (bay d : Nat), (bay < 32 && d < 4) = true → exec (.loadWaitTimeout bay d) s = .next (opLoadWaitTimeout bay d s)) ∧
    (∀ (bay row col d : Nat), (siteOk bay row col && d < 4) = true →
      exec (.sourceSwitch bay row col d) s = .next (opSourceSwitch bay row col d s)) ∧
    (∀ (bay d : Nat), (bay < 32 && d < 4) = true → exec (.bayQuiescent bay d) s = .next (opBayQuiescent bay d s))) ∧
    ((∀ (bay : Nat), bay < 32 → exec (.chainedAdvance bay) s = .next (opChainedAdvance bay s)) ∧
    (∀ (bay d : Nat), (bay < 32 && d < 4) = true → exec (.accountingTick bay d) s = .next (opAccountingTick bay d s)) ∧
    (∀ (bay row col : Nat), siteOk bay row col = true → exec (.mxcMac bay row col) s = .next (opMxcMac bay row col s)) ∧
    (∀ (bay row col : Nat), siteOk bay row col = true →
      exec (.mxcScale bay row col) s = .next (opMxcScale bay row col s)) ∧
    (∀ (bay row col : Nat), siteOk bay row col = true →
      exec (.mxcImport bay row col) s = .next (opMxcImport bay row col s)) ∧
    (∀ (bay row col input : Nat), (siteOk bay row col && input < 5) = true →
      exec (.drainRoundClear bay row col input) s = .next (drainHead bay row col input 0 s)) ∧
    (∀ (bay row col input : Nat), (siteOk bay row col && input < 5) = true →
      exec (.drainRoundKeep bay row col input) s = .next (drainHead bay row col input 1 s)) ∧
    (∀ (bay row col input : Nat), (siteOk bay row col && input < 5) = true →
      exec (.drainExportClear bay row col input) s = .next (drainHead bay row col input 2 s)) ∧
    (∀ (bay row col input : Nat), (siteOk bay row col && input < 5) = true →
      exec (.drainClear bay row col input) s = .next (drainHead bay row col input 3 s)) ∧
    (∀ (bay row col : Nat), siteOk bay row col = true → exec (.fncNone bay row col) s = .next (fncOp 0 bay row col s)) ∧
    (∀ (bay row col : Nat), siteOk bay row col = true → exec (.convert bay row col) s = .next (fncOp 1 bay row col s)) ∧
    (∀ (bay row col : Nat), siteOk bay row col = true → exec (.func bay row col) s = .next (fncOp 2 bay row col s)) ∧
    (∀ (bay row col : Nat), siteOk bay row col = true → exec (.fuse bay row col) s = .next (fncOp 3 bay row col s)) ∧
    (∀ (bay row col : Nat), siteOk bay row col = true → exec (.select bay row col) s = .next (fncOp 4 bay row col s)) ∧
    (∀ (bay row col : Nat), siteOk bay row col = true → exec (.test bay row col) s = .next (fncOp 5 bay row col s)) ∧
    (∀ (bay row col : Nat), siteOk bay row col = true → exec (.lookup bay row col) s = .next (fncOp 6 bay row col s)) ∧
    (∀ (bay row col : Nat), siteOk bay row col = true → exec (.smaxMax bay row col) s = .next (fncOp 7 bay row col s)) ∧
    (∀ (bay row col : Nat), siteOk bay row col = true → exec (.smaxExp bay row col) s = .next (fncOp 8 bay row col s)) ∧
    (∀ (bay row col : Nat), siteOk bay row col = true → exec (.smaxDiv bay row col) s = .next (fncOp 9 bay row col s)) ∧
    (∀ (bay row col : Nat), siteOk bay row col = true → exec (.rowstat bay row col) s = .next (fncOp 10 bay row col s)) ∧
    (∀ (bay row col : Nat), siteOk bay row col = true → exec (.slice bay row col) s = .next (fncOp 11 bay row col s)) ∧
    (∀ (bay row col : Nat), siteOk bay row col = true →
      exec (.recombine bay row col) s = .next (fncOp 12 bay row col s)) ∧
    (∀ (bay row col : Nat), siteOk bay row col = true → exec (.lutOpen bay row col) s = .next (opLutOpen bay row col s)) ∧
    (∀ (bay row col : Nat), siteOk bay row col = true →
      exec (.lutWrite bay row col) s = .next (opLutWrite bay row col s))) ∧
    ((∀ (bay row col d bank : Nat), (siteOk bay row col && d < 4 && bank < 2) = true →
      exec (.lutBankDrained bay row col d bank) s = .next (opLutBankDrained bay row col d bank s)) ∧
    (∀ (bay row col ctx : Nat), (siteOk bay row col && ctx < 4) = true →
      exec (.lutflipWaitTimeout bay row col ctx) s = .next (opLutflipWaitTimeout bay row col ctx s)) ∧
    (∀ (value : Nat), exec (.edgeModeWrite value) s = .next (s.writeEdgeMode (value % 2 ^ 32))) ∧
    (∀ (bay : Nat), bay < 32 → exec (.edgeModeClearEffect bay) s = .next (opEdgeModeClearEffect bay s)) ∧
    (∀ (bay d : Nat), (bay < 32 && d < 4) = true → exec (.claimAsk bay d) s = .next (opClaimAsk bay d s)) ∧
    (∀ (b0 d : Nat), (b0 < 32 && d < 4) = true → exec (.pacerRelease b0 d) s = .next (opPacerRelease b0 d s)) ∧
    (∀ (b0 d : Nat) (remote : Option (Nat × Nat × Nat)), (b0 < 32 && d < 4) = true →
      exec (.tallyRequest b0 d remote) s = .next (opTallyRequest b0 d remote s)) ∧
    (∀ (b0 d : Nat), (b0 < 32 && d < 4) = true → exec (.tallyAnswer b0 d) s = .next (opTallyAnswer b0 d s)) ∧
    (∀ (bay row col d k : Nat), (siteOk bay row col && d < 4 && k < 8) = true →
      exec (.ftuTransferIssue bay row col d k) s = .next (opFtuTransferIssue bay row col d k s)) ∧
    (∀ (acc : Nat), exec (.ftuTransferReply acc) s = .next (opFtuTransferReply acc s)) ∧
    (∀ (bay row col d : Nat), (siteOk bay row col && d < 4) = true →
      exec (.scratchBufferReadout bay row col d) s = .next (opScratchBufferReadout bay row col d s)) ∧
    (∀ (bay row col : Nat), siteOk bay row col = true →
      exec (.pleachWaitTimeout bay row col) s = .next (opPleachWaitTimeout bay row col s)) ∧
    (∀ (q : Req) (base tiles place prio : Nat) (lost : Bool),
      exec (.create q base tiles place prio lost) s = .next (opCreate q base tiles place prio lost s)) ∧
    (∀ (q : Req) (object place prio : Nat), exec (.place q object place prio) s = .next (opPlace q object place prio s)) ∧
    (∀ (q : Req) (object first count tier : Nat),
      exec (.move q object first count tier) s = .next (opMove q object first count tier s)) ∧
    (∀ (q : Req) (object : Nat), exec (.free q object) s = .next (opFree q object s)) ∧
    (∀ (object : Nat), exec (.freeRelease object) s = .next (opFreeRelease object s)) ∧
    (∀ (q : Req) (object addr : Nat), exec (.query q object addr) s = .next (opQuery q object addr s)) ∧
    (∀ (acc : Nat), exec (.translation acc) s = .next (opTranslation acc s)) ∧
    (∀ (tier : Nat), (1 ≤ tier && tier ≤ 3) = true → exec (.settleReturn tier) s = .next (opSettleReturn tier s)) ∧
    (∀ (die : Nat), die < 4 → exec (.moveStart die) s = .next (opMoveStart die s)) ∧
    (∀ (tile : Nat) (errs : List SymErr) (poisoned : List Nat),
      exec (.moveCopy tile errs poisoned) s = .next (opMoveCopy tile errs poisoned s)) ∧
    (∀ (tile : Nat), exec (.moveCommit tile) s = .next (opMoveCommit tile s)) ∧
    (∀ (tile : Nat), exec (.oldFrameFree tile) s = .next (opOldFrameFree tile s))) ∧
    ((∀ (acc : Nat) (errs : List SymErr) (tagBad poisoned : List Nat) (bursts : List (Nat × Nat)),
      exec (.tierReply acc errs tagBad poisoned bursts) s = .next (opTierReply acc errs tagBad poisoned bursts s)) ∧
    (∀ (acc : Nat) (errs : List SymErr) (tagBad poisoned : List Nat),
      exec (.tagReread acc errs tagBad poisoned) s = .next (opTagReread acc errs tagBad poisoned s)) ∧
    (∀ (acc : Nat), exec (.accessLimitExpiry acc) s = .next (opAccessLimitExpiry acc s)) ∧
    (∀ (tier : Nat), (1 ≤ tier && tier ≤ 3) = true → exec (.tierFailure tier) s = .next (opTierFailure tier s)) ∧
    (∀ (addr : Nat), exec (.dirProbe addr) s = .next (opDirProbe addr s)) ∧
    (∀ (set : Nat), set < 16 → exec (.nearRetrain set) s = .next (opNearRetrain set s)) ∧
    (∀ (channel : Nat), channel < 12 → exec (.ddr5Retrain channel) s = .next (opDdr5Retrain channel s)) ∧
    (∀ (word : Nat) (errs : List SymErr) (overtaken lost : Bool),
      exec (.scrubRead word errs overtaken lost) s = .next (opScrubRead word errs overtaken lost s)) ∧
    (∀ (value : Nat), exec (.reserveSpend value) s = .next (opReserveSpend value s)) ∧
    (∀ (x : Nat), x < 8 → exec (.expanderFatal x) s = .next (opExpanderFatal x s)) ∧
    (∀ (x : Nat), x < 8 → exec (.expanderCorrectable x) s = .next (opExpanderCorrectable x s)) ∧
    (∀ (x : Nat), x < 8 → exec (.expanderMalformed x) s = .next (opExpanderMalformed x s)) ∧
    (∀ (x word : Nat), x < 8 → exec (.expanderMediaError x word) s = .next (opExpanderMediaError x word s)) ∧
    (∀ (x detail : Nat), x < 8 → exec (.expanderEventRecord x detail) s = .next (opExpanderEventRecord x detail s)) ∧
    (∀ (q : Req) (header cut : Nat), exec (.register q header cut) s = .next (opRegister q header cut s)) ∧
    (∀ (q : Req) (h : Nat), exec (.unregister q h) s = .next (opUnregister q h s)) ∧
    (∀ (q : Req) (header : Nat), exec (.submit q header) s = .next (opSubmit q header s)) ∧
    (∀ (g : Nat), exec (.graphCountDone g) s = .next (opGraphCountDone g s)) ∧
    (∀ (q : Req) (object : Nat), exec (.savepool q object) s = .next (opSavepool q object s)) ∧
    (∀ (g t : Nat), exec (.taskIssue g t) s = .next (opTaskIssue g t s)) ∧
    (∀ (g t : Nat), exec (.issueReadsDone g t) s = .next (opIssueReadsDone g t s)) ∧
    (∀ (bay : Nat), bay < 32 → exec (.preempt bay) s = .next (opPreempt bay s)) ∧
    (∀ (bay : Nat), bay < 32 → exec (.saveFreeze bay) s = .next (opSaveFreeze bay s)) ∧
    (∀ (bay : Nat), bay < 32 → exec (.saveStreamEnd bay) s = .next (opSaveStreamEnd bay s))) ∧
    ((∀ (bay : Nat), bay < 32 → exec (.saveComplete bay) s = .next (opSaveComplete bay s)) ∧
    (∀ (bay : Nat), bay < 32 → exec (.restore bay) s = .next (opRestore bay s)) ∧
    (∀ (bay : Nat), bay < 32 → exec (.restoreResume bay) s = .next (opRestoreResume bay s)) ∧
    (∀ (g t : Nat), exec (.quantumExpiry g t) s = .next (opQuantumExpiry g t s)) ∧
    (∀ (g t : Nat), exec (.taskComplete g t) s = .next (opTaskComplete g t s)) ∧
    (∀ (g t : Nat), exec (.taskTeardown g t) s = .next (opTaskTeardown g t s)) ∧
    (∀ (g t : Nat), exec (.teardownFinish g t) s = .next (opTeardownFinish g t s)) ∧
    (∀ (q : Req) (slot adapter manifest len base tier prio flags : Nat) (sigOk : Bool),
      exec (.intake q slot adapter manifest len base tier prio flags sigOk) s =
        .next (opIntake q slot adapter manifest len base tier prio flags sigOk s)) ∧
    (∀ (q : Req) (slot adapter shard kind addr : Nat),
      exec (.shardReady q slot adapter shard kind addr) s = .next (opShardReady q slot adapter shard kind addr s)) ∧
    (∀ (planer : Nat) (data : Option (List Nat)), planer < 4 →
      exec (.planerShardStart planer data) s = .next (opPlanerShardStart planer data s)) ∧
    (∀ (planer : Nat), planer < 4 → exec (.shardCheck planer) s = .next (opShardCheck planer s)) ∧
    (∀ (slot adapter : Nat), exec (.shardTimeout slot adapter) s = .next (opShardTimeout slot adapter s)) ∧
    (∀ (slot adapter : Nat), exec (.generationStaged slot adapter) s = .next (opGenerationStaged slot adapter s)) ∧
    (∀ (q : Req) (slot adapter flags : Nat),
      exec (.commit q slot adapter flags) s = .next (opCommit q slot adapter flags s)) ∧
    (∀ (slot adapter : Nat), exec (.generationSwitch slot adapter) s = .next (opGenerationSwitch slot adapter s)) ∧
    (∀ (q : Req) (slot adapter : Nat), exec (.discard q slot adapter) s = .next (opDiscard q slot adapter s)) ∧
    (∀ (q : Req) (slot adapter : Nat), exec (.retire q slot adapter) s = .next (opRetire q slot adapter s)) ∧
    (∀ (q : Req) (slot gen : Nat), exec (.hold q slot gen) s = .next (opHold q slot gen s)) ∧
    (∀ (q : Req) (slot gen : Nat), exec (.release q slot gen) s = .next (opRelease q slot gen s)) ∧
    (∀ (q : Req) (slot addr : Nat), exec (.slotQuery q slot addr) s = .next (opSlotQuery q slot addr s)) ∧
    (∀ (q : Req) (slot : Nat), exec (.releaseSlot q slot) s = .next (opReleaseSlot q slot s)) ∧
    (∀ (planer slot adapter gen tile : Nat), planer < 4 →
      exec (.weightScrub planer slot adapter gen tile) s = .next (opWeightScrub planer slot adapter gen tile s)) ∧
    (∀ (q : Req) (object runPages cellTiles : Nat),
      exec (.kvpool q object runPages cellTiles) s = .next (opKvpool q object runPages cellTiles s)) ∧
    (∀ (q : Req) (slot prefill decode verify groups vocab context template area areaLen : Nat),
      exec (.serve q slot prefill decode verify groups vocab context template area areaLen) s =
        .next (opServe q slot prefill decode verify groups vocab context template area areaLen s))) ∧
    ((∀ (q : Req) (slot : Nat), exec (.unserve q slot) s = .next (opUnserve q slot s)) ∧
    (∀ (q : Req) (entry addr : Nat), exec (.entryQuery q entry addr) s = .next (opEntryQuery q entry addr s)) ∧
    (∀ (q : Req) (entry : Nat), exec (.cancel q entry) s = .next (opCancel q entry s)) ∧
    (∀ (q : Req) (flags desc hostStatus : Nat) (hostDesc hostPrompt : List Nat),
      exec (.request q flags desc hostStatus hostDesc hostPrompt) s =
        .next (opRequest q flags desc hostStatus hostDesc hostPrompt s)) ∧
    (∀ (entry : Nat), entry < 65536 → exec (.thicketLookup entry) s = .next (opThicketLookup entry s)) ∧
    (∀ (entry : Nat), entry < 65536 → exec (.walkDone entry) s = .next (opWalkDone entry s)) ∧
    (∀ (entry : Nat), entry < 65536 → exec (.publish entry) s = .next (opPublish entry s)) ∧
    (∀ (func : Nat), func < 64 → exec (.evictLeaf func) s = .next (opEvictLeaf func s)) ∧
    (∀ (func : Nat), func < 64 → exec (.purge func) s = .next (opPurge func s)) ∧
    (∀ (entry : Nat), entry < 65536 → exec (.deadline entry) s = .next (opDeadline entry s)) ∧
    (∀ (entry : Nat), entry < 65536 → exec (.batchClose entry) s = .next (opBatchClose entry s)) ∧
    (∀ (entry : Nat), entry < 65536 → exec (.batchWaitExpiry entry) s = .next (opBatchWaitExpiry entry s)) ∧
    (∀ (batch : Nat), exec (.batchTaskDone batch) s = .next (opBatchTaskDone batch s)) ∧
    (∀ (entry : Nat), entry < 65536 → exec (.entryFinish entry) s = .next (opEntryFinish entry s)) ∧
    (∀ (batch member : Nat), exec (.pruneRow batch member) s = .next (opPruneRow batch member s)) ∧
    (∀ (batch member : Nat), exec (.graftDecision batch member) s = .next (opGraftDecision batch member s)) ∧
    (∀ (func ring value : Nat), func < 64 → exec (.sqTail func ring value) s = .next (opSqTail func ring value s)) ∧
    (∀ (func ring value : Nat), func < 64 → exec (.cqHead func ring value) s = .next (opCqHead func ring value s)) ∧
    (∀ (func ring value : Nat), func < 64 →
      exec (.ringEnable func ring value) s = .next (opRingEnable func ring value s)) ∧
    (∀ (func ring value : Nat), func < 64 →
      exec (.ringDisable func ring value) s = .next (opRingDisable func ring value s)) ∧
    (∀ (ring : Nat), ring < 16384 → exec (.ringStopped ring) s = .next (opRingStopped ring s)) ∧
    (∀ (ring : Nat), ring < 16384 → exec (.ringEntryRead ring) s = .next (opRingEntryRead ring s)) ∧
    (∀ (ring : Nat) (entry : List Nat), ring < 16384 →
      exec (.submissionEntry ring entry) s = .next (opSubmissionEntry ring entry s)) ∧
    (∀ (ring : Nat), ring < 16384 → exec (.completionWrite ring) s = .next (opCompletionWrite ring s))) ∧
    ((∀ (ring : Nat), ring < 16384 → exec (.cqStallExpiry ring) s = .next (opCqStallExpiry ring s)) ∧
    (∀ (ring : Nat), ring < 16384 → exec (.coalTimeExpiry ring) s = .next (opCoalTimeExpiry ring s)) ∧
    (∀ (func vector : Nat), (func < 64 && vector < 256) = true →
      exec (.msixPendingSend func vector) s = .next (opMsixPendingSend func vector s)) ∧
    (∀ (func first count : Nat), func < 64 →
      exec (.ringRangeWrite func first count) s = .next (opRingRangeWrite func first count s)) ∧
    (∀ (func vectors : Nat), func < 64 → exec (.vectorsWrite func vectors) s = .next (opVectorsWrite func vectors s)) ∧
    (∀ (window length : Nat), window < 256 →
      exec (.hdmWindowWrite window length) s = .next (opHdmWindowWrite window length s)) ∧
    (∀ (window : Nat), window < 256 → exec (.hdmInvalidateDone window) s = .next (opHdmInvalidateDone window s)) ∧
    (∀ (enable : Bool) (numVfs : Nat),
      exec (.vfEnableChange enable numVfs) s = .next (opVfEnableChange enable numVfs s)) ∧
    (∀ (func : Nat), func < 64 → exec (.flr func) s = .next (opFlr func s)) ∧
    (∀ (dpa : Nat) (tee cache : Bool) (tag : Nat),
      exec (.hostMemRead dpa tee cache tag) s = .next (opHostMemRead dpa tee cache tag s)) ∧
    (∀ (dpa : Nat) (data : List Nat) (tee : Bool) (tag : Nat),
      exec (.hostMemWrite dpa data tee tag) s = .next (opHostMemWrite dpa data tee tag s)) ∧
    (∀ (line : Nat), exec (.birsp line) s = .next (opBirsp line s)) ∧
    (∀ (addr : Nat), exec (.hostSnoop addr) s = .next (opHostSnoop addr s)) ∧
    (∀ (tag : Nat) (ok : Bool) (data : List Nat),
      exec (.hostReadResponse tag ok data) s = .next (opHostReadResponse tag ok data s)) ∧
    (∀ (tag : Nat), exec (.hostReadLimitExpiry tag) s = .next (opHostReadLimitExpiry tag s)) ∧
    (∀ (rate width : Nat), exec (.hostLinkTrained rate width) s = .next (opHostLinkTrained rate width s)) ∧
    (∀ (func : Nat), func < 64 → exec (.busMasterClear func) s = .next (opBusMasterClear func s)) ∧
    (∀ (func bar : Nat), exec (.unsupportedRequest func bar) s = .next (opUnsupportedRequest func bar s)) ∧
    (∀ (func : Nat) (reg : CfgReg) (write : Option Nat), func < 64 →
      exec (.configurationRequest func reg write) s = .next (opConfigurationRequest func reg write s)) ∧
    (∀ (func group value : Nat), func < 64 →
      exec (.causeWrite func group value) s = .next (opCauseWrite func group value s)) ∧
    (∀ (func bar offset len : Nat) (value : Option Nat) (v : Verdict),
      exec (.registerWrite func bar offset len value v) s = .next (opRegisterWrite func bar offset len value v s)) ∧
    (∀ (q : Req) (addr len hostStatus : Nat) (bundle : List Nat) (tagOk : Bool) (payload : List Nat), q.func < 64 →
      exec (.keyLoad q addr len hostStatus bundle tagOk payload) s =
        .next (opKeyLoad q addr len hostStatus bundle tagOk payload s)) ∧
    (∀ (func : Nat) (tagBad : List Nat), func < 64 →
      exec (.keyRollDone func tagBad) s = .next (opKeyRollDone func tagBad s)) ∧
    (∀ (q : Req) (func : Nat), exec (.tenantEnd q func) s = .next (opTenantEnd q func s))) ∧
    ((∀ (q : Req) (addr : Nat), exec (.debugNonce q addr) s = .next (opDebugNonce q addr s)) ∧
    (∀ (q : Req) (addr serial nonce scope : Nat) (sigOk : Bool),
      exec (.debugUnlock q addr serial nonce scope sigOk) s = .next (opDebugUnlock q addr serial nonce scope sigOk s)) ∧
    (∀ (func version : Nat) (msg : SpdmMsg), func < 64 →
      exec (.spdmRequest func version msg) s = .next (opSpdmRequest func version msg s)) ∧
    (∀ (func : Nat) (session : Option Nat) (nonce : Nat), func < 64 →
      exec (.measurements func session nonce) s = .next (opMeasurements func session nonce s)) ∧
    (∀ (func : Nat), func < 64 → exec (.tspLock func) s = .next (opTspLock func s)) ∧
    (∀ (func : Nat), func < 64 → exec (.tspUnlock func) s = .next (opTspUnlock func s)) ∧
    (∀ (link : Nat), link < 32 → exec (.frameTransmit link) s = .next (opFrameTransmit link s)) ∧
    (∀ (link : Nat) (f : RxFrame), link < 32 → exec (.frameReceive link f) s = .next (opFrameReceive link f s)) ∧
    (∀ (link : Nat), link < 32 → exec (.ackTimeout link) s = .next (opAckTimeout link s)) ∧
    (∀ (link lane : Nat), (link < 32 && lane < 5) = true →
      exec (.laneLockLoss link lane) s = .next (opLaneLockLoss link lane s)) ∧
    (∀ (link : Nat), link < 32 → exec (.linkRead link) s = .next (opLinkRead link s)) ∧
    (∀ (link : Nat), link < 32 → exec (.linkWrite link) s = .next (opLinkWrite link s)) ∧
    (∀ (link : Nat), link < 32 → exec (.linkAtomic link) s = .next (opLinkAtomic link s)) ∧
    (∀ (link : Nat), link < 32 → exec (.linkClaim link) s = .next (opLinkClaim link s)) ∧
    (∀ (link : Nat), link < 32 → exec (.linkTokens link) s = .next (opLinkTokens link s)) ∧
    (∀ (link : Nat), link < 32 → exec (.linkDoorbell link) s = .next (opLinkDoorbell link s)) ∧
    (∀ (link : Nat), link < 32 → exec (.linkResp link) s = .next (opLinkResp link s)) ∧
    (∀ (link : Nat), link < 32 → exec (.messageForward link) s = .next (opMessageForward link s)) ∧
    (∀ (link addr mode : Nat) (credits : List Nat), link < 32 →
      exec (.hello link addr mode credits) s = .next (opHello link addr mode credits s)) ∧
    (∀ (link : Nat) (credits : List Nat), link < 32 →
      exec (.creditInit link credits) s = .next (opCreditInit link credits s)) ∧
    (∀ (link : Nat), link < 32 → exec (.rekey link) s = .next (opRekey link s)) ∧
    (∀ (link lane : Nat) (sleep : Bool), (link < 32 && lane < 5) = true →
      exec (.swap link lane sleep) s = .next (opSwap link lane sleep s)) ∧
    (∀ (link : Nat), link < 32 → exec (.sleep link) s = .next (opSleep link s)) ∧
    (∀ (link : Nat), link < 32 → exec (.sleepAck link) s = .next (opSleepAck link s))) ∧
    ((∀ (xid : Nat), exec (.linkReqExpiry xid) s = .next (opLinkReqExpiry xid s)) ∧
    (∀ (link : Nat), link < 32 → exec (.rekeyIntervalExpiry link) s = .next (opRekeyIntervalExpiry link s)) ∧
    (∀ (link : Nat), link < 32 → exec (.linkIdleExpiry link) s = .next (opLinkIdleExpiry link s)) ∧
    (∀ (link : Nat), link < 32 → exec (.wakePattern link) s = .next (opWakePattern link s)) ∧
    (∀ (link : Nat) (ok : Bool), link < 32 → exec (.linkTrainingDone link ok) s = .next (opLinkTrainingDone link ok s)) ∧
    (∀ (link : Nat) (ok : Bool) (serial : Nat), link < 32 →
      exec (.keyAgreementDone link ok serial) s = .next (opKeyAgreementDone link ok serial s)) ∧
    (∀ (link code : Nat), link < 32 → exec (.linkReadmit link code) s = .next (opLinkReadmit link code s)) ∧
    (∀ (link : Nat), link < 32 → exec (.linkMapOut link) s = .next (opLinkMapOut link s)) ∧
    (∀ (link lane : Nat), (link < 32 && lane < 5) = true →
      exec (.linkMaintSwap link lane) s = .next (opLinkMaintSwap link lane s)) ∧
    (∀ (value : Nat), exec (.maintWindow value) s = .next (opMaintWindow value s)) ∧
    (∀ (window : Nat) (entry : List Nat), window < 128 →
      exec (.fabricWindowWrite window entry) s = .next (opFabricWindowWrite window entry s)) ∧
    (∀ (sm0 sm1 : Sm), exec (.esmPreop sm0 sm1) s = .next (opEsmPreop sm0 sm1 s)) ∧
    (∀ (sm2 sm3 : Sm), exec (.esmSafeop sm2 sm3) s = .next (opEsmSafeop sm2 sm3 s)) ∧
    (∀ (write : Option (Nat × Nat)) (fcsOk : Bool), exec (.ecatFrame write fcsOk) s = .next (opEcatFrame write fcsOk s)) ∧
    (∀ (index sub : Nat) (complete : Bool) (value : List Nat) (v : Verdict),
      exec (.sdoDownload index sub complete value v) s = .next (opSdoDownload index sub complete value v s)) ∧
    (∀ (index sub : Nat) (complete : Bool),
      exec (.sdoUpload index sub complete) s = .next (opSdoUpload index sub complete s)) ∧
    (∀ (index : Option Nat), exec (.sdoInfo index) s = .next (opSdoInfo index s)) ∧
    (∀ (file password : Nat) (first last : Bool) (data : List Nat) (v : Verdict),
      exec (.foeWrite file password first last data v) s = .next (opFoeWrite file password first last data v s)) ∧
    (∀ (file : Nat), exec (.foeRead file) s = .next (opFoeRead file s)) ∧
    (∀ (index sub value : Nat) (v : Verdict), (index < 0x8000 && sub < 64) = true →
      exec (.dictWrite index sub value v) s = .next (opDictWrite index sub value v s)) ∧
    (∀ (value : Nat), exec (.longSel value) s = .next (opLongSel value s)) ∧
    (∀ (write : Option Nat), exec (.longData write) s = .next (opLongData write s)) ∧
    (∀ (v : Verdict), exec (.longCommit v) s = .next (opLongCommit v s)) ∧
    (∀ (coe : Bool) (value : Nat), exec (.imageTarget coe value) s = .next (opImageTarget coe value s))) ∧
    ((∀ (coe : Bool) (data : List Nat), exec (.imageData coe data) s = .next (opImageData coe data s)) ∧
    (∀ (coe : Bool) (v : Verdict), exec (.imageCommit coe v) s = .next (opImageCommit coe v s)) ∧
    (∀ (coe : Bool), exec (.imageAbort coe) s = .next (opImageAbort coe s)) ∧
    (∀ (value : Nat), exec (.tripClear value) s = .next (opTripClear value s)) ∧
    (∀ (domain : Nat), domain < 65 → exec (.domainIdleExpiry domain) s = .next (opDomainIdleExpiry domain s)) ∧
    (∀ (domain : Nat), domain < 65 → exec (.retentionOffExpiry domain) s = .next (opRetentionOffExpiry domain s)) ∧
    (∀ (source : WakeSrc), wakeSourceOk source = true → exec (.wakeSource source) s = .next (opWakeSource source s)) ∧
    (∀ (domain : Nat), domain < 65 → exec (.readyChainStep domain) s = .next (opReadyChainStep domain s)) ∧
    (∀ (power fixed dyn : Nat), exec (.capSample power fixed dyn) s = .next (opCapSample power fixed dyn s)) ∧
    (∀ (watts : Nat), exec (.floorEstimate watts) s = .next (opFloorEstimate watts s)) ∧
    (∀ (readings : List Nat), exec (.thermalStep readings) s = .next (opThermalStep readings s)) ∧
    (∀ (sensor : Nat), sensor < sensors → exec (.thermtrip sensor) s = .next (opThermtrip sensor s)) ∧
    (∀ (mv : Nat), exec (.vin12Low mv) s = .next (opVin12Low mv s)) ∧
    (∀ (mv : Nat) (facts : StartFacts), exec (.vin12Rise mv facts) s = .next (opVin12Rise mv facts s)) ∧
    (∀ (mv : Nat), exec (.vaon33Apply mv) s = .next (opVaon33Apply mv s)) ∧
    (∀ (clock : Nat), clock < 6 → exec (.refclkLoss clock) s = .next (opRefclkLoss clock s)) ∧
    (∀ (clock : Nat), clock < 6 → exec (.refclkReturn clock) s = .next (opRefclkReturn clock s)) ∧
    (∀ (part : Nat), part < 256 → exec (.reset part) s = .next (opReset part s)) ∧
    (∀ (part : Nat), part < 256 → exec (.out part) s = .next (opOut part s)) ∧
    (∀ (part : Nat), part < 256 → exec (.in_ part) s = .next (opIn part s)) ∧
    (∀ (part : Nat), part < 256 → exec (.recal part) s = .next (opRecal part s)) ∧
    (∀ (part : Nat), part < 105 → exec (.recalDone part) s = .next (opRecalDone part s)) ∧
    (∀ (part : Nat), part < 256 → exec (.handover part) s = .next (opHandover part s)) ∧
    (∀ (bay arg : Nat), bay < 256 → exec (.subst bay arg) s = .next (opSubst bay arg s))) ∧
    ((∀ (part : Nat) (ok : Bool) (badSites badSpares : List Nat), part < 105 →
      exec (.partitionReturn part ok badSites badSpares) s =
        .next (let s1 := opPartitionReturn part ok badSites badSpares s; if part == 103 then s1.serveHeldCoe else s1)) ∧
    (∀ (op : JtagOp), exec (.jtagInstruction op) s = .next (opJtagInstruction op s)) ∧
    (∀ (port : Nat) (up : Bool), port < 2 →
      exec (.ecatPortLinkChange port up) s = .next (opEcatPortLinkChange port up s)) ∧
    (∀ (sensor reading : Nat), sensor < sensors →
      exec (.junctionThrottleReached sensor reading) s = .next (opJunctionThrottleReached sensor reading s)) ∧
    (∀ (tag : Nat) (ok : Bool), exec (.hostWriteGo tag ok) s = .next (opHostWriteGo tag ok s)) ∧
    (∀ (x : Nat), x < 8 → exec (.expanderCapacityChange x) s = .next (opExpanderCapacityChange x s)) ∧
    (∀ (unit : Nat) (ok : Bool), unit < 28 → exec (.retrainDone unit ok) s = .next (opRetrainDone unit ok s)) ∧
    (∀ (device : Nat) (hot : Bool), device < 32 →
      exec (.dramTemperatureChange device hot) s = .next (opDramTemperatureChange device hot s)) ∧
    (∀ (channel : Nat), channel < 12 → exec (.dimmLost channel) s = .next (opDimmLost channel s)) ∧
    (exec .useAgeing s = .next (opUseAgeing s)) ∧
    (exec .placementPass s = .next (s.jig.order.foldl passTask s)) ∧
    (exec .eviction s = .next (opEviction s)) ∧
    (exec .slotAgeing s = .next (opSlotAgeing s)) ∧
    (exec .viral s = .next (opViral s)) ∧
    (exec .hostLinkDown s = .next (opHostLinkDown s)) ∧
    (exec .maintWindowClose s = .next (opMaintWindowClose s)) ∧
    (exec .esmInit s = .next (opEsmInit s)) ∧
    (exec .esmOp s = .next (opEsmOp s)) ∧
    (exec .esmBoot s = .next (opEsmBoot s)) ∧
    (exec .pdSnapshot s = .next (opPdSnapshot s)) ∧
    (exec .pdLost s = .next (opPdLost s)) ∧
    (exec .longAbort s = .next (opLongAbort s)) ∧
    (exec .imagePathTimeout s = .next (opImagePathTimeout s)) ∧
    (exec .opStepDone s = .next (opOpStepDone s))) ∧
    ((exec .pwrAlertAssert s = .next (opPwrAlertAssert s)) ∧
    (exec .pwrAlertRelease s = .next (opPwrAlertRelease s)) ∧
    (exec .pwrAlertHoldExpiry s = .next (opPwrAlertHoldExpiry s)) ∧
    (exec .thermAlertAssert s = .next (opThermAlertAssert s)) ∧
    (exec .thermAlertRelease s = .next (opThermAlertRelease s)) ∧
    (exec .vaon33Loss s = .next (opVaon33Loss s)) ∧
    (exec .standbyResync s = .next (opStandbyResync s)) ∧
    (exec .coppiceAction s = .next (opCoppiceAction s)) ∧
    (exec .conventionalReset s = .next (opConventionalReset s)))
end

