-- ==== Sys2Proof/Laws/Commands.lean ====
section
/-!
SUPPORT. What every command of a ring does before its own effect: its partition is in service (R21, R495), recovery
service is off (R493) and its function holds keys (R386).
-/
namespace Sys2Proof.Machine

/-- A command presented to a partition in service is carried out. -/
theorem State.unitCmd_inService {s : State} {p : Nat} (h : InService p s) (q : Req) (act : State) : s.unitCmd p q act = act := by
  simp [State.unitCmd, h.1, h.2]

/-- A command presented to a partition out of service is owed GONE. -/
theorem State.unitCmd_outOfService {s : State} {p : Nat} (h : ¬ InService p s) (q : Req) (act : State) :
    s.unitCmd p q act = (s.bump 0x3721 (p + 1) 1).complete q stGone 0 := by
  simp only [State.unitCmd]
  split
  · rfl
  · rename_i g; simp only [Bool.or_eq_true, beq_iff_eq, not_or] at g; exact absurd g h

/-- A part command of a function with keys is carried out outside recovery service. -/
theorem State.partCmd_keyed {s : State} {q : Req} (h1 : s.recovery = false) (h2 : s.keyed q.func = true) (act : State) :
    s.partCmd q act = act := by
  simp [State.partCmd, h1, h2]

/-- In recovery service a part command is answered with TIER_FAIL. -/
theorem State.partCmd_recovery {s : State} (h : s.recovery = true) (q : Req) (act : State) :
    s.partCmd q act = s.complete q stTier 0 := by
  simp [State.partCmd, h]

/-- A part command of a function without keys is answered with PROTOCOL. -/
theorem State.partCmd_noKeys {s : State} {q : Req} (h1 : s.recovery = false) (h2 : s.keyed q.func = false) (act : State) :
    s.partCmd q act = s.complete q stProtocol 0 := by
  simp [State.partCmd, h1, h2]

end Sys2Proof.Machine
end

