-- ==== Sys2Proof/Laws/Memory.lean ====
section
/-!
SUPPORT. The bytes of the device range: every operation keeps the canonical form, and a byte reads as it was last
written.
-/
namespace Sys2Proof.Machine

/-- The canonical form as a statement about the head and the rest. -/
theorem Memory.wf_cons (a : Nat) (b : BitVec 8) (r : List Host.Cell) :
    Memory.wf ((a, b) :: r) = true ↔ b ≠ 0 ∧ (∀ c ∈ r.head?, a < c.1) ∧ Memory.wf r = true := by
  cases r with
  | nil => simp [Memory.wf]
  | cons c r =>
    obtain ⟨a', b'⟩ := c
    simp [Memory.wf, and_assoc]

/-- Below the first address of a canonical memory nothing is listed. -/
theorem memGet_below (m : List Host.Cell) (k : Nat) (h : ∀ c ∈ m.head?, k < c.1) : memGet m k = 0 := by
  cases m with
  | nil => rfl
  | cons c r =>
    obtain ⟨a, b⟩ := c
    have := h (a, b) (by simp)
    simp only [memGet]
    rw [if_neg (by simp at this; omega), if_pos (by simpa using this)]

/-- The first address of `memSet m k v` is `k` or the first of `m`. -/
theorem memSet_head (m : List Host.Cell) (k v n : Nat) (h : ∀ c ∈ m.head?, n < c.1) (hk : n < k)
    (hw : Memory.wf m = true) : ∀ c ∈ (memSet m k v).head?, n < c.1 := by
  cases m with
  | nil =>
    unfold memSet
    split <;> simp [hk]
  | cons e r =>
    obtain ⟨a, b⟩ := e
    have ha : n < a := by simpa using h (a, b) (by simp)
    unfold memSet
    split
    · split <;> simp [ha, hk]
    · split
      · split
        · intro c hc
          have := ((Memory.wf_cons a b r).1 hw).2.1 c hc
          omega
        · simp [hk]
      · simp [ha]

/-- A write keeps the canonical form. -/
theorem memSet_wf (m : List Host.Cell) (k v : Nat) (hw : Memory.wf m = true) : Memory.wf (memSet m k v) = true := by
  induction m with
  | nil =>
    unfold memSet
    split
    · rfl
    · rename_i h
      simp only [Memory.wf, bne_iff_ne, ne_eq]
      intro hb
      have := congrArg BitVec.toNat hb
      simp at this
      omega
  | cons e r ih =>
    obtain ⟨a, b⟩ := e
    obtain ⟨hb, hr, hwr⟩ := (Memory.wf_cons a b r).1 hw
    have hv : ¬ v % 256 = 0 → BitVec.ofNat 8 v ≠ 0 := by
      intro h hb
      have := congrArg BitVec.toNat hb
      simp at this
      omega
    unfold memSet
    split
    · split
      · exact hw
      · exact (Memory.wf_cons _ _ _).2 ⟨hv ‹_›, by simpa using ‹k < a›, hw⟩
    · split
      · subst ‹k = a›
        split
        · exact hwr
        · exact (Memory.wf_cons _ _ _).2 ⟨hv ‹_›, hr, hwr⟩
      · exact (Memory.wf_cons _ _ _).2 ⟨hb, memSet_head r k v a hr (by omega) hwr, ih hwr⟩

/-- Storing a list of bytes keeps the canonical form. -/
theorem memPut_wf (bs : List Nat) : ∀ (m : List Host.Cell) (a : Nat), Memory.wf m = true → Memory.wf (memPut m a bs) = true := by
  induction bs with
  | nil => intro m a h; exact h
  | cons b r ih =>
    intro m a h
    simp only [memPut]
    exact ih _ _ (memSet_wf m a _ h)

/-- What is left of a canonical memory is canonical. -/
theorem filter_wf (p : Host.Cell → Bool) (m : List Host.Cell) (hw : Memory.wf m = true) :
    Memory.wf (m.filter p) = true ∧ ∀ n, (∀ c ∈ m.head?, n < c.1) → ∀ c ∈ (m.filter p).head?, n < c.1 := by
  induction m with
  | nil => exact ⟨rfl, by simp⟩
  | cons e r ih =>
    obtain ⟨a, b⟩ := e
    obtain ⟨hb, hr, hwr⟩ := (Memory.wf_cons a b r).1 hw
    obtain ⟨i1, i2⟩ := ih hwr
    have hn : ∀ n, (∀ c ∈ ((a, b) :: r).head?, n < c.1) → n < a := fun n h => by simpa using h (a, b) (by simp)
    by_cases hp : p (a, b) = true
    · rw [List.filter_cons_of_pos hp]
      exact ⟨(Memory.wf_cons _ _ _).2 ⟨hb, i2 a hr, i1⟩, fun n h => by simpa using hn n h⟩
    · rw [List.filter_cons_of_neg hp]
      refine ⟨i1, fun n h => i2 n ?_⟩
      intro c hc
      have := hr c hc
      have := hn n h
      omega

/-- Zeroing a range keeps the canonical form. -/
theorem memZero_wf (m : List Host.Cell) (a n : Nat) (hw : Memory.wf m = true) : Memory.wf (memZero m a n) = true :=
  (filter_wf _ m hw).1

/-- The byte just written reads as written. -/
theorem memGet_memSet_self (m : List Host.Cell) (k v : Nat) (hw : Memory.wf m = true) :
    memGet (memSet m k v) k = v % 256 := by
  induction m with
  | nil =>
    unfold memSet
    split
    · simp [memGet, *]
    · simp [memGet]
  | cons e r ih =>
    obtain ⟨a, b⟩ := e
    obtain ⟨_, hr, hwr⟩ := (Memory.wf_cons a b r).1 hw
    unfold memSet
    split
    · split
      · simp only [memGet]
        rw [if_neg (by omega), if_pos ‹k < a›]
        omega
      · simp [memGet]
    · split
      · subst ‹k = a›
        split
        · rw [memGet_below r k hr]
          omega
        · simp [memGet]
      · simp only [memGet]
        rw [if_neg (by omega), if_neg ‹¬k < a›, ih hwr]

/-- Every other byte reads as before. -/
theorem memGet_memSet_ne (m : List Host.Cell) (k v j : Nat) (hw : Memory.wf m = true) (h : j ≠ k) :
    memGet (memSet m k v) j = memGet m j := by
  induction m with
  | nil =>
    unfold memSet
    split
    · rfl
    · simp only [memGet]
      rw [if_neg (Ne.symm h)]
      split <;> rfl
  | cons e r ih =>
    obtain ⟨a, b⟩ := e
    obtain ⟨_, hr, hwr⟩ := (Memory.wf_cons a b r).1 hw
    unfold memSet
    split
    · split
      · rfl
      · rw [memGet]
        rw [if_neg (Ne.symm h)]
        split
        · rw [memGet_below]
          simp
          omega
        · rfl
    · split
      · subst ‹k = a›
        split
        · rw [memGet]
          rw [if_neg (Ne.symm h)]
          split
          · rw [memGet_below]
            intro c hc
            have := hr c hc
            omega
          · rfl
        · simp only [memGet]
          rw [if_neg (Ne.symm h), if_neg (Ne.symm h)]
      · simp only [memGet, ih hwr]

end Sys2Proof.Machine
end

