-- ==== Sys2Proof/Laws/Tables.lean ====
section
/-!
SUPPORT. Reading a sparse table, an object or a counter after it has been written.
-/
namespace Sys2Proof.Machine

theorem tfind_tset_self {α : Type} (t : Tbl α) (k : Nat) (v : α) : tfind (tset t k v) k = some v := by
  induction t with
  | nil => simp [tset, tfind]
  | cons e r ih =>
    obtain ⟨a, x⟩ := e
    unfold tset
    split
    · simp [tfind]
    · split
      · simp [tfind]
      · simp only [tfind]
        rw [if_neg (by omega), ih]

theorem tfind_tset_ne {α : Type} (t : Tbl α) {k j : Nat} (v : α) (h : j ≠ k) : tfind (tset t k v) j = tfind t j := by
  induction t with
  | nil => simp [tset, tfind, Ne.symm h]
  | cons e r ih =>
    obtain ⟨a, x⟩ := e
    unfold tset
    split
    · simp [tfind, Ne.symm h]
    · split
      · rename_i h1
        subst h1
        simp [tfind, Ne.symm h]
      · simp only [tfind, ih]

@[simp] theorem tget_tset_self {α : Type} [Inhabited α] (t : Tbl α) (k : Nat) (v : α) : tget (tset t k v) k = v := by
  simp [tget, tfind_tset_self]

theorem tget_tset_ne {α : Type} [Inhabited α] (t : Tbl α) {k j : Nat} (v : α) (h : j ≠ k) :
    tget (tset t k v) j = tget t j := by simp [tget, tfind_tset_ne t v h]

@[simp] theorem tgetD_tset_self {α : Type} (t : Tbl α) (k : Nat) (v d : α) : tgetD (tset t k v) k d = v := by
  simp [tgetD, tfind_tset_self]

theorem tgetD_tset_ne {α : Type} (t : Tbl α) {k j : Nat} (v d : α) (h : j ≠ k) : tgetD (tset t k v) j d = tgetD t j d := by
  simp [tgetD, tfind_tset_ne t v h]

/-- An object just written reads as written. -/
@[simp] theorem State.putObj_obj_self (s : State) (ix sub v : Nat) : (s.putObj ix sub v).obj ix sub = v := by
  simp [State.obj, State.putObj]

/-- Another object reads as before. -/
theorem State.putObj_obj_ne (s : State) {ix sub ix' sub' : Nat} (v : Nat) (h : objKey ix' sub' ≠ objKey ix sub) :
    (s.putObj ix sub v).obj ix' sub' = s.obj ix' sub' := by
  simp only [State.obj, State.putObj]
  exact tgetD_tset_ne _ _ _ h

/-- A counter counts `n` more, modulo 2^64. -/
theorem State.bump_obj_self (s : State) (ix sub n : Nat) (h : n ≠ 0) :
    (s.bump ix sub n).obj ix sub = (s.obj ix sub + n) % 2 ^ 64 := by
  simp [State.bump, h]

end Sys2Proof.Machine
end

