-- ==== Sys2Proof/Laws/Parts.lean ====
section
/-! SUPPORT. Reading a part of the state after a part was replaced: the part itself reads as what was put, any other as
before. -/

namespace Sys2Proof.Machine

variable (s : State)

/-! ### What was put is read -/

@[simp] theorem State.putSite_site_self (b n : Nat) (x : Site) : (s.putSite b n x).site b n = x := tget_tset_self _ _ _
theorem State.putSite_site_ne (b n : Nat) (b1 n1 : Nat) (x : Site) (h : siteKey b n ≠ siteKey b1 n1) :
    (s.putSite b1 n1 x).site b n = s.site b n := tget_tset_ne _ _ h
@[simp] theorem State.putDrawer_drawer_self (b d : Nat) (x : Drawer) : (s.putDrawer b d x).drawer b d = x := tget_tset_self _ _ _
theorem State.putDrawer_drawer_ne (b d : Nat) (b1 d1 : Nat) (x : Drawer) (h : b * 4 + d ≠ b1 * 4 + d1) :
    (s.putDrawer b1 d1 x).drawer b d = s.drawer b d := tget_tset_ne _ _ h
@[simp] theorem State.putBay_bay_self (b : Nat) (x : Bay) : (s.putBay b x).bay b = x := tget_tset_self _ _ _
theorem State.putBay_bay_ne (b : Nat) (b1 : Nat) (x : Bay) (h : b ≠ b1) :
    (s.putBay b1 x).bay b = s.bay b := tget_tset_ne _ _ h
@[simp] theorem State.putRing_ring_self (r : Nat) (x : Ring) : (s.putRing r x).ring r = x := tgetD_tset_self _ _ _ _
theorem State.putRing_ring_ne (r : Nat) (r1 : Nat) (x : Ring) (h : r ≠ r1) :
    (s.putRing r1 x).ring r = s.ring r := tgetD_tset_ne _ _ _ h
@[simp] theorem State.putLnk_lnk_self (l : Nat) (x : Link) : (s.putLnk l x).lnk l = x := tgetD_tset_self _ _ _ _
theorem State.putLnk_lnk_ne (l : Nat) (l1 : Nat) (x : Link) (h : l ≠ l1) :
    (s.putLnk l1 x).lnk l = s.lnk l := tgetD_tset_ne _ _ _ h
@[simp] theorem State.putLeaf_leaf_self (k : Nat) (x : Leaf) : (s.putLeaf k x).leaf k = x := tget_tset_self _ _ _
theorem State.putLeaf_leaf_ne (k : Nat) (k1 : Nat) (x : Leaf) (h : k ≠ k1) :
    (s.putLeaf k1 x).leaf k = s.leaf k := tget_tset_ne _ _ h
@[simp] theorem State.putMx_mx_self (b n d : Nat) (x : Mxc) : (s.putMx b n d x).mx b n d = x := tget_tset_self _ _ _
theorem State.putMx_mx_ne (b n d : Nat) (b1 n1 d1 : Nat) (x : Mxc) (h : unitKey b n d ≠ unitKey b1 n1 d1) :
    (s.putMx b1 n1 d1 x).mx b n d = s.mx b n d := tget_tset_ne _ _ h
@[simp] theorem State.putFx_fx_self (b n d : Nat) (x : Fnc) : (s.putFx b n d x).fx b n d = x := tget_tset_self _ _ _
theorem State.putFx_fx_ne (b n d : Nat) (b1 n1 d1 : Nat) (x : Fnc) (h : unitKey b n d ≠ unitKey b1 n1 d1) :
    (s.putFx b1 n1 d1 x).fx b n d = s.fx b n d := tget_tset_ne _ _ h
@[simp] theorem State.putKv_kv_self (f : Nat) (x : KvPool) : (s.putKv f x).kv f = x := tget_tset_self _ _ _
theorem State.putKv_kv_ne (f : Nat) (f1 : Nat) (x : KvPool) (h : f ≠ f1) :
    (s.putKv f1 x).kv f = s.kv f := tget_tset_ne _ _ h
@[simp] theorem State.putDom_dom_self (d : Nat) (x : Domain) : (s.putDom d x).dom d = x := tget_tset_self _ _ _
theorem State.putDom_dom_ne (d : Nat) (d1 : Nat) (x : Domain) (h : d ≠ d1) :
    (s.putDom d1 x).dom d = s.dom d := tget_tset_ne _ _ h
@[simp] theorem State.putFn_fn_self (f : Nat) (x : FnEnt) : (s.putFn f x).fn f = x := tgetD_tset_self _ _ _ _
theorem State.putFn_fn_ne (f : Nat) (f1 : Nat) (x : FnEnt) (h : f ≠ f1) :
    (s.putFn f1 x).fn f = s.fn f := tgetD_tset_ne _ _ _ h
@[simp] theorem State.putSrc_srcOf_self (b n d : Nat) (x : Src) : (s.putSrc b n d x).srcOf b n d = x := tget_tset_self _ _ _
theorem State.putSrc_srcOf_ne (b n d : Nat) (b1 n1 d1 : Nat) (x : Src) (h : unitKey b n d ≠ unitKey b1 n1 d1) :
    (s.putSrc b1 n1 d1 x).srcOf b n d = s.srcOf b n d := tget_tset_ne _ _ h

/-! ### What `State.putSite` leaves -/

@[simp] theorem State.putSite_drawer (b1 n1 : Nat) (x : Site) (b d : Nat) :
    (s.putSite b1 n1 x).drawer b d = s.drawer b d := rfl
@[simp] theorem State.putSite_bay (b1 n1 : Nat) (x : Site) (b : Nat) :
    (s.putSite b1 n1 x).bay b = s.bay b := rfl
@[simp] theorem State.putSite_ring (b1 n1 : Nat) (x : Site) (r : Nat) :
    (s.putSite b1 n1 x).ring r = s.ring r := rfl
@[simp] theorem State.putSite_lnk (b1 n1 : Nat) (x : Site) (l : Nat) :
    (s.putSite b1 n1 x).lnk l = s.lnk l := rfl
@[simp] theorem State.putSite_leaf (b1 n1 : Nat) (x : Site) (k : Nat) :
    (s.putSite b1 n1 x).leaf k = s.leaf k := rfl
@[simp] theorem State.putSite_mx (b1 n1 : Nat) (x : Site) (b n d : Nat) :
    (s.putSite b1 n1 x).mx b n d = s.mx b n d := rfl
@[simp] theorem State.putSite_fx (b1 n1 : Nat) (x : Site) (b n d : Nat) :
    (s.putSite b1 n1 x).fx b n d = s.fx b n d := rfl
@[simp] theorem State.putSite_kv (b1 n1 : Nat) (x : Site) (f : Nat) :
    (s.putSite b1 n1 x).kv f = s.kv f := rfl
@[simp] theorem State.putSite_dom (b1 n1 : Nat) (x : Site) (d : Nat) :
    (s.putSite b1 n1 x).dom d = s.dom d := rfl
@[simp] theorem State.putSite_fn (b1 n1 : Nat) (x : Site) (f : Nat) :
    (s.putSite b1 n1 x).fn f = s.fn f := rfl
@[simp] theorem State.putSite_srcOf (b1 n1 : Nat) (x : Site) (b n d : Nat) :
    (s.putSite b1 n1 x).srcOf b n d = s.srcOf b n d := rfl
@[simp] theorem State.putSite_task (b1 n1 : Nat) (x : Site) (k : Nat) :
    (s.putSite b1 n1 x).task k = s.task k := rfl
@[simp] theorem State.putSite_obj (b1 n1 : Nat) (x : Site) (ix sub : Nat) :
    (s.putSite b1 n1 x).obj ix sub = s.obj ix sub := rfl

/-! ### What `State.putDrawer` leaves -/

@[simp] theorem State.putDrawer_site (b1 d1 : Nat) (x : Drawer) (b n : Nat) :
    (s.putDrawer b1 d1 x).site b n = s.site b n := rfl
@[simp] theorem State.putDrawer_bay (b1 d1 : Nat) (x : Drawer) (b : Nat) :
    (s.putDrawer b1 d1 x).bay b = s.bay b := rfl
@[simp] theorem State.putDrawer_ring (b1 d1 : Nat) (x : Drawer) (r : Nat) :
    (s.putDrawer b1 d1 x).ring r = s.ring r := rfl
@[simp] theorem State.putDrawer_lnk (b1 d1 : Nat) (x : Drawer) (l : Nat) :
    (s.putDrawer b1 d1 x).lnk l = s.lnk l := rfl
@[simp] theorem State.putDrawer_leaf (b1 d1 : Nat) (x : Drawer) (k : Nat) :
    (s.putDrawer b1 d1 x).leaf k = s.leaf k := rfl
@[simp] theorem State.putDrawer_mx (b1 d1 : Nat) (x : Drawer) (b n d : Nat) :
    (s.putDrawer b1 d1 x).mx b n d = s.mx b n d := rfl
@[simp] theorem State.putDrawer_fx (b1 d1 : Nat) (x : Drawer) (b n d : Nat) :
    (s.putDrawer b1 d1 x).fx b n d = s.fx b n d := rfl
@[simp] theorem State.putDrawer_kv (b1 d1 : Nat) (x : Drawer) (f : Nat) :
    (s.putDrawer b1 d1 x).kv f = s.kv f := rfl
@[simp] theorem State.putDrawer_dom (b1 d1 : Nat) (x : Drawer) (d : Nat) :
    (s.putDrawer b1 d1 x).dom d = s.dom d := rfl
@[simp] theorem State.putDrawer_fn (b1 d1 : Nat) (x : Drawer) (f : Nat) :
    (s.putDrawer b1 d1 x).fn f = s.fn f := rfl
@[simp] theorem State.putDrawer_srcOf (b1 d1 : Nat) (x : Drawer) (b n d : Nat) :
    (s.putDrawer b1 d1 x).srcOf b n d = s.srcOf b n d := rfl
@[simp] theorem State.putDrawer_task (b1 d1 : Nat) (x : Drawer) (k : Nat) :
    (s.putDrawer b1 d1 x).task k = s.task k := rfl
@[simp] theorem State.putDrawer_obj (b1 d1 : Nat) (x : Drawer) (ix sub : Nat) :
    (s.putDrawer b1 d1 x).obj ix sub = s.obj ix sub := rfl

/-! ### What `State.putBay` leaves -/

@[simp] theorem State.putBay_site (b1 : Nat) (x : Bay) (b n : Nat) :
    (s.putBay b1 x).site b n = s.site b n := rfl
@[simp] theorem State.putBay_drawer (b1 : Nat) (x : Bay) (b d : Nat) :
    (s.putBay b1 x).drawer b d = s.drawer b d := rfl
@[simp] theorem State.putBay_ring (b1 : Nat) (x : Bay) (r : Nat) :
    (s.putBay b1 x).ring r = s.ring r := rfl
@[simp] theorem State.putBay_lnk (b1 : Nat) (x : Bay) (l : Nat) :
    (s.putBay b1 x).lnk l = s.lnk l := rfl
@[simp] theorem State.putBay_leaf (b1 : Nat) (x : Bay) (k : Nat) :
    (s.putBay b1 x).leaf k = s.leaf k := rfl
@[simp] theorem State.putBay_mx (b1 : Nat) (x : Bay) (b n d : Nat) :
    (s.putBay b1 x).mx b n d = s.mx b n d := rfl
@[simp] theorem State.putBay_fx (b1 : Nat) (x : Bay) (b n d : Nat) :
    (s.putBay b1 x).fx b n d = s.fx b n d := rfl
@[simp] theorem State.putBay_kv (b1 : Nat) (x : Bay) (f : Nat) :
    (s.putBay b1 x).kv f = s.kv f := rfl
@[simp] theorem State.putBay_dom (b1 : Nat) (x : Bay) (d : Nat) :
    (s.putBay b1 x).dom d = s.dom d := rfl
@[simp] theorem State.putBay_fn (b1 : Nat) (x : Bay) (f : Nat) :
    (s.putBay b1 x).fn f = s.fn f := rfl
@[simp] theorem State.putBay_srcOf (b1 : Nat) (x : Bay) (b n d : Nat) :
    (s.putBay b1 x).srcOf b n d = s.srcOf b n d := rfl
@[simp] theorem State.putBay_task (b1 : Nat) (x : Bay) (k : Nat) :
    (s.putBay b1 x).task k = s.task k := rfl
@[simp] theorem State.putBay_obj (b1 : Nat) (x : Bay) (ix sub : Nat) :
    (s.putBay b1 x).obj ix sub = s.obj ix sub := rfl

/-! ### What `State.putRing` leaves -/

@[simp] theorem State.putRing_site (r1 : Nat) (x : Ring) (b n : Nat) :
    (s.putRing r1 x).site b n = s.site b n := rfl
@[simp] theorem State.putRing_drawer (r1 : Nat) (x : Ring) (b d : Nat) :
    (s.putRing r1 x).drawer b d = s.drawer b d := rfl
@[simp] theorem State.putRing_bay (r1 : Nat) (x : Ring) (b : Nat) :
    (s.putRing r1 x).bay b = s.bay b := rfl
@[simp] theorem State.putRing_lnk (r1 : Nat) (x : Ring) (l : Nat) :
    (s.putRing r1 x).lnk l = s.lnk l := rfl
@[simp] theorem State.putRing_leaf (r1 : Nat) (x : Ring) (k : Nat) :
    (s.putRing r1 x).leaf k = s.leaf k := rfl
@[simp] theorem State.putRing_mx (r1 : Nat) (x : Ring) (b n d : Nat) :
    (s.putRing r1 x).mx b n d = s.mx b n d := rfl
@[simp] theorem State.putRing_fx (r1 : Nat) (x : Ring) (b n d : Nat) :
    (s.putRing r1 x).fx b n d = s.fx b n d := rfl
@[simp] theorem State.putRing_kv (r1 : Nat) (x : Ring) (f : Nat) :
    (s.putRing r1 x).kv f = s.kv f := rfl
@[simp] theorem State.putRing_dom (r1 : Nat) (x : Ring) (d : Nat) :
    (s.putRing r1 x).dom d = s.dom d := rfl
@[simp] theorem State.putRing_fn (r1 : Nat) (x : Ring) (f : Nat) :
    (s.putRing r1 x).fn f = s.fn f := rfl
@[simp] theorem State.putRing_srcOf (r1 : Nat) (x : Ring) (b n d : Nat) :
    (s.putRing r1 x).srcOf b n d = s.srcOf b n d := rfl
@[simp] theorem State.putRing_task (r1 : Nat) (x : Ring) (k : Nat) :
    (s.putRing r1 x).task k = s.task k := rfl
@[simp] theorem State.putRing_obj (r1 : Nat) (x : Ring) (ix sub : Nat) :
    (s.putRing r1 x).obj ix sub = s.obj ix sub := rfl

/-! ### What `State.putLnk` leaves -/

@[simp] theorem State.putLnk_site (l1 : Nat) (x : Link) (b n : Nat) :
    (s.putLnk l1 x).site b n = s.site b n := rfl
@[simp] theorem State.putLnk_drawer (l1 : Nat) (x : Link) (b d : Nat) :
    (s.putLnk l1 x).drawer b d = s.drawer b d := rfl
@[simp] theorem State.putLnk_bay (l1 : Nat) (x : Link) (b : Nat) :
    (s.putLnk l1 x).bay b = s.bay b := rfl
@[simp] theorem State.putLnk_ring (l1 : Nat) (x : Link) (r : Nat) :
    (s.putLnk l1 x).ring r = s.ring r := rfl
@[simp] theorem State.putLnk_leaf (l1 : Nat) (x : Link) (k : Nat) :
    (s.putLnk l1 x).leaf k = s.leaf k := rfl
@[simp] theorem State.putLnk_mx (l1 : Nat) (x : Link) (b n d : Nat) :
    (s.putLnk l1 x).mx b n d = s.mx b n d := rfl
@[simp] theorem State.putLnk_fx (l1 : Nat) (x : Link) (b n d : Nat) :
    (s.putLnk l1 x).fx b n d = s.fx b n d := rfl
@[simp] theorem State.putLnk_kv (l1 : Nat) (x : Link) (f : Nat) :
    (s.putLnk l1 x).kv f = s.kv f := rfl
@[simp] theorem State.putLnk_dom (l1 : Nat) (x : Link) (d : Nat) :
    (s.putLnk l1 x).dom d = s.dom d := rfl
@[simp] theorem State.putLnk_fn (l1 : Nat) (x : Link) (f : Nat) :
    (s.putLnk l1 x).fn f = s.fn f := rfl
@[simp] theorem State.putLnk_srcOf (l1 : Nat) (x : Link) (b n d : Nat) :
    (s.putLnk l1 x).srcOf b n d = s.srcOf b n d := rfl
@[simp] theorem State.putLnk_task (l1 : Nat) (x : Link) (k : Nat) :
    (s.putLnk l1 x).task k = s.task k := rfl
@[simp] theorem State.putLnk_obj (l1 : Nat) (x : Link) (ix sub : Nat) :
    (s.putLnk l1 x).obj ix sub = s.obj ix sub := rfl

/-! ### What `State.putLeaf` leaves -/

@[simp] theorem State.putLeaf_site (k1 : Nat) (x : Leaf) (b n : Nat) :
    (s.putLeaf k1 x).site b n = s.site b n := rfl
@[simp] theorem State.putLeaf_drawer (k1 : Nat) (x : Leaf) (b d : Nat) :
    (s.putLeaf k1 x).drawer b d = s.drawer b d := rfl
@[simp] theorem State.putLeaf_bay (k1 : Nat) (x : Leaf) (b : Nat) :
    (s.putLeaf k1 x).bay b = s.bay b := rfl
@[simp] theorem State.putLeaf_ring (k1 : Nat) (x : Leaf) (r : Nat) :
    (s.putLeaf k1 x).ring r = s.ring r := rfl
@[simp] theorem State.putLeaf_lnk (k1 : Nat) (x : Leaf) (l : Nat) :
    (s.putLeaf k1 x).lnk l = s.lnk l := rfl
@[simp] theorem State.putLeaf_mx (k1 : Nat) (x : Leaf) (b n d : Nat) :
    (s.putLeaf k1 x).mx b n d = s.mx b n d := rfl
@[simp] theorem State.putLeaf_fx (k1 : Nat) (x : Leaf) (b n d : Nat) :
    (s.putLeaf k1 x).fx b n d = s.fx b n d := rfl
@[simp] theorem State.putLeaf_kv (k1 : Nat) (x : Leaf) (f : Nat) :
    (s.putLeaf k1 x).kv f = s.kv f := rfl
@[simp] theorem State.putLeaf_dom (k1 : Nat) (x : Leaf) (d : Nat) :
    (s.putLeaf k1 x).dom d = s.dom d := rfl
@[simp] theorem State.putLeaf_fn (k1 : Nat) (x : Leaf) (f : Nat) :
    (s.putLeaf k1 x).fn f = s.fn f := rfl
@[simp] theorem State.putLeaf_srcOf (k1 : Nat) (x : Leaf) (b n d : Nat) :
    (s.putLeaf k1 x).srcOf b n d = s.srcOf b n d := rfl
@[simp] theorem State.putLeaf_task (k1 : Nat) (x : Leaf) (k : Nat) :
    (s.putLeaf k1 x).task k = s.task k := rfl
@[simp] theorem State.putLeaf_obj (k1 : Nat) (x : Leaf) (ix sub : Nat) :
    (s.putLeaf k1 x).obj ix sub = s.obj ix sub := rfl

/-! ### What `State.putMx` leaves -/

@[simp] theorem State.putMx_site (b1 n1 d1 : Nat) (x : Mxc) (b n : Nat) :
    (s.putMx b1 n1 d1 x).site b n = s.site b n := rfl
@[simp] theorem State.putMx_drawer (b1 n1 d1 : Nat) (x : Mxc) (b d : Nat) :
    (s.putMx b1 n1 d1 x).drawer b d = s.drawer b d := rfl
@[simp] theorem State.putMx_bay (b1 n1 d1 : Nat) (x : Mxc) (b : Nat) :
    (s.putMx b1 n1 d1 x).bay b = s.bay b := rfl
@[simp] theorem State.putMx_ring (b1 n1 d1 : Nat) (x : Mxc) (r : Nat) :
    (s.putMx b1 n1 d1 x).ring r = s.ring r := rfl
@[simp] theorem State.putMx_lnk (b1 n1 d1 : Nat) (x : Mxc) (l : Nat) :
    (s.putMx b1 n1 d1 x).lnk l = s.lnk l := rfl
@[simp] theorem State.putMx_leaf (b1 n1 d1 : Nat) (x : Mxc) (k : Nat) :
    (s.putMx b1 n1 d1 x).leaf k = s.leaf k := rfl
@[simp] theorem State.putMx_fx (b1 n1 d1 : Nat) (x : Mxc) (b n d : Nat) :
    (s.putMx b1 n1 d1 x).fx b n d = s.fx b n d := rfl
@[simp] theorem State.putMx_kv (b1 n1 d1 : Nat) (x : Mxc) (f : Nat) :
    (s.putMx b1 n1 d1 x).kv f = s.kv f := rfl
@[simp] theorem State.putMx_dom (b1 n1 d1 : Nat) (x : Mxc) (d : Nat) :
    (s.putMx b1 n1 d1 x).dom d = s.dom d := rfl
@[simp] theorem State.putMx_fn (b1 n1 d1 : Nat) (x : Mxc) (f : Nat) :
    (s.putMx b1 n1 d1 x).fn f = s.fn f := rfl
@[simp] theorem State.putMx_srcOf (b1 n1 d1 : Nat) (x : Mxc) (b n d : Nat) :
    (s.putMx b1 n1 d1 x).srcOf b n d = s.srcOf b n d := rfl
@[simp] theorem State.putMx_task (b1 n1 d1 : Nat) (x : Mxc) (k : Nat) :
    (s.putMx b1 n1 d1 x).task k = s.task k := rfl
@[simp] theorem State.putMx_obj (b1 n1 d1 : Nat) (x : Mxc) (ix sub : Nat) :
    (s.putMx b1 n1 d1 x).obj ix sub = s.obj ix sub := rfl

/-! ### What `State.putFx` leaves -/

@[simp] theorem State.putFx_site (b1 n1 d1 : Nat) (x : Fnc) (b n : Nat) :
    (s.putFx b1 n1 d1 x).site b n = s.site b n := rfl
@[simp] theorem State.putFx_drawer (b1 n1 d1 : Nat) (x : Fnc) (b d : Nat) :
    (s.putFx b1 n1 d1 x).drawer b d = s.drawer b d := rfl
@[simp] theorem State.putFx_bay (b1 n1 d1 : Nat) (x : Fnc) (b : Nat) :
    (s.putFx b1 n1 d1 x).bay b = s.bay b := rfl
@[simp] theorem State.putFx_ring (b1 n1 d1 : Nat) (x : Fnc) (r : Nat) :
    (s.putFx b1 n1 d1 x).ring r = s.ring r := rfl
@[simp] theorem State.putFx_lnk (b1 n1 d1 : Nat) (x : Fnc) (l : Nat) :
    (s.putFx b1 n1 d1 x).lnk l = s.lnk l := rfl
@[simp] theorem State.putFx_leaf (b1 n1 d1 : Nat) (x : Fnc) (k : Nat) :
    (s.putFx b1 n1 d1 x).leaf k = s.leaf k := rfl
@[simp] theorem State.putFx_mx (b1 n1 d1 : Nat) (x : Fnc) (b n d : Nat) :
    (s.putFx b1 n1 d1 x).mx b n d = s.mx b n d := rfl
@[simp] theorem State.putFx_kv (b1 n1 d1 : Nat) (x : Fnc) (f : Nat) :
    (s.putFx b1 n1 d1 x).kv f = s.kv f := rfl
@[simp] theorem State.putFx_dom (b1 n1 d1 : Nat) (x : Fnc) (d : Nat) :
    (s.putFx b1 n1 d1 x).dom d = s.dom d := rfl
@[simp] theorem State.putFx_fn (b1 n1 d1 : Nat) (x : Fnc) (f : Nat) :
    (s.putFx b1 n1 d1 x).fn f = s.fn f := rfl
@[simp] theorem State.putFx_srcOf (b1 n1 d1 : Nat) (x : Fnc) (b n d : Nat) :
    (s.putFx b1 n1 d1 x).srcOf b n d = s.srcOf b n d := rfl
@[simp] theorem State.putFx_task (b1 n1 d1 : Nat) (x : Fnc) (k : Nat) :
    (s.putFx b1 n1 d1 x).task k = s.task k := rfl
@[simp] theorem State.putFx_obj (b1 n1 d1 : Nat) (x : Fnc) (ix sub : Nat) :
    (s.putFx b1 n1 d1 x).obj ix sub = s.obj ix sub := rfl

/-! ### What `State.putSrc` leaves -/

@[simp] theorem State.putSrc_site (b1 n1 d1 : Nat) (x : Src) (b n : Nat) :
    (s.putSrc b1 n1 d1 x).site b n = s.site b n := rfl
@[simp] theorem State.putSrc_drawer (b1 n1 d1 : Nat) (x : Src) (b d : Nat) :
    (s.putSrc b1 n1 d1 x).drawer b d = s.drawer b d := rfl
@[simp] theorem State.putSrc_bay (b1 n1 d1 : Nat) (x : Src) (b : Nat) :
    (s.putSrc b1 n1 d1 x).bay b = s.bay b := rfl
@[simp] theorem State.putSrc_ring (b1 n1 d1 : Nat) (x : Src) (r : Nat) :
    (s.putSrc b1 n1 d1 x).ring r = s.ring r := rfl
@[simp] theorem State.putSrc_lnk (b1 n1 d1 : Nat) (x : Src) (l : Nat) :
    (s.putSrc b1 n1 d1 x).lnk l = s.lnk l := rfl
@[simp] theorem State.putSrc_leaf (b1 n1 d1 : Nat) (x : Src) (k : Nat) :
    (s.putSrc b1 n1 d1 x).leaf k = s.leaf k := rfl
@[simp] theorem State.putSrc_mx (b1 n1 d1 : Nat) (x : Src) (b n d : Nat) :
    (s.putSrc b1 n1 d1 x).mx b n d = s.mx b n d := rfl
@[simp] theorem State.putSrc_fx (b1 n1 d1 : Nat) (x : Src) (b n d : Nat) :
    (s.putSrc b1 n1 d1 x).fx b n d = s.fx b n d := rfl
@[simp] theorem State.putSrc_kv (b1 n1 d1 : Nat) (x : Src) (f : Nat) :
    (s.putSrc b1 n1 d1 x).kv f = s.kv f := rfl
@[simp] theorem State.putSrc_dom (b1 n1 d1 : Nat) (x : Src) (d : Nat) :
    (s.putSrc b1 n1 d1 x).dom d = s.dom d := rfl
@[simp] theorem State.putSrc_fn (b1 n1 d1 : Nat) (x : Src) (f : Nat) :
    (s.putSrc b1 n1 d1 x).fn f = s.fn f := rfl
@[simp] theorem State.putSrc_task (b1 n1 d1 : Nat) (x : Src) (k : Nat) :
    (s.putSrc b1 n1 d1 x).task k = s.task k := rfl
@[simp] theorem State.putSrc_obj (b1 n1 d1 : Nat) (x : Src) (ix sub : Nat) :
    (s.putSrc b1 n1 d1 x).obj ix sub = s.obj ix sub := rfl

/-! ### What `State.putInst` leaves -/

@[simp] theorem State.putInst_site (k1 : Nat) (x : Inst) (b n : Nat) :
    (s.putInst k1 x).site b n = s.site b n := rfl
@[simp] theorem State.putInst_drawer (k1 : Nat) (x : Inst) (b d : Nat) :
    (s.putInst k1 x).drawer b d = s.drawer b d := rfl
@[simp] theorem State.putInst_bay (k1 : Nat) (x : Inst) (b : Nat) :
    (s.putInst k1 x).bay b = s.bay b := rfl
@[simp] theorem State.putInst_ring (k1 : Nat) (x : Inst) (r : Nat) :
    (s.putInst k1 x).ring r = s.ring r := rfl
@[simp] theorem State.putInst_lnk (k1 : Nat) (x : Inst) (l : Nat) :
    (s.putInst k1 x).lnk l = s.lnk l := rfl
@[simp] theorem State.putInst_leaf (k1 : Nat) (x : Inst) (k : Nat) :
    (s.putInst k1 x).leaf k = s.leaf k := rfl
@[simp] theorem State.putInst_mx (k1 : Nat) (x : Inst) (b n d : Nat) :
    (s.putInst k1 x).mx b n d = s.mx b n d := rfl
@[simp] theorem State.putInst_fx (k1 : Nat) (x : Inst) (b n d : Nat) :
    (s.putInst k1 x).fx b n d = s.fx b n d := rfl
@[simp] theorem State.putInst_kv (k1 : Nat) (x : Inst) (f : Nat) :
    (s.putInst k1 x).kv f = s.kv f := rfl
@[simp] theorem State.putInst_dom (k1 : Nat) (x : Inst) (d : Nat) :
    (s.putInst k1 x).dom d = s.dom d := rfl
@[simp] theorem State.putInst_fn (k1 : Nat) (x : Inst) (f : Nat) :
    (s.putInst k1 x).fn f = s.fn f := rfl
@[simp] theorem State.putInst_srcOf (k1 : Nat) (x : Inst) (b n d : Nat) :
    (s.putInst k1 x).srcOf b n d = s.srcOf b n d := rfl
@[simp] theorem State.putInst_task (k1 : Nat) (x : Inst) (k : Nat) :
    (s.putInst k1 x).task k = s.task k := rfl
@[simp] theorem State.putInst_obj (k1 : Nat) (x : Inst) (ix sub : Nat) :
    (s.putInst k1 x).obj ix sub = s.obj ix sub := rfl

/-! ### What `State.putKv` leaves -/

@[simp] theorem State.putKv_site (f1 : Nat) (x : KvPool) (b n : Nat) :
    (s.putKv f1 x).site b n = s.site b n := rfl
@[simp] theorem State.putKv_drawer (f1 : Nat) (x : KvPool) (b d : Nat) :
    (s.putKv f1 x).drawer b d = s.drawer b d := rfl
@[simp] theorem State.putKv_bay (f1 : Nat) (x : KvPool) (b : Nat) :
    (s.putKv f1 x).bay b = s.bay b := rfl
@[simp] theorem State.putKv_ring (f1 : Nat) (x : KvPool) (r : Nat) :
    (s.putKv f1 x).ring r = s.ring r := rfl
@[simp] theorem State.putKv_lnk (f1 : Nat) (x : KvPool) (l : Nat) :
    (s.putKv f1 x).lnk l = s.lnk l := rfl
@[simp] theorem State.putKv_leaf (f1 : Nat) (x : KvPool) (k : Nat) :
    (s.putKv f1 x).leaf k = s.leaf k := rfl
@[simp] theorem State.putKv_mx (f1 : Nat) (x : KvPool) (b n d : Nat) :
    (s.putKv f1 x).mx b n d = s.mx b n d := rfl
@[simp] theorem State.putKv_fx (f1 : Nat) (x : KvPool) (b n d : Nat) :
    (s.putKv f1 x).fx b n d = s.fx b n d := rfl
@[simp] theorem State.putKv_dom (f1 : Nat) (x : KvPool) (d : Nat) :
    (s.putKv f1 x).dom d = s.dom d := rfl
@[simp] theorem State.putKv_fn (f1 : Nat) (x : KvPool) (f : Nat) :
    (s.putKv f1 x).fn f = s.fn f := rfl
@[simp] theorem State.putKv_srcOf (f1 : Nat) (x : KvPool) (b n d : Nat) :
    (s.putKv f1 x).srcOf b n d = s.srcOf b n d := rfl
@[simp] theorem State.putKv_task (f1 : Nat) (x : KvPool) (k : Nat) :
    (s.putKv f1 x).task k = s.task k := rfl
@[simp] theorem State.putKv_obj (f1 : Nat) (x : KvPool) (ix sub : Nat) :
    (s.putKv f1 x).obj ix sub = s.obj ix sub := rfl

/-! ### What `State.putEntry` leaves -/

@[simp] theorem State.putEntry_site (n1 : Nat) (x : Entry) (b n : Nat) :
    (s.putEntry n1 x).site b n = s.site b n := rfl
@[simp] theorem State.putEntry_drawer (n1 : Nat) (x : Entry) (b d : Nat) :
    (s.putEntry n1 x).drawer b d = s.drawer b d := rfl
@[simp] theorem State.putEntry_bay (n1 : Nat) (x : Entry) (b : Nat) :
    (s.putEntry n1 x).bay b = s.bay b := rfl
@[simp] theorem State.putEntry_ring (n1 : Nat) (x : Entry) (r : Nat) :
    (s.putEntry n1 x).ring r = s.ring r := rfl
@[simp] theorem State.putEntry_lnk (n1 : Nat) (x : Entry) (l : Nat) :
    (s.putEntry n1 x).lnk l = s.lnk l := rfl
@[simp] theorem State.putEntry_leaf (n1 : Nat) (x : Entry) (k : Nat) :
    (s.putEntry n1 x).leaf k = s.leaf k := rfl
@[simp] theorem State.putEntry_mx (n1 : Nat) (x : Entry) (b n d : Nat) :
    (s.putEntry n1 x).mx b n d = s.mx b n d := rfl
@[simp] theorem State.putEntry_fx (n1 : Nat) (x : Entry) (b n d : Nat) :
    (s.putEntry n1 x).fx b n d = s.fx b n d := rfl
@[simp] theorem State.putEntry_kv (n1 : Nat) (x : Entry) (f : Nat) :
    (s.putEntry n1 x).kv f = s.kv f := rfl
@[simp] theorem State.putEntry_dom (n1 : Nat) (x : Entry) (d : Nat) :
    (s.putEntry n1 x).dom d = s.dom d := rfl
@[simp] theorem State.putEntry_fn (n1 : Nat) (x : Entry) (f : Nat) :
    (s.putEntry n1 x).fn f = s.fn f := rfl
@[simp] theorem State.putEntry_srcOf (n1 : Nat) (x : Entry) (b n d : Nat) :
    (s.putEntry n1 x).srcOf b n d = s.srcOf b n d := rfl
@[simp] theorem State.putEntry_task (n1 : Nat) (x : Entry) (k : Nat) :
    (s.putEntry n1 x).task k = s.task k := rfl
@[simp] theorem State.putEntry_obj (n1 : Nat) (x : Entry) (ix sub : Nat) :
    (s.putEntry n1 x).obj ix sub = s.obj ix sub := rfl

/-! ### What `State.putDom` leaves -/

@[simp] theorem State.putDom_site (d1 : Nat) (x : Domain) (b n : Nat) :
    (s.putDom d1 x).site b n = s.site b n := rfl
@[simp] theorem State.putDom_drawer (d1 : Nat) (x : Domain) (b d : Nat) :
    (s.putDom d1 x).drawer b d = s.drawer b d := rfl
@[simp] theorem State.putDom_bay (d1 : Nat) (x : Domain) (b : Nat) :
    (s.putDom d1 x).bay b = s.bay b := rfl
@[simp] theorem State.putDom_ring (d1 : Nat) (x : Domain) (r : Nat) :
    (s.putDom d1 x).ring r = s.ring r := rfl
@[simp] theorem State.putDom_lnk (d1 : Nat) (x : Domain) (l : Nat) :
    (s.putDom d1 x).lnk l = s.lnk l := rfl
@[simp] theorem State.putDom_leaf (d1 : Nat) (x : Domain) (k : Nat) :
    (s.putDom d1 x).leaf k = s.leaf k := rfl
@[simp] theorem State.putDom_mx (d1 : Nat) (x : Domain) (b n d : Nat) :
    (s.putDom d1 x).mx b n d = s.mx b n d := rfl
@[simp] theorem State.putDom_fx (d1 : Nat) (x : Domain) (b n d : Nat) :
    (s.putDom d1 x).fx b n d = s.fx b n d := rfl
@[simp] theorem State.putDom_kv (d1 : Nat) (x : Domain) (f : Nat) :
    (s.putDom d1 x).kv f = s.kv f := rfl
@[simp] theorem State.putDom_fn (d1 : Nat) (x : Domain) (f : Nat) :
    (s.putDom d1 x).fn f = s.fn f := rfl
@[simp] theorem State.putDom_srcOf (d1 : Nat) (x : Domain) (b n d : Nat) :
    (s.putDom d1 x).srcOf b n d = s.srcOf b n d := rfl
@[simp] theorem State.putDom_task (d1 : Nat) (x : Domain) (k : Nat) :
    (s.putDom d1 x).task k = s.task k := rfl
@[simp] theorem State.putDom_obj (d1 : Nat) (x : Domain) (ix sub : Nat) :
    (s.putDom d1 x).obj ix sub = s.obj ix sub := rfl

/-! ### What `State.putFn` leaves -/

@[simp] theorem State.putFn_site (f1 : Nat) (x : FnEnt) (b n : Nat) :
    (s.putFn f1 x).site b n = s.site b n := rfl
@[simp] theorem State.putFn_drawer (f1 : Nat) (x : FnEnt) (b d : Nat) :
    (s.putFn f1 x).drawer b d = s.drawer b d := rfl
@[simp] theorem State.putFn_bay (f1 : Nat) (x : FnEnt) (b : Nat) :
    (s.putFn f1 x).bay b = s.bay b := rfl
@[simp] theorem State.putFn_ring (f1 : Nat) (x : FnEnt) (r : Nat) :
    (s.putFn f1 x).ring r = s.ring r := rfl
@[simp] theorem State.putFn_lnk (f1 : Nat) (x : FnEnt) (l : Nat) :
    (s.putFn f1 x).lnk l = s.lnk l := rfl
@[simp] theorem State.putFn_leaf (f1 : Nat) (x : FnEnt) (k : Nat) :
    (s.putFn f1 x).leaf k = s.leaf k := rfl
@[simp] theorem State.putFn_mx (f1 : Nat) (x : FnEnt) (b n d : Nat) :
    (s.putFn f1 x).mx b n d = s.mx b n d := rfl
@[simp] theorem State.putFn_fx (f1 : Nat) (x : FnEnt) (b n d : Nat) :
    (s.putFn f1 x).fx b n d = s.fx b n d := rfl
@[simp] theorem State.putFn_kv (f1 : Nat) (x : FnEnt) (f : Nat) :
    (s.putFn f1 x).kv f = s.kv f := rfl
@[simp] theorem State.putFn_dom (f1 : Nat) (x : FnEnt) (d : Nat) :
    (s.putFn f1 x).dom d = s.dom d := rfl
@[simp] theorem State.putFn_srcOf (f1 : Nat) (x : FnEnt) (b n d : Nat) :
    (s.putFn f1 x).srcOf b n d = s.srcOf b n d := rfl
@[simp] theorem State.putFn_task (f1 : Nat) (x : FnEnt) (k : Nat) :
    (s.putFn f1 x).task k = s.task k := rfl
@[simp] theorem State.putFn_obj (f1 : Nat) (x : FnEnt) (ix sub : Nat) :
    (s.putFn f1 x).obj ix sub = s.obj ix sub := rfl

/-! ### What `State.putObj` leaves -/

@[simp] theorem State.putObj_site (ix1 sub1 : Nat) (x : Nat) (b n : Nat) :
    (s.putObj ix1 sub1 x).site b n = s.site b n := rfl
@[simp] theorem State.putObj_drawer (ix1 sub1 : Nat) (x : Nat) (b d : Nat) :
    (s.putObj ix1 sub1 x).drawer b d = s.drawer b d := rfl
@[simp] theorem State.putObj_bay (ix1 sub1 : Nat) (x : Nat) (b : Nat) :
    (s.putObj ix1 sub1 x).bay b = s.bay b := rfl
@[simp] theorem State.putObj_ring (ix1 sub1 : Nat) (x : Nat) (r : Nat) :
    (s.putObj ix1 sub1 x).ring r = s.ring r := rfl
@[simp] theorem State.putObj_lnk (ix1 sub1 : Nat) (x : Nat) (l : Nat) :
    (s.putObj ix1 sub1 x).lnk l = s.lnk l := rfl
@[simp] theorem State.putObj_leaf (ix1 sub1 : Nat) (x : Nat) (k : Nat) :
    (s.putObj ix1 sub1 x).leaf k = s.leaf k := rfl
@[simp] theorem State.putObj_mx (ix1 sub1 : Nat) (x : Nat) (b n d : Nat) :
    (s.putObj ix1 sub1 x).mx b n d = s.mx b n d := rfl
@[simp] theorem State.putObj_fx (ix1 sub1 : Nat) (x : Nat) (b n d : Nat) :
    (s.putObj ix1 sub1 x).fx b n d = s.fx b n d := rfl
@[simp] theorem State.putObj_kv (ix1 sub1 : Nat) (x : Nat) (f : Nat) :
    (s.putObj ix1 sub1 x).kv f = s.kv f := rfl
@[simp] theorem State.putObj_dom (ix1 sub1 : Nat) (x : Nat) (d : Nat) :
    (s.putObj ix1 sub1 x).dom d = s.dom d := rfl
@[simp] theorem State.putObj_fn (ix1 sub1 : Nat) (x : Nat) (f : Nat) :
    (s.putObj ix1 sub1 x).fn f = s.fn f := rfl
@[simp] theorem State.putObj_srcOf (ix1 sub1 : Nat) (x : Nat) (b n d : Nat) :
    (s.putObj ix1 sub1 x).srcOf b n d = s.srcOf b n d := rfl
@[simp] theorem State.putObj_task (ix1 sub1 : Nat) (x : Nat) (k : Nat) :
    (s.putObj ix1 sub1 x).task k = s.task k := rfl

/-! ### What `State.putModel` leaves -/

@[simp] theorem State.putModel_site (k1 : Nat) (x : Model) (b n : Nat) :
    (s.putModel k1 x).site b n = s.site b n := rfl
@[simp] theorem State.putModel_drawer (k1 : Nat) (x : Model) (b d : Nat) :
    (s.putModel k1 x).drawer b d = s.drawer b d := rfl
@[simp] theorem State.putModel_bay (k1 : Nat) (x : Model) (b : Nat) :
    (s.putModel k1 x).bay b = s.bay b := rfl
@[simp] theorem State.putModel_ring (k1 : Nat) (x : Model) (r : Nat) :
    (s.putModel k1 x).ring r = s.ring r := rfl
@[simp] theorem State.putModel_lnk (k1 : Nat) (x : Model) (l : Nat) :
    (s.putModel k1 x).lnk l = s.lnk l := rfl
@[simp] theorem State.putModel_leaf (k1 : Nat) (x : Model) (k : Nat) :
    (s.putModel k1 x).leaf k = s.leaf k := rfl
@[simp] theorem State.putModel_mx (k1 : Nat) (x : Model) (b n d : Nat) :
    (s.putModel k1 x).mx b n d = s.mx b n d := rfl
@[simp] theorem State.putModel_fx (k1 : Nat) (x : Model) (b n d : Nat) :
    (s.putModel k1 x).fx b n d = s.fx b n d := rfl
@[simp] theorem State.putModel_kv (k1 : Nat) (x : Model) (f : Nat) :
    (s.putModel k1 x).kv f = s.kv f := rfl
@[simp] theorem State.putModel_dom (k1 : Nat) (x : Model) (d : Nat) :
    (s.putModel k1 x).dom d = s.dom d := rfl
@[simp] theorem State.putModel_fn (k1 : Nat) (x : Model) (f : Nat) :
    (s.putModel k1 x).fn f = s.fn f := rfl
@[simp] theorem State.putModel_srcOf (k1 : Nat) (x : Model) (b n d : Nat) :
    (s.putModel k1 x).srcOf b n d = s.srcOf b n d := rfl
@[simp] theorem State.putModel_task (k1 : Nat) (x : Model) (k : Nat) :
    (s.putModel k1 x).task k = s.task k := rfl
@[simp] theorem State.putModel_obj (k1 : Nat) (x : Model) (ix sub : Nat) :
    (s.putModel k1 x).obj ix sub = s.obj ix sub := rfl

/-! ### What `State.putObject` leaves -/

@[simp] theorem State.putObject_site (k1 : Nat) (x : Obj) (b n : Nat) :
    (s.putObject k1 x).site b n = s.site b n := rfl
@[simp] theorem State.putObject_drawer (k1 : Nat) (x : Obj) (b d : Nat) :
    (s.putObject k1 x).drawer b d = s.drawer b d := rfl
@[simp] theorem State.putObject_bay (k1 : Nat) (x : Obj) (b : Nat) :
    (s.putObject k1 x).bay b = s.bay b := rfl
@[simp] theorem State.putObject_ring (k1 : Nat) (x : Obj) (r : Nat) :
    (s.putObject k1 x).ring r = s.ring r := rfl
@[simp] theorem State.putObject_lnk (k1 : Nat) (x : Obj) (l : Nat) :
    (s.putObject k1 x).lnk l = s.lnk l := rfl
@[simp] theorem State.putObject_leaf (k1 : Nat) (x : Obj) (k : Nat) :
    (s.putObject k1 x).leaf k = s.leaf k := rfl
@[simp] theorem State.putObject_mx (k1 : Nat) (x : Obj) (b n d : Nat) :
    (s.putObject k1 x).mx b n d = s.mx b n d := rfl
@[simp] theorem State.putObject_fx (k1 : Nat) (x : Obj) (b n d : Nat) :
    (s.putObject k1 x).fx b n d = s.fx b n d := rfl
@[simp] theorem State.putObject_kv (k1 : Nat) (x : Obj) (f : Nat) :
    (s.putObject k1 x).kv f = s.kv f := rfl
@[simp] theorem State.putObject_dom (k1 : Nat) (x : Obj) (d : Nat) :
    (s.putObject k1 x).dom d = s.dom d := rfl
@[simp] theorem State.putObject_fn (k1 : Nat) (x : Obj) (f : Nat) :
    (s.putObject k1 x).fn f = s.fn f := rfl
@[simp] theorem State.putObject_srcOf (k1 : Nat) (x : Obj) (b n d : Nat) :
    (s.putObject k1 x).srcOf b n d = s.srcOf b n d := rfl
@[simp] theorem State.putObject_task (k1 : Nat) (x : Obj) (k : Nat) :
    (s.putObject k1 x).task k = s.task k := rfl
@[simp] theorem State.putObject_obj (k1 : Nat) (x : Obj) (ix sub : Nat) :
    (s.putObject k1 x).obj ix sub = s.obj ix sub := rfl

end Sys2Proof.Machine
end

