-- ==== Sys2Proof/Laws/State.lean ====
section
/-!
SUPPORT. What each plain update of the state leaves alone: one lemma for each field.
-/
namespace Sys2Proof.Machine

variable (s : State)

@[simp] theorem State.emit_clk (e : Emit) : (s.emit e).clk = s.clk := rfl
@[simp] theorem State.emit_dict (e : Emit) : (s.emit e).dict = s.dict := rfl
@[simp] theorem State.emit_log (e : Emit) : (s.emit e).log = s.log := rfl
@[simp] theorem State.emit_sites (e : Emit) : (s.emit e).sites = s.sites := rfl
@[simp] theorem State.emit_net (e : Emit) : (s.emit e).net = s.net := rfl
@[simp] theorem State.emit_drawers (e : Emit) : (s.emit e).drawers = s.drawers := rfl
@[simp] theorem State.emit_bays (e : Emit) : (s.emit e).bays = s.bays := rfl
@[simp] theorem State.emit_service (e : Emit) : (s.emit e).service = s.service := rfl
@[simp] theorem State.emit_insts (e : Emit) : (s.emit e).insts = s.insts := rfl
@[simp] theorem State.emit_mxc (e : Emit) : (s.emit e).mxc = s.mxc := rfl
@[simp] theorem State.emit_fnc (e : Emit) : (s.emit e).fnc = s.fnc := rfl
@[simp] theorem State.emit_src (e : Emit) : (s.emit e).src = s.src := rfl
@[simp] theorem State.emit_claims (e : Emit) : (s.emit e).claims = s.claims := rfl
@[simp] theorem State.emit_xfers (e : Emit) : (s.emit e).xfers = s.xfers := rfl
@[simp] theorem State.emit_bufs (e : Emit) : (s.emit e).bufs = s.bufs := rfl
@[simp] theorem State.emit_sram (e : Emit) : (s.emit e).sram = s.sram := rfl
@[simp] theorem State.emit_tallies (e : Emit) : (s.emit e).tallies = s.tallies := rfl
@[simp] theorem State.emit_arb (e : Emit) : (s.emit e).arb = s.arb := rfl
@[simp] theorem State.emit_mem (e : Emit) : (s.emit e).mem = s.mem := rfl
@[simp] theorem State.emit_tier (e : Emit) : (s.emit e).tier = s.tier := rfl
@[simp] theorem State.emit_code (e : Emit) : (s.emit e).code = s.code := rfl
@[simp] theorem State.emit_jig (e : Emit) : (s.emit e).jig = s.jig := rfl
@[simp] theorem State.emit_host (e : Emit) : (s.emit e).host = s.host := rfl
@[simp] theorem State.emit_trust (e : Emit) : (s.emit e).trust = s.trust := rfl
@[simp] theorem State.emit_ren (e : Emit) : (s.emit e).ren = s.ren := rfl
@[simp] theorem State.emit_link (e : Emit) : (s.emit e).link = s.link := rfl
@[simp] theorem State.emit_wgt (e : Emit) : (s.emit e).wgt = s.wgt := rfl
@[simp] theorem State.emit_srv (e : Emit) : (s.emit e).srv = s.srv := rfl
@[simp] theorem State.emit_pwr (e : Emit) : (s.emit e).pwr = s.pwr := rfl
@[simp] theorem State.emit_mgmt (e : Emit) : (s.emit e).mgmt = s.mgmt := rfl
@[simp] theorem State.emit_free (e : Emit) : (s.emit e).free = s.free := rfl
@[simp] theorem State.emit_pending (e : Emit) : (s.emit e).pending = s.pending := rfl

@[simp] theorem State.tick_clk : (s.tick).clk = s.clk := rfl
@[simp] theorem State.tick_dict : (s.tick).dict = s.dict := rfl
@[simp] theorem State.tick_log : (s.tick).log = s.log := rfl
@[simp] theorem State.tick_sites : (s.tick).sites = s.sites := rfl
@[simp] theorem State.tick_net : (s.tick).net = s.net := rfl
@[simp] theorem State.tick_drawers : (s.tick).drawers = s.drawers := rfl
@[simp] theorem State.tick_bays : (s.tick).bays = s.bays := rfl
@[simp] theorem State.tick_service : (s.tick).service = s.service := rfl
@[simp] theorem State.tick_insts : (s.tick).insts = s.insts := rfl
@[simp] theorem State.tick_mxc : (s.tick).mxc = s.mxc := rfl
@[simp] theorem State.tick_fnc : (s.tick).fnc = s.fnc := rfl
@[simp] theorem State.tick_src : (s.tick).src = s.src := rfl
@[simp] theorem State.tick_claims : (s.tick).claims = s.claims := rfl
@[simp] theorem State.tick_xfers : (s.tick).xfers = s.xfers := rfl
@[simp] theorem State.tick_bufs : (s.tick).bufs = s.bufs := rfl
@[simp] theorem State.tick_sram : (s.tick).sram = s.sram := rfl
@[simp] theorem State.tick_tallies : (s.tick).tallies = s.tallies := rfl
@[simp] theorem State.tick_arb : (s.tick).arb = s.arb := rfl
@[simp] theorem State.tick_mem : (s.tick).mem = s.mem := rfl
@[simp] theorem State.tick_tier : (s.tick).tier = s.tier := rfl
@[simp] theorem State.tick_code : (s.tick).code = s.code := rfl
@[simp] theorem State.tick_jig : (s.tick).jig = s.jig := rfl
@[simp] theorem State.tick_host : (s.tick).host = s.host := rfl
@[simp] theorem State.tick_trust : (s.tick).trust = s.trust := rfl
@[simp] theorem State.tick_ren : (s.tick).ren = s.ren := rfl
@[simp] theorem State.tick_link : (s.tick).link = s.link := rfl
@[simp] theorem State.tick_wgt : (s.tick).wgt = s.wgt := rfl
@[simp] theorem State.tick_srv : (s.tick).srv = s.srv := rfl
@[simp] theorem State.tick_pwr : (s.tick).pwr = s.pwr := rfl
@[simp] theorem State.tick_mgmt : (s.tick).mgmt = s.mgmt := rfl
@[simp] theorem State.tick_out : (s.tick).out = s.out := rfl
@[simp] theorem State.tick_pending : (s.tick).pending = s.pending := rfl

@[simp] theorem State.ticks_clk (n : Nat) : (s.ticks n).clk = s.clk := rfl
@[simp] theorem State.ticks_dict (n : Nat) : (s.ticks n).dict = s.dict := rfl
@[simp] theorem State.ticks_log (n : Nat) : (s.ticks n).log = s.log := rfl
@[simp] theorem State.ticks_sites (n : Nat) : (s.ticks n).sites = s.sites := rfl
@[simp] theorem State.ticks_net (n : Nat) : (s.ticks n).net = s.net := rfl
@[simp] theorem State.ticks_drawers (n : Nat) : (s.ticks n).drawers = s.drawers := rfl
@[simp] theorem State.ticks_bays (n : Nat) : (s.ticks n).bays = s.bays := rfl
@[simp] theorem State.ticks_service (n : Nat) : (s.ticks n).service = s.service := rfl
@[simp] theorem State.ticks_insts (n : Nat) : (s.ticks n).insts = s.insts := rfl
@[simp] theorem State.ticks_mxc (n : Nat) : (s.ticks n).mxc = s.mxc := rfl
@[simp] theorem State.ticks_fnc (n : Nat) : (s.ticks n).fnc = s.fnc := rfl
@[simp] theorem State.ticks_src (n : Nat) : (s.ticks n).src = s.src := rfl
@[simp] theorem State.ticks_claims (n : Nat) : (s.ticks n).claims = s.claims := rfl
@[simp] theorem State.ticks_xfers (n : Nat) : (s.ticks n).xfers = s.xfers := rfl
@[simp] theorem State.ticks_bufs (n : Nat) : (s.ticks n).bufs = s.bufs := rfl
@[simp] theorem State.ticks_sram (n : Nat) : (s.ticks n).sram = s.sram := rfl
@[simp] theorem State.ticks_tallies (n : Nat) : (s.ticks n).tallies = s.tallies := rfl
@[simp] theorem State.ticks_arb (n : Nat) : (s.ticks n).arb = s.arb := rfl
@[simp] theorem State.ticks_mem (n : Nat) : (s.ticks n).mem = s.mem := rfl
@[simp] theorem State.ticks_tier (n : Nat) : (s.ticks n).tier = s.tier := rfl
@[simp] theorem State.ticks_code (n : Nat) : (s.ticks n).code = s.code := rfl
@[simp] theorem State.ticks_jig (n : Nat) : (s.ticks n).jig = s.jig := rfl
@[simp] theorem State.ticks_host (n : Nat) : (s.ticks n).host = s.host := rfl
@[simp] theorem State.ticks_trust (n : Nat) : (s.ticks n).trust = s.trust := rfl
@[simp] theorem State.ticks_ren (n : Nat) : (s.ticks n).ren = s.ren := rfl
@[simp] theorem State.ticks_link (n : Nat) : (s.ticks n).link = s.link := rfl
@[simp] theorem State.ticks_wgt (n : Nat) : (s.ticks n).wgt = s.wgt := rfl
@[simp] theorem State.ticks_srv (n : Nat) : (s.ticks n).srv = s.srv := rfl
@[simp] theorem State.ticks_pwr (n : Nat) : (s.ticks n).pwr = s.pwr := rfl
@[simp] theorem State.ticks_mgmt (n : Nat) : (s.ticks n).mgmt = s.mgmt := rfl
@[simp] theorem State.ticks_out (n : Nat) : (s.ticks n).out = s.out := rfl
@[simp] theorem State.ticks_pending (n : Nat) : (s.ticks n).pending = s.pending := rfl

@[simp] theorem State.putObj_clk (ix sub v : Nat) : (s.putObj ix sub v).clk = s.clk := rfl
@[simp] theorem State.putObj_log (ix sub v : Nat) : (s.putObj ix sub v).log = s.log := rfl
@[simp] theorem State.putObj_sites (ix sub v : Nat) : (s.putObj ix sub v).sites = s.sites := rfl
@[simp] theorem State.putObj_net (ix sub v : Nat) : (s.putObj ix sub v).net = s.net := rfl
@[simp] theorem State.putObj_drawers (ix sub v : Nat) : (s.putObj ix sub v).drawers = s.drawers := rfl
@[simp] theorem State.putObj_bays (ix sub v : Nat) : (s.putObj ix sub v).bays = s.bays := rfl
@[simp] theorem State.putObj_service (ix sub v : Nat) : (s.putObj ix sub v).service = s.service := rfl
@[simp] theorem State.putObj_insts (ix sub v : Nat) : (s.putObj ix sub v).insts = s.insts := rfl
@[simp] theorem State.putObj_mxc (ix sub v : Nat) : (s.putObj ix sub v).mxc = s.mxc := rfl
@[simp] theorem State.putObj_fnc (ix sub v : Nat) : (s.putObj ix sub v).fnc = s.fnc := rfl
@[simp] theorem State.putObj_src (ix sub v : Nat) : (s.putObj ix sub v).src = s.src := rfl
@[simp] theorem State.putObj_claims (ix sub v : Nat) : (s.putObj ix sub v).claims = s.claims := rfl
@[simp] theorem State.putObj_xfers (ix sub v : Nat) : (s.putObj ix sub v).xfers = s.xfers := rfl
@[simp] theorem State.putObj_bufs (ix sub v : Nat) : (s.putObj ix sub v).bufs = s.bufs := rfl
@[simp] theorem State.putObj_sram (ix sub v : Nat) : (s.putObj ix sub v).sram = s.sram := rfl
@[simp] theorem State.putObj_tallies (ix sub v : Nat) : (s.putObj ix sub v).tallies = s.tallies := rfl
@[simp] theorem State.putObj_arb (ix sub v : Nat) : (s.putObj ix sub v).arb = s.arb := rfl
@[simp] theorem State.putObj_mem (ix sub v : Nat) : (s.putObj ix sub v).mem = s.mem := rfl
@[simp] theorem State.putObj_tier (ix sub v : Nat) : (s.putObj ix sub v).tier = s.tier := rfl
@[simp] theorem State.putObj_code (ix sub v : Nat) : (s.putObj ix sub v).code = s.code := rfl
@[simp] theorem State.putObj_jig (ix sub v : Nat) : (s.putObj ix sub v).jig = s.jig := rfl
@[simp] theorem State.putObj_host (ix sub v : Nat) : (s.putObj ix sub v).host = s.host := rfl
@[simp] theorem State.putObj_trust (ix sub v : Nat) : (s.putObj ix sub v).trust = s.trust := rfl
@[simp] theorem State.putObj_ren (ix sub v : Nat) : (s.putObj ix sub v).ren = s.ren := rfl
@[simp] theorem State.putObj_link (ix sub v : Nat) : (s.putObj ix sub v).link = s.link := rfl
@[simp] theorem State.putObj_wgt (ix sub v : Nat) : (s.putObj ix sub v).wgt = s.wgt := rfl
@[simp] theorem State.putObj_srv (ix sub v : Nat) : (s.putObj ix sub v).srv = s.srv := rfl
@[simp] theorem State.putObj_pwr (ix sub v : Nat) : (s.putObj ix sub v).pwr = s.pwr := rfl
@[simp] theorem State.putObj_mgmt (ix sub v : Nat) : (s.putObj ix sub v).mgmt = s.mgmt := rfl
@[simp] theorem State.putObj_out (ix sub v : Nat) : (s.putObj ix sub v).out = s.out := rfl
@[simp] theorem State.putObj_free (ix sub v : Nat) : (s.putObj ix sub v).free = s.free := rfl
@[simp] theorem State.putObj_pending (ix sub v : Nat) : (s.putObj ix sub v).pending = s.pending := rfl

@[simp] theorem State.bump_clk (ix sub n : Nat) : (s.bump ix sub n).clk = s.clk := by unfold State.bump; split <;> rfl
@[simp] theorem State.bump_log (ix sub n : Nat) : (s.bump ix sub n).log = s.log := by unfold State.bump; split <;> rfl
@[simp] theorem State.bump_sites (ix sub n : Nat) : (s.bump ix sub n).sites = s.sites := by unfold State.bump; split <;> rfl
@[simp] theorem State.bump_net (ix sub n : Nat) : (s.bump ix sub n).net = s.net := by unfold State.bump; split <;> rfl
@[simp] theorem State.bump_drawers (ix sub n : Nat) : (s.bump ix sub n).drawers = s.drawers := by unfold State.bump; split <;> rfl
@[simp] theorem State.bump_bays (ix sub n : Nat) : (s.bump ix sub n).bays = s.bays := by unfold State.bump; split <;> rfl
@[simp] theorem State.bump_service (ix sub n : Nat) : (s.bump ix sub n).service = s.service := by unfold State.bump; split <;> rfl
@[simp] theorem State.bump_insts (ix sub n : Nat) : (s.bump ix sub n).insts = s.insts := by unfold State.bump; split <;> rfl
@[simp] theorem State.bump_mxc (ix sub n : Nat) : (s.bump ix sub n).mxc = s.mxc := by unfold State.bump; split <;> rfl
@[simp] theorem State.bump_fnc (ix sub n : Nat) : (s.bump ix sub n).fnc = s.fnc := by unfold State.bump; split <;> rfl
@[simp] theorem State.bump_src (ix sub n : Nat) : (s.bump ix sub n).src = s.src := by unfold State.bump; split <;> rfl
@[simp] theorem State.bump_claims (ix sub n : Nat) : (s.bump ix sub n).claims = s.claims := by unfold State.bump; split <;> rfl
@[simp] theorem State.bump_xfers (ix sub n : Nat) : (s.bump ix sub n).xfers = s.xfers := by unfold State.bump; split <;> rfl
@[simp] theorem State.bump_bufs (ix sub n : Nat) : (s.bump ix sub n).bufs = s.bufs := by unfold State.bump; split <;> rfl
@[simp] theorem State.bump_sram (ix sub n : Nat) : (s.bump ix sub n).sram = s.sram := by unfold State.bump; split <;> rfl
@[simp] theorem State.bump_tallies (ix sub n : Nat) : (s.bump ix sub n).tallies = s.tallies := by unfold State.bump; split <;> rfl
@[simp] theorem State.bump_arb (ix sub n : Nat) : (s.bump ix sub n).arb = s.arb := by unfold State.bump; split <;> rfl
@[simp] theorem State.bump_mem (ix sub n : Nat) : (s.bump ix sub n).mem = s.mem := by unfold State.bump; split <;> rfl
@[simp] theorem State.bump_tier (ix sub n : Nat) : (s.bump ix sub n).tier = s.tier := by unfold State.bump; split <;> rfl
@[simp] theorem State.bump_code (ix sub n : Nat) : (s.bump ix sub n).code = s.code := by unfold State.bump; split <;> rfl
@[simp] theorem State.bump_jig (ix sub n : Nat) : (s.bump ix sub n).jig = s.jig := by unfold State.bump; split <;> rfl
@[simp] theorem State.bump_host (ix sub n : Nat) : (s.bump ix sub n).host = s.host := by unfold State.bump; split <;> rfl
@[simp] theorem State.bump_trust (ix sub n : Nat) : (s.bump ix sub n).trust = s.trust := by unfold State.bump; split <;> rfl
@[simp] theorem State.bump_ren (ix sub n : Nat) : (s.bump ix sub n).ren = s.ren := by unfold State.bump; split <;> rfl
@[simp] theorem State.bump_link (ix sub n : Nat) : (s.bump ix sub n).link = s.link := by unfold State.bump; split <;> rfl
@[simp] theorem State.bump_wgt (ix sub n : Nat) : (s.bump ix sub n).wgt = s.wgt := by unfold State.bump; split <;> rfl
@[simp] theorem State.bump_srv (ix sub n : Nat) : (s.bump ix sub n).srv = s.srv := by unfold State.bump; split <;> rfl
@[simp] theorem State.bump_pwr (ix sub n : Nat) : (s.bump ix sub n).pwr = s.pwr := by unfold State.bump; split <;> rfl
@[simp] theorem State.bump_mgmt (ix sub n : Nat) : (s.bump ix sub n).mgmt = s.mgmt := by unfold State.bump; split <;> rfl
@[simp] theorem State.bump_out (ix sub n : Nat) : (s.bump ix sub n).out = s.out := by unfold State.bump; split <;> rfl
@[simp] theorem State.bump_free (ix sub n : Nat) : (s.bump ix sub n).free = s.free := by unfold State.bump; split <;> rfl
@[simp] theorem State.bump_pending (ix sub n : Nat) : (s.bump ix sub n).pending = s.pending := by unfold State.bump; split <;> rfl

@[simp] theorem State.dictRefused_clk : (s.dictRefused).clk = s.clk := by unfold State.dictRefused; simp
@[simp] theorem State.dictRefused_log : (s.dictRefused).log = s.log := by unfold State.dictRefused; simp
@[simp] theorem State.dictRefused_sites : (s.dictRefused).sites = s.sites := by unfold State.dictRefused; simp
@[simp] theorem State.dictRefused_net : (s.dictRefused).net = s.net := by unfold State.dictRefused; simp
@[simp] theorem State.dictRefused_drawers : (s.dictRefused).drawers = s.drawers := by unfold State.dictRefused; simp
@[simp] theorem State.dictRefused_bays : (s.dictRefused).bays = s.bays := by unfold State.dictRefused; simp
@[simp] theorem State.dictRefused_service : (s.dictRefused).service = s.service := by unfold State.dictRefused; simp
@[simp] theorem State.dictRefused_insts : (s.dictRefused).insts = s.insts := by unfold State.dictRefused; simp
@[simp] theorem State.dictRefused_mxc : (s.dictRefused).mxc = s.mxc := by unfold State.dictRefused; simp
@[simp] theorem State.dictRefused_fnc : (s.dictRefused).fnc = s.fnc := by unfold State.dictRefused; simp
@[simp] theorem State.dictRefused_src : (s.dictRefused).src = s.src := by unfold State.dictRefused; simp
@[simp] theorem State.dictRefused_claims : (s.dictRefused).claims = s.claims := by unfold State.dictRefused; simp
@[simp] theorem State.dictRefused_xfers : (s.dictRefused).xfers = s.xfers := by unfold State.dictRefused; simp
@[simp] theorem State.dictRefused_bufs : (s.dictRefused).bufs = s.bufs := by unfold State.dictRefused; simp
@[simp] theorem State.dictRefused_sram : (s.dictRefused).sram = s.sram := by unfold State.dictRefused; simp
@[simp] theorem State.dictRefused_tallies : (s.dictRefused).tallies = s.tallies := by unfold State.dictRefused; simp
@[simp] theorem State.dictRefused_arb : (s.dictRefused).arb = s.arb := by unfold State.dictRefused; simp
@[simp] theorem State.dictRefused_mem : (s.dictRefused).mem = s.mem := by unfold State.dictRefused; simp
@[simp] theorem State.dictRefused_tier : (s.dictRefused).tier = s.tier := by unfold State.dictRefused; simp
@[simp] theorem State.dictRefused_code : (s.dictRefused).code = s.code := by unfold State.dictRefused; simp
@[simp] theorem State.dictRefused_jig : (s.dictRefused).jig = s.jig := by unfold State.dictRefused; simp
@[simp] theorem State.dictRefused_host : (s.dictRefused).host = s.host := by unfold State.dictRefused; simp
@[simp] theorem State.dictRefused_trust : (s.dictRefused).trust = s.trust := by unfold State.dictRefused; simp
@[simp] theorem State.dictRefused_ren : (s.dictRefused).ren = s.ren := by unfold State.dictRefused; simp
@[simp] theorem State.dictRefused_link : (s.dictRefused).link = s.link := by unfold State.dictRefused; simp
@[simp] theorem State.dictRefused_wgt : (s.dictRefused).wgt = s.wgt := by unfold State.dictRefused; simp
@[simp] theorem State.dictRefused_srv : (s.dictRefused).srv = s.srv := by unfold State.dictRefused; simp
@[simp] theorem State.dictRefused_pwr : (s.dictRefused).pwr = s.pwr := by unfold State.dictRefused; simp
@[simp] theorem State.dictRefused_mgmt : (s.dictRefused).mgmt = s.mgmt := by unfold State.dictRefused; simp
@[simp] theorem State.dictRefused_out : (s.dictRefused).out = s.out := by unfold State.dictRefused; simp
@[simp] theorem State.dictRefused_free : (s.dictRefused).free = s.free := by unfold State.dictRefused; simp
@[simp] theorem State.dictRefused_pending : (s.dictRefused).pending = s.pending := by unfold State.dictRefused; simp

@[simp] theorem State.imageResult_clk (r : Nat) : (s.imageResult r).clk = s.clk := rfl
@[simp] theorem State.imageResult_log (r : Nat) : (s.imageResult r).log = s.log := rfl
@[simp] theorem State.imageResult_sites (r : Nat) : (s.imageResult r).sites = s.sites := rfl
@[simp] theorem State.imageResult_net (r : Nat) : (s.imageResult r).net = s.net := rfl
@[simp] theorem State.imageResult_drawers (r : Nat) : (s.imageResult r).drawers = s.drawers := rfl
@[simp] theorem State.imageResult_bays (r : Nat) : (s.imageResult r).bays = s.bays := rfl
@[simp] theorem State.imageResult_service (r : Nat) : (s.imageResult r).service = s.service := rfl
@[simp] theorem State.imageResult_insts (r : Nat) : (s.imageResult r).insts = s.insts := rfl
@[simp] theorem State.imageResult_mxc (r : Nat) : (s.imageResult r).mxc = s.mxc := rfl
@[simp] theorem State.imageResult_fnc (r : Nat) : (s.imageResult r).fnc = s.fnc := rfl
@[simp] theorem State.imageResult_src (r : Nat) : (s.imageResult r).src = s.src := rfl
@[simp] theorem State.imageResult_claims (r : Nat) : (s.imageResult r).claims = s.claims := rfl
@[simp] theorem State.imageResult_xfers (r : Nat) : (s.imageResult r).xfers = s.xfers := rfl
@[simp] theorem State.imageResult_bufs (r : Nat) : (s.imageResult r).bufs = s.bufs := rfl
@[simp] theorem State.imageResult_sram (r : Nat) : (s.imageResult r).sram = s.sram := rfl
@[simp] theorem State.imageResult_tallies (r : Nat) : (s.imageResult r).tallies = s.tallies := rfl
@[simp] theorem State.imageResult_arb (r : Nat) : (s.imageResult r).arb = s.arb := rfl
@[simp] theorem State.imageResult_mem (r : Nat) : (s.imageResult r).mem = s.mem := rfl
@[simp] theorem State.imageResult_tier (r : Nat) : (s.imageResult r).tier = s.tier := rfl
@[simp] theorem State.imageResult_code (r : Nat) : (s.imageResult r).code = s.code := rfl
@[simp] theorem State.imageResult_jig (r : Nat) : (s.imageResult r).jig = s.jig := rfl
@[simp] theorem State.imageResult_host (r : Nat) : (s.imageResult r).host = s.host := rfl
@[simp] theorem State.imageResult_trust (r : Nat) : (s.imageResult r).trust = s.trust := rfl
@[simp] theorem State.imageResult_ren (r : Nat) : (s.imageResult r).ren = s.ren := rfl
@[simp] theorem State.imageResult_link (r : Nat) : (s.imageResult r).link = s.link := rfl
@[simp] theorem State.imageResult_wgt (r : Nat) : (s.imageResult r).wgt = s.wgt := rfl
@[simp] theorem State.imageResult_srv (r : Nat) : (s.imageResult r).srv = s.srv := rfl
@[simp] theorem State.imageResult_pwr (r : Nat) : (s.imageResult r).pwr = s.pwr := rfl
@[simp] theorem State.imageResult_mgmt (r : Nat) : (s.imageResult r).mgmt = s.mgmt := rfl
@[simp] theorem State.imageResult_out (r : Nat) : (s.imageResult r).out = s.out := rfl
@[simp] theorem State.imageResult_free (r : Nat) : (s.imageResult r).free = s.free := rfl
@[simp] theorem State.imageResult_pending (r : Nat) : (s.imageResult r).pending = s.pending := rfl

@[simp] theorem State.putPort_clk (a : Nat) (b : Option (List Nat)) (c : Nat) : (s.putPort a b c).clk = s.clk := rfl
@[simp] theorem State.putPort_log (a : Nat) (b : Option (List Nat)) (c : Nat) : (s.putPort a b c).log = s.log := rfl
@[simp] theorem State.putPort_sites (a : Nat) (b : Option (List Nat)) (c : Nat) : (s.putPort a b c).sites = s.sites := rfl
@[simp] theorem State.putPort_net (a : Nat) (b : Option (List Nat)) (c : Nat) : (s.putPort a b c).net = s.net := rfl
@[simp] theorem State.putPort_drawers (a : Nat) (b : Option (List Nat)) (c : Nat) : (s.putPort a b c).drawers = s.drawers := rfl
@[simp] theorem State.putPort_bays (a : Nat) (b : Option (List Nat)) (c : Nat) : (s.putPort a b c).bays = s.bays := rfl
@[simp] theorem State.putPort_service (a : Nat) (b : Option (List Nat)) (c : Nat) : (s.putPort a b c).service = s.service := rfl
@[simp] theorem State.putPort_insts (a : Nat) (b : Option (List Nat)) (c : Nat) : (s.putPort a b c).insts = s.insts := rfl
@[simp] theorem State.putPort_mxc (a : Nat) (b : Option (List Nat)) (c : Nat) : (s.putPort a b c).mxc = s.mxc := rfl
@[simp] theorem State.putPort_fnc (a : Nat) (b : Option (List Nat)) (c : Nat) : (s.putPort a b c).fnc = s.fnc := rfl
@[simp] theorem State.putPort_src (a : Nat) (b : Option (List Nat)) (c : Nat) : (s.putPort a b c).src = s.src := rfl
@[simp] theorem State.putPort_claims (a : Nat) (b : Option (List Nat)) (c : Nat) : (s.putPort a b c).claims = s.claims := rfl
@[simp] theorem State.putPort_xfers (a : Nat) (b : Option (List Nat)) (c : Nat) : (s.putPort a b c).xfers = s.xfers := rfl
@[simp] theorem State.putPort_bufs (a : Nat) (b : Option (List Nat)) (c : Nat) : (s.putPort a b c).bufs = s.bufs := rfl
@[simp] theorem State.putPort_sram (a : Nat) (b : Option (List Nat)) (c : Nat) : (s.putPort a b c).sram = s.sram := rfl
@[simp] theorem State.putPort_tallies (a : Nat) (b : Option (List Nat)) (c : Nat) : (s.putPort a b c).tallies = s.tallies := rfl
@[simp] theorem State.putPort_arb (a : Nat) (b : Option (List Nat)) (c : Nat) : (s.putPort a b c).arb = s.arb := rfl
@[simp] theorem State.putPort_mem (a : Nat) (b : Option (List Nat)) (c : Nat) : (s.putPort a b c).mem = s.mem := rfl
@[simp] theorem State.putPort_tier (a : Nat) (b : Option (List Nat)) (c : Nat) : (s.putPort a b c).tier = s.tier := rfl
@[simp] theorem State.putPort_code (a : Nat) (b : Option (List Nat)) (c : Nat) : (s.putPort a b c).code = s.code := rfl
@[simp] theorem State.putPort_jig (a : Nat) (b : Option (List Nat)) (c : Nat) : (s.putPort a b c).jig = s.jig := rfl
@[simp] theorem State.putPort_host (a : Nat) (b : Option (List Nat)) (c : Nat) : (s.putPort a b c).host = s.host := rfl
@[simp] theorem State.putPort_trust (a : Nat) (b : Option (List Nat)) (c : Nat) : (s.putPort a b c).trust = s.trust := rfl
@[simp] theorem State.putPort_ren (a : Nat) (b : Option (List Nat)) (c : Nat) : (s.putPort a b c).ren = s.ren := rfl
@[simp] theorem State.putPort_link (a : Nat) (b : Option (List Nat)) (c : Nat) : (s.putPort a b c).link = s.link := rfl
@[simp] theorem State.putPort_wgt (a : Nat) (b : Option (List Nat)) (c : Nat) : (s.putPort a b c).wgt = s.wgt := rfl
@[simp] theorem State.putPort_srv (a : Nat) (b : Option (List Nat)) (c : Nat) : (s.putPort a b c).srv = s.srv := rfl
@[simp] theorem State.putPort_pwr (a : Nat) (b : Option (List Nat)) (c : Nat) : (s.putPort a b c).pwr = s.pwr := rfl
@[simp] theorem State.putPort_mgmt (a : Nat) (b : Option (List Nat)) (c : Nat) : (s.putPort a b c).mgmt = s.mgmt := rfl
@[simp] theorem State.putPort_out (a : Nat) (b : Option (List Nat)) (c : Nat) : (s.putPort a b c).out = s.out := rfl
@[simp] theorem State.putPort_free (a : Nat) (b : Option (List Nat)) (c : Nat) : (s.putPort a b c).free = s.free := rfl
@[simp] theorem State.putPort_pending (a : Nat) (b : Option (List Nat)) (c : Nat) : (s.putPort a b c).pending = s.pending := rfl

@[simp] theorem State.putLater_clk (ix sub v : Nat) : (s.putLater ix sub v).clk = s.clk := rfl
@[simp] theorem State.putLater_log (ix sub v : Nat) : (s.putLater ix sub v).log = s.log := rfl
@[simp] theorem State.putLater_sites (ix sub v : Nat) : (s.putLater ix sub v).sites = s.sites := rfl
@[simp] theorem State.putLater_net (ix sub v : Nat) : (s.putLater ix sub v).net = s.net := rfl
@[simp] theorem State.putLater_drawers (ix sub v : Nat) : (s.putLater ix sub v).drawers = s.drawers := rfl
@[simp] theorem State.putLater_bays (ix sub v : Nat) : (s.putLater ix sub v).bays = s.bays := rfl
@[simp] theorem State.putLater_service (ix sub v : Nat) : (s.putLater ix sub v).service = s.service := rfl
@[simp] theorem State.putLater_insts (ix sub v : Nat) : (s.putLater ix sub v).insts = s.insts := rfl
@[simp] theorem State.putLater_mxc (ix sub v : Nat) : (s.putLater ix sub v).mxc = s.mxc := rfl
@[simp] theorem State.putLater_fnc (ix sub v : Nat) : (s.putLater ix sub v).fnc = s.fnc := rfl
@[simp] theorem State.putLater_src (ix sub v : Nat) : (s.putLater ix sub v).src = s.src := rfl
@[simp] theorem State.putLater_claims (ix sub v : Nat) : (s.putLater ix sub v).claims = s.claims := rfl
@[simp] theorem State.putLater_xfers (ix sub v : Nat) : (s.putLater ix sub v).xfers = s.xfers := rfl
@[simp] theorem State.putLater_bufs (ix sub v : Nat) : (s.putLater ix sub v).bufs = s.bufs := rfl
@[simp] theorem State.putLater_sram (ix sub v : Nat) : (s.putLater ix sub v).sram = s.sram := rfl
@[simp] theorem State.putLater_tallies (ix sub v : Nat) : (s.putLater ix sub v).tallies = s.tallies := rfl
@[simp] theorem State.putLater_arb (ix sub v : Nat) : (s.putLater ix sub v).arb = s.arb := rfl
@[simp] theorem State.putLater_mem (ix sub v : Nat) : (s.putLater ix sub v).mem = s.mem := rfl
@[simp] theorem State.putLater_tier (ix sub v : Nat) : (s.putLater ix sub v).tier = s.tier := rfl
@[simp] theorem State.putLater_code (ix sub v : Nat) : (s.putLater ix sub v).code = s.code := rfl
@[simp] theorem State.putLater_jig (ix sub v : Nat) : (s.putLater ix sub v).jig = s.jig := rfl
@[simp] theorem State.putLater_host (ix sub v : Nat) : (s.putLater ix sub v).host = s.host := rfl
@[simp] theorem State.putLater_trust (ix sub v : Nat) : (s.putLater ix sub v).trust = s.trust := rfl
@[simp] theorem State.putLater_ren (ix sub v : Nat) : (s.putLater ix sub v).ren = s.ren := rfl
@[simp] theorem State.putLater_link (ix sub v : Nat) : (s.putLater ix sub v).link = s.link := rfl
@[simp] theorem State.putLater_wgt (ix sub v : Nat) : (s.putLater ix sub v).wgt = s.wgt := rfl
@[simp] theorem State.putLater_srv (ix sub v : Nat) : (s.putLater ix sub v).srv = s.srv := rfl
@[simp] theorem State.putLater_pwr (ix sub v : Nat) : (s.putLater ix sub v).pwr = s.pwr := rfl
@[simp] theorem State.putLater_mgmt (ix sub v : Nat) : (s.putLater ix sub v).mgmt = s.mgmt := rfl
@[simp] theorem State.putLater_out (ix sub v : Nat) : (s.putLater ix sub v).out = s.out := rfl
@[simp] theorem State.putLater_free (ix sub v : Nat) : (s.putLater ix sub v).free = s.free := rfl
@[simp] theorem State.putLater_pending (ix sub v : Nat) : (s.putLater ix sub v).pending = s.pending := rfl

@[simp] theorem State.setPart_clk (p v : Nat) : (s.setPart p v).clk = s.clk := rfl
@[simp] theorem State.setPart_log (p v : Nat) : (s.setPart p v).log = s.log := rfl
@[simp] theorem State.setPart_sites (p v : Nat) : (s.setPart p v).sites = s.sites := rfl
@[simp] theorem State.setPart_net (p v : Nat) : (s.setPart p v).net = s.net := rfl
@[simp] theorem State.setPart_drawers (p v : Nat) : (s.setPart p v).drawers = s.drawers := rfl
@[simp] theorem State.setPart_bays (p v : Nat) : (s.setPart p v).bays = s.bays := rfl
@[simp] theorem State.setPart_service (p v : Nat) : (s.setPart p v).service = s.service := rfl
@[simp] theorem State.setPart_insts (p v : Nat) : (s.setPart p v).insts = s.insts := rfl
@[simp] theorem State.setPart_mxc (p v : Nat) : (s.setPart p v).mxc = s.mxc := rfl
@[simp] theorem State.setPart_fnc (p v : Nat) : (s.setPart p v).fnc = s.fnc := rfl
@[simp] theorem State.setPart_src (p v : Nat) : (s.setPart p v).src = s.src := rfl
@[simp] theorem State.setPart_claims (p v : Nat) : (s.setPart p v).claims = s.claims := rfl
@[simp] theorem State.setPart_xfers (p v : Nat) : (s.setPart p v).xfers = s.xfers := rfl
@[simp] theorem State.setPart_bufs (p v : Nat) : (s.setPart p v).bufs = s.bufs := rfl
@[simp] theorem State.setPart_sram (p v : Nat) : (s.setPart p v).sram = s.sram := rfl
@[simp] theorem State.setPart_tallies (p v : Nat) : (s.setPart p v).tallies = s.tallies := rfl
@[simp] theorem State.setPart_arb (p v : Nat) : (s.setPart p v).arb = s.arb := rfl
@[simp] theorem State.setPart_mem (p v : Nat) : (s.setPart p v).mem = s.mem := rfl
@[simp] theorem State.setPart_tier (p v : Nat) : (s.setPart p v).tier = s.tier := rfl
@[simp] theorem State.setPart_code (p v : Nat) : (s.setPart p v).code = s.code := rfl
@[simp] theorem State.setPart_jig (p v : Nat) : (s.setPart p v).jig = s.jig := rfl
@[simp] theorem State.setPart_host (p v : Nat) : (s.setPart p v).host = s.host := rfl
@[simp] theorem State.setPart_trust (p v : Nat) : (s.setPart p v).trust = s.trust := rfl
@[simp] theorem State.setPart_ren (p v : Nat) : (s.setPart p v).ren = s.ren := rfl
@[simp] theorem State.setPart_link (p v : Nat) : (s.setPart p v).link = s.link := rfl
@[simp] theorem State.setPart_wgt (p v : Nat) : (s.setPart p v).wgt = s.wgt := rfl
@[simp] theorem State.setPart_srv (p v : Nat) : (s.setPart p v).srv = s.srv := rfl
@[simp] theorem State.setPart_pwr (p v : Nat) : (s.setPart p v).pwr = s.pwr := rfl
@[simp] theorem State.setPart_mgmt (p v : Nat) : (s.setPart p v).mgmt = s.mgmt := rfl
@[simp] theorem State.setPart_out (p v : Nat) : (s.setPart p v).out = s.out := rfl
@[simp] theorem State.setPart_free (p v : Nat) : (s.setPart p v).free = s.free := rfl
@[simp] theorem State.setPart_pending (p v : Nat) : (s.setPart p v).pending = s.pending := rfl

@[simp] theorem State.setBayIn_clk (b : Nat) (on : Bool) : (s.setBayIn b on).clk = s.clk := rfl
@[simp] theorem State.setBayIn_log (b : Nat) (on : Bool) : (s.setBayIn b on).log = s.log := rfl
@[simp] theorem State.setBayIn_sites (b : Nat) (on : Bool) : (s.setBayIn b on).sites = s.sites := rfl
@[simp] theorem State.setBayIn_net (b : Nat) (on : Bool) : (s.setBayIn b on).net = s.net := rfl
@[simp] theorem State.setBayIn_drawers (b : Nat) (on : Bool) : (s.setBayIn b on).drawers = s.drawers := rfl
@[simp] theorem State.setBayIn_bays (b : Nat) (on : Bool) : (s.setBayIn b on).bays = s.bays := rfl
@[simp] theorem State.setBayIn_service (b : Nat) (on : Bool) : (s.setBayIn b on).service = s.service := rfl
@[simp] theorem State.setBayIn_insts (b : Nat) (on : Bool) : (s.setBayIn b on).insts = s.insts := rfl
@[simp] theorem State.setBayIn_mxc (b : Nat) (on : Bool) : (s.setBayIn b on).mxc = s.mxc := rfl
@[simp] theorem State.setBayIn_fnc (b : Nat) (on : Bool) : (s.setBayIn b on).fnc = s.fnc := rfl
@[simp] theorem State.setBayIn_src (b : Nat) (on : Bool) : (s.setBayIn b on).src = s.src := rfl
@[simp] theorem State.setBayIn_claims (b : Nat) (on : Bool) : (s.setBayIn b on).claims = s.claims := rfl
@[simp] theorem State.setBayIn_xfers (b : Nat) (on : Bool) : (s.setBayIn b on).xfers = s.xfers := rfl
@[simp] theorem State.setBayIn_bufs (b : Nat) (on : Bool) : (s.setBayIn b on).bufs = s.bufs := rfl
@[simp] theorem State.setBayIn_sram (b : Nat) (on : Bool) : (s.setBayIn b on).sram = s.sram := rfl
@[simp] theorem State.setBayIn_tallies (b : Nat) (on : Bool) : (s.setBayIn b on).tallies = s.tallies := rfl
@[simp] theorem State.setBayIn_arb (b : Nat) (on : Bool) : (s.setBayIn b on).arb = s.arb := rfl
@[simp] theorem State.setBayIn_mem (b : Nat) (on : Bool) : (s.setBayIn b on).mem = s.mem := rfl
@[simp] theorem State.setBayIn_tier (b : Nat) (on : Bool) : (s.setBayIn b on).tier = s.tier := rfl
@[simp] theorem State.setBayIn_code (b : Nat) (on : Bool) : (s.setBayIn b on).code = s.code := rfl
@[simp] theorem State.setBayIn_jig (b : Nat) (on : Bool) : (s.setBayIn b on).jig = s.jig := rfl
@[simp] theorem State.setBayIn_host (b : Nat) (on : Bool) : (s.setBayIn b on).host = s.host := rfl
@[simp] theorem State.setBayIn_trust (b : Nat) (on : Bool) : (s.setBayIn b on).trust = s.trust := rfl
@[simp] theorem State.setBayIn_ren (b : Nat) (on : Bool) : (s.setBayIn b on).ren = s.ren := rfl
@[simp] theorem State.setBayIn_link (b : Nat) (on : Bool) : (s.setBayIn b on).link = s.link := rfl
@[simp] theorem State.setBayIn_wgt (b : Nat) (on : Bool) : (s.setBayIn b on).wgt = s.wgt := rfl
@[simp] theorem State.setBayIn_srv (b : Nat) (on : Bool) : (s.setBayIn b on).srv = s.srv := rfl
@[simp] theorem State.setBayIn_pwr (b : Nat) (on : Bool) : (s.setBayIn b on).pwr = s.pwr := rfl
@[simp] theorem State.setBayIn_mgmt (b : Nat) (on : Bool) : (s.setBayIn b on).mgmt = s.mgmt := rfl
@[simp] theorem State.setBayIn_out (b : Nat) (on : Bool) : (s.setBayIn b on).out = s.out := rfl
@[simp] theorem State.setBayIn_free (b : Nat) (on : Bool) : (s.setBayIn b on).free = s.free := rfl
@[simp] theorem State.setBayIn_pending (b : Nat) (on : Bool) : (s.setBayIn b on).pending = s.pending := rfl

@[simp] theorem State.setAction_clk (p a : Nat) : (s.setAction p a).clk = s.clk := rfl
@[simp] theorem State.setAction_dict (p a : Nat) : (s.setAction p a).dict = s.dict := rfl
@[simp] theorem State.setAction_log (p a : Nat) : (s.setAction p a).log = s.log := rfl
@[simp] theorem State.setAction_sites (p a : Nat) : (s.setAction p a).sites = s.sites := rfl
@[simp] theorem State.setAction_net (p a : Nat) : (s.setAction p a).net = s.net := rfl
@[simp] theorem State.setAction_drawers (p a : Nat) : (s.setAction p a).drawers = s.drawers := rfl
@[simp] theorem State.setAction_bays (p a : Nat) : (s.setAction p a).bays = s.bays := rfl
@[simp] theorem State.setAction_service (p a : Nat) : (s.setAction p a).service = s.service := rfl
@[simp] theorem State.setAction_insts (p a : Nat) : (s.setAction p a).insts = s.insts := rfl
@[simp] theorem State.setAction_mxc (p a : Nat) : (s.setAction p a).mxc = s.mxc := rfl
@[simp] theorem State.setAction_fnc (p a : Nat) : (s.setAction p a).fnc = s.fnc := rfl
@[simp] theorem State.setAction_src (p a : Nat) : (s.setAction p a).src = s.src := rfl
@[simp] theorem State.setAction_claims (p a : Nat) : (s.setAction p a).claims = s.claims := rfl
@[simp] theorem State.setAction_xfers (p a : Nat) : (s.setAction p a).xfers = s.xfers := rfl
@[simp] theorem State.setAction_bufs (p a : Nat) : (s.setAction p a).bufs = s.bufs := rfl
@[simp] theorem State.setAction_sram (p a : Nat) : (s.setAction p a).sram = s.sram := rfl
@[simp] theorem State.setAction_tallies (p a : Nat) : (s.setAction p a).tallies = s.tallies := rfl
@[simp] theorem State.setAction_arb (p a : Nat) : (s.setAction p a).arb = s.arb := rfl
@[simp] theorem State.setAction_mem (p a : Nat) : (s.setAction p a).mem = s.mem := rfl
@[simp] theorem State.setAction_tier (p a : Nat) : (s.setAction p a).tier = s.tier := rfl
@[simp] theorem State.setAction_code (p a : Nat) : (s.setAction p a).code = s.code := rfl
@[simp] theorem State.setAction_jig (p a : Nat) : (s.setAction p a).jig = s.jig := rfl
@[simp] theorem State.setAction_host (p a : Nat) : (s.setAction p a).host = s.host := rfl
@[simp] theorem State.setAction_trust (p a : Nat) : (s.setAction p a).trust = s.trust := rfl
@[simp] theorem State.setAction_link (p a : Nat) : (s.setAction p a).link = s.link := rfl
@[simp] theorem State.setAction_wgt (p a : Nat) : (s.setAction p a).wgt = s.wgt := rfl
@[simp] theorem State.setAction_srv (p a : Nat) : (s.setAction p a).srv = s.srv := rfl
@[simp] theorem State.setAction_pwr (p a : Nat) : (s.setAction p a).pwr = s.pwr := rfl
@[simp] theorem State.setAction_mgmt (p a : Nat) : (s.setAction p a).mgmt = s.mgmt := rfl
@[simp] theorem State.setAction_out (p a : Nat) : (s.setAction p a).out = s.out := rfl
@[simp] theorem State.setAction_free (p a : Nat) : (s.setAction p a).free = s.free := rfl
@[simp] theorem State.setAction_pending (p a : Nat) : (s.setAction p a).pending = s.pending := rfl

@[simp] theorem State.putRen_clk (x : Ren) : (s.putRen x).clk = s.clk := rfl
@[simp] theorem State.putRen_dict (x : Ren) : (s.putRen x).dict = s.dict := rfl
@[simp] theorem State.putRen_log (x : Ren) : (s.putRen x).log = s.log := rfl
@[simp] theorem State.putRen_sites (x : Ren) : (s.putRen x).sites = s.sites := rfl
@[simp] theorem State.putRen_net (x : Ren) : (s.putRen x).net = s.net := rfl
@[simp] theorem State.putRen_drawers (x : Ren) : (s.putRen x).drawers = s.drawers := rfl
@[simp] theorem State.putRen_bays (x : Ren) : (s.putRen x).bays = s.bays := rfl
@[simp] theorem State.putRen_service (x : Ren) : (s.putRen x).service = s.service := rfl
@[simp] theorem State.putRen_insts (x : Ren) : (s.putRen x).insts = s.insts := rfl
@[simp] theorem State.putRen_mxc (x : Ren) : (s.putRen x).mxc = s.mxc := rfl
@[simp] theorem State.putRen_fnc (x : Ren) : (s.putRen x).fnc = s.fnc := rfl
@[simp] theorem State.putRen_src (x : Ren) : (s.putRen x).src = s.src := rfl
@[simp] theorem State.putRen_claims (x : Ren) : (s.putRen x).claims = s.claims := rfl
@[simp] theorem State.putRen_xfers (x : Ren) : (s.putRen x).xfers = s.xfers := rfl
@[simp] theorem State.putRen_bufs (x : Ren) : (s.putRen x).bufs = s.bufs := rfl
@[simp] theorem State.putRen_sram (x : Ren) : (s.putRen x).sram = s.sram := rfl
@[simp] theorem State.putRen_tallies (x : Ren) : (s.putRen x).tallies = s.tallies := rfl
@[simp] theorem State.putRen_arb (x : Ren) : (s.putRen x).arb = s.arb := rfl
@[simp] theorem State.putRen_mem (x : Ren) : (s.putRen x).mem = s.mem := rfl
@[simp] theorem State.putRen_tier (x : Ren) : (s.putRen x).tier = s.tier := rfl
@[simp] theorem State.putRen_code (x : Ren) : (s.putRen x).code = s.code := rfl
@[simp] theorem State.putRen_jig (x : Ren) : (s.putRen x).jig = s.jig := rfl
@[simp] theorem State.putRen_host (x : Ren) : (s.putRen x).host = s.host := rfl
@[simp] theorem State.putRen_trust (x : Ren) : (s.putRen x).trust = s.trust := rfl
@[simp] theorem State.putRen_link (x : Ren) : (s.putRen x).link = s.link := rfl
@[simp] theorem State.putRen_wgt (x : Ren) : (s.putRen x).wgt = s.wgt := rfl
@[simp] theorem State.putRen_srv (x : Ren) : (s.putRen x).srv = s.srv := rfl
@[simp] theorem State.putRen_pwr (x : Ren) : (s.putRen x).pwr = s.pwr := rfl
@[simp] theorem State.putRen_mgmt (x : Ren) : (s.putRen x).mgmt = s.mgmt := rfl
@[simp] theorem State.putRen_out (x : Ren) : (s.putRen x).out = s.out := rfl
@[simp] theorem State.putRen_free (x : Ren) : (s.putRen x).free = s.free := rfl
@[simp] theorem State.putRen_pending (x : Ren) : (s.putRen x).pending = s.pending := rfl

@[simp] theorem State.count_dict : (s.count).dict = s.dict := rfl
@[simp] theorem State.count_log : (s.count).log = s.log := rfl
@[simp] theorem State.count_sites : (s.count).sites = s.sites := rfl
@[simp] theorem State.count_net : (s.count).net = s.net := rfl
@[simp] theorem State.count_drawers : (s.count).drawers = s.drawers := rfl
@[simp] theorem State.count_bays : (s.count).bays = s.bays := rfl
@[simp] theorem State.count_service : (s.count).service = s.service := rfl
@[simp] theorem State.count_insts : (s.count).insts = s.insts := rfl
@[simp] theorem State.count_mxc : (s.count).mxc = s.mxc := rfl
@[simp] theorem State.count_fnc : (s.count).fnc = s.fnc := rfl
@[simp] theorem State.count_src : (s.count).src = s.src := rfl
@[simp] theorem State.count_claims : (s.count).claims = s.claims := rfl
@[simp] theorem State.count_xfers : (s.count).xfers = s.xfers := rfl
@[simp] theorem State.count_bufs : (s.count).bufs = s.bufs := rfl
@[simp] theorem State.count_sram : (s.count).sram = s.sram := rfl
@[simp] theorem State.count_tallies : (s.count).tallies = s.tallies := rfl
@[simp] theorem State.count_arb : (s.count).arb = s.arb := rfl
@[simp] theorem State.count_mem : (s.count).mem = s.mem := rfl
@[simp] theorem State.count_tier : (s.count).tier = s.tier := rfl
@[simp] theorem State.count_code : (s.count).code = s.code := rfl
@[simp] theorem State.count_jig : (s.count).jig = s.jig := rfl
@[simp] theorem State.count_host : (s.count).host = s.host := rfl
@[simp] theorem State.count_trust : (s.count).trust = s.trust := rfl
@[simp] theorem State.count_ren : (s.count).ren = s.ren := rfl
@[simp] theorem State.count_link : (s.count).link = s.link := rfl
@[simp] theorem State.count_wgt : (s.count).wgt = s.wgt := rfl
@[simp] theorem State.count_srv : (s.count).srv = s.srv := rfl
@[simp] theorem State.count_pwr : (s.count).pwr = s.pwr := rfl
@[simp] theorem State.count_mgmt : (s.count).mgmt = s.mgmt := rfl
@[simp] theorem State.count_out : (s.count).out = s.out := rfl
@[simp] theorem State.count_free : (s.count).free = s.free := rfl
@[simp] theorem State.count_pending : (s.count).pending = s.pending := rfl

@[simp] theorem State.putLeaf_clk (k : Nat) (x : Leaf) : (s.putLeaf k x).clk = s.clk := rfl
@[simp] theorem State.putLeaf_dict (k : Nat) (x : Leaf) : (s.putLeaf k x).dict = s.dict := rfl
@[simp] theorem State.putLeaf_log (k : Nat) (x : Leaf) : (s.putLeaf k x).log = s.log := rfl
@[simp] theorem State.putLeaf_sites (k : Nat) (x : Leaf) : (s.putLeaf k x).sites = s.sites := rfl
@[simp] theorem State.putLeaf_net (k : Nat) (x : Leaf) : (s.putLeaf k x).net = s.net := rfl
@[simp] theorem State.putLeaf_drawers (k : Nat) (x : Leaf) : (s.putLeaf k x).drawers = s.drawers := rfl
@[simp] theorem State.putLeaf_bays (k : Nat) (x : Leaf) : (s.putLeaf k x).bays = s.bays := rfl
@[simp] theorem State.putLeaf_service (k : Nat) (x : Leaf) : (s.putLeaf k x).service = s.service := rfl
@[simp] theorem State.putLeaf_insts (k : Nat) (x : Leaf) : (s.putLeaf k x).insts = s.insts := rfl
@[simp] theorem State.putLeaf_mxc (k : Nat) (x : Leaf) : (s.putLeaf k x).mxc = s.mxc := rfl
@[simp] theorem State.putLeaf_fnc (k : Nat) (x : Leaf) : (s.putLeaf k x).fnc = s.fnc := rfl
@[simp] theorem State.putLeaf_src (k : Nat) (x : Leaf) : (s.putLeaf k x).src = s.src := rfl
@[simp] theorem State.putLeaf_claims (k : Nat) (x : Leaf) : (s.putLeaf k x).claims = s.claims := rfl
@[simp] theorem State.putLeaf_xfers (k : Nat) (x : Leaf) : (s.putLeaf k x).xfers = s.xfers := rfl
@[simp] theorem State.putLeaf_bufs (k : Nat) (x : Leaf) : (s.putLeaf k x).bufs = s.bufs := rfl
@[simp] theorem State.putLeaf_sram (k : Nat) (x : Leaf) : (s.putLeaf k x).sram = s.sram := rfl
@[simp] theorem State.putLeaf_tallies (k : Nat) (x : Leaf) : (s.putLeaf k x).tallies = s.tallies := rfl
@[simp] theorem State.putLeaf_arb (k : Nat) (x : Leaf) : (s.putLeaf k x).arb = s.arb := rfl
@[simp] theorem State.putLeaf_mem (k : Nat) (x : Leaf) : (s.putLeaf k x).mem = s.mem := rfl
@[simp] theorem State.putLeaf_code (k : Nat) (x : Leaf) : (s.putLeaf k x).code = s.code := rfl
@[simp] theorem State.putLeaf_jig (k : Nat) (x : Leaf) : (s.putLeaf k x).jig = s.jig := rfl
@[simp] theorem State.putLeaf_host (k : Nat) (x : Leaf) : (s.putLeaf k x).host = s.host := rfl
@[simp] theorem State.putLeaf_trust (k : Nat) (x : Leaf) : (s.putLeaf k x).trust = s.trust := rfl
@[simp] theorem State.putLeaf_ren (k : Nat) (x : Leaf) : (s.putLeaf k x).ren = s.ren := rfl
@[simp] theorem State.putLeaf_link (k : Nat) (x : Leaf) : (s.putLeaf k x).link = s.link := rfl
@[simp] theorem State.putLeaf_wgt (k : Nat) (x : Leaf) : (s.putLeaf k x).wgt = s.wgt := rfl
@[simp] theorem State.putLeaf_srv (k : Nat) (x : Leaf) : (s.putLeaf k x).srv = s.srv := rfl
@[simp] theorem State.putLeaf_pwr (k : Nat) (x : Leaf) : (s.putLeaf k x).pwr = s.pwr := rfl
@[simp] theorem State.putLeaf_mgmt (k : Nat) (x : Leaf) : (s.putLeaf k x).mgmt = s.mgmt := rfl
@[simp] theorem State.putLeaf_out (k : Nat) (x : Leaf) : (s.putLeaf k x).out = s.out := rfl
@[simp] theorem State.putLeaf_free (k : Nat) (x : Leaf) : (s.putLeaf k x).free = s.free := rfl
@[simp] theorem State.putLeaf_pending (k : Nat) (x : Leaf) : (s.putLeaf k x).pending = s.pending := rfl

@[simp] theorem State.putObject_clk (k : Nat) (x : Obj) : (s.putObject k x).clk = s.clk := rfl
@[simp] theorem State.putObject_dict (k : Nat) (x : Obj) : (s.putObject k x).dict = s.dict := rfl
@[simp] theorem State.putObject_log (k : Nat) (x : Obj) : (s.putObject k x).log = s.log := rfl
@[simp] theorem State.putObject_sites (k : Nat) (x : Obj) : (s.putObject k x).sites = s.sites := rfl
@[simp] theorem State.putObject_net (k : Nat) (x : Obj) : (s.putObject k x).net = s.net := rfl
@[simp] theorem State.putObject_drawers (k : Nat) (x : Obj) : (s.putObject k x).drawers = s.drawers := rfl
@[simp] theorem State.putObject_bays (k : Nat) (x : Obj) : (s.putObject k x).bays = s.bays := rfl
@[simp] theorem State.putObject_service (k : Nat) (x : Obj) : (s.putObject k x).service = s.service := rfl
@[simp] theorem State.putObject_insts (k : Nat) (x : Obj) : (s.putObject k x).insts = s.insts := rfl
@[simp] theorem State.putObject_mxc (k : Nat) (x : Obj) : (s.putObject k x).mxc = s.mxc := rfl
@[simp] theorem State.putObject_fnc (k : Nat) (x : Obj) : (s.putObject k x).fnc = s.fnc := rfl
@[simp] theorem State.putObject_src (k : Nat) (x : Obj) : (s.putObject k x).src = s.src := rfl
@[simp] theorem State.putObject_claims (k : Nat) (x : Obj) : (s.putObject k x).claims = s.claims := rfl
@[simp] theorem State.putObject_xfers (k : Nat) (x : Obj) : (s.putObject k x).xfers = s.xfers := rfl
@[simp] theorem State.putObject_bufs (k : Nat) (x : Obj) : (s.putObject k x).bufs = s.bufs := rfl
@[simp] theorem State.putObject_sram (k : Nat) (x : Obj) : (s.putObject k x).sram = s.sram := rfl
@[simp] theorem State.putObject_tallies (k : Nat) (x : Obj) : (s.putObject k x).tallies = s.tallies := rfl
@[simp] theorem State.putObject_arb (k : Nat) (x : Obj) : (s.putObject k x).arb = s.arb := rfl
@[simp] theorem State.putObject_mem (k : Nat) (x : Obj) : (s.putObject k x).mem = s.mem := rfl
@[simp] theorem State.putObject_code (k : Nat) (x : Obj) : (s.putObject k x).code = s.code := rfl
@[simp] theorem State.putObject_jig (k : Nat) (x : Obj) : (s.putObject k x).jig = s.jig := rfl
@[simp] theorem State.putObject_host (k : Nat) (x : Obj) : (s.putObject k x).host = s.host := rfl
@[simp] theorem State.putObject_trust (k : Nat) (x : Obj) : (s.putObject k x).trust = s.trust := rfl
@[simp] theorem State.putObject_ren (k : Nat) (x : Obj) : (s.putObject k x).ren = s.ren := rfl
@[simp] theorem State.putObject_link (k : Nat) (x : Obj) : (s.putObject k x).link = s.link := rfl
@[simp] theorem State.putObject_wgt (k : Nat) (x : Obj) : (s.putObject k x).wgt = s.wgt := rfl
@[simp] theorem State.putObject_srv (k : Nat) (x : Obj) : (s.putObject k x).srv = s.srv := rfl
@[simp] theorem State.putObject_pwr (k : Nat) (x : Obj) : (s.putObject k x).pwr = s.pwr := rfl
@[simp] theorem State.putObject_mgmt (k : Nat) (x : Obj) : (s.putObject k x).mgmt = s.mgmt := rfl
@[simp] theorem State.putObject_out (k : Nat) (x : Obj) : (s.putObject k x).out = s.out := rfl
@[simp] theorem State.putObject_free (k : Nat) (x : Obj) : (s.putObject k x).free = s.free := rfl
@[simp] theorem State.putObject_pending (k : Nat) (x : Obj) : (s.putObject k x).pending = s.pending := rfl

@[simp] theorem State.putAcc_clk (k : Nat) (f : Acc → Acc) : (s.putAcc k f).clk = s.clk := rfl
@[simp] theorem State.putAcc_dict (k : Nat) (f : Acc → Acc) : (s.putAcc k f).dict = s.dict := rfl
@[simp] theorem State.putAcc_log (k : Nat) (f : Acc → Acc) : (s.putAcc k f).log = s.log := rfl
@[simp] theorem State.putAcc_sites (k : Nat) (f : Acc → Acc) : (s.putAcc k f).sites = s.sites := rfl
@[simp] theorem State.putAcc_net (k : Nat) (f : Acc → Acc) : (s.putAcc k f).net = s.net := rfl
@[simp] theorem State.putAcc_drawers (k : Nat) (f : Acc → Acc) : (s.putAcc k f).drawers = s.drawers := rfl
@[simp] theorem State.putAcc_bays (k : Nat) (f : Acc → Acc) : (s.putAcc k f).bays = s.bays := rfl
@[simp] theorem State.putAcc_service (k : Nat) (f : Acc → Acc) : (s.putAcc k f).service = s.service := rfl
@[simp] theorem State.putAcc_insts (k : Nat) (f : Acc → Acc) : (s.putAcc k f).insts = s.insts := rfl
@[simp] theorem State.putAcc_mxc (k : Nat) (f : Acc → Acc) : (s.putAcc k f).mxc = s.mxc := rfl
@[simp] theorem State.putAcc_fnc (k : Nat) (f : Acc → Acc) : (s.putAcc k f).fnc = s.fnc := rfl
@[simp] theorem State.putAcc_src (k : Nat) (f : Acc → Acc) : (s.putAcc k f).src = s.src := rfl
@[simp] theorem State.putAcc_claims (k : Nat) (f : Acc → Acc) : (s.putAcc k f).claims = s.claims := rfl
@[simp] theorem State.putAcc_xfers (k : Nat) (f : Acc → Acc) : (s.putAcc k f).xfers = s.xfers := rfl
@[simp] theorem State.putAcc_bufs (k : Nat) (f : Acc → Acc) : (s.putAcc k f).bufs = s.bufs := rfl
@[simp] theorem State.putAcc_sram (k : Nat) (f : Acc → Acc) : (s.putAcc k f).sram = s.sram := rfl
@[simp] theorem State.putAcc_tallies (k : Nat) (f : Acc → Acc) : (s.putAcc k f).tallies = s.tallies := rfl
@[simp] theorem State.putAcc_arb (k : Nat) (f : Acc → Acc) : (s.putAcc k f).arb = s.arb := rfl
@[simp] theorem State.putAcc_mem (k : Nat) (f : Acc → Acc) : (s.putAcc k f).mem = s.mem := rfl
@[simp] theorem State.putAcc_code (k : Nat) (f : Acc → Acc) : (s.putAcc k f).code = s.code := rfl
@[simp] theorem State.putAcc_jig (k : Nat) (f : Acc → Acc) : (s.putAcc k f).jig = s.jig := rfl
@[simp] theorem State.putAcc_host (k : Nat) (f : Acc → Acc) : (s.putAcc k f).host = s.host := rfl
@[simp] theorem State.putAcc_trust (k : Nat) (f : Acc → Acc) : (s.putAcc k f).trust = s.trust := rfl
@[simp] theorem State.putAcc_ren (k : Nat) (f : Acc → Acc) : (s.putAcc k f).ren = s.ren := rfl
@[simp] theorem State.putAcc_link (k : Nat) (f : Acc → Acc) : (s.putAcc k f).link = s.link := rfl
@[simp] theorem State.putAcc_wgt (k : Nat) (f : Acc → Acc) : (s.putAcc k f).wgt = s.wgt := rfl
@[simp] theorem State.putAcc_srv (k : Nat) (f : Acc → Acc) : (s.putAcc k f).srv = s.srv := rfl
@[simp] theorem State.putAcc_pwr (k : Nat) (f : Acc → Acc) : (s.putAcc k f).pwr = s.pwr := rfl
@[simp] theorem State.putAcc_mgmt (k : Nat) (f : Acc → Acc) : (s.putAcc k f).mgmt = s.mgmt := rfl
@[simp] theorem State.putAcc_out (k : Nat) (f : Acc → Acc) : (s.putAcc k f).out = s.out := rfl
@[simp] theorem State.putAcc_free (k : Nat) (f : Acc → Acc) : (s.putAcc k f).free = s.free := rfl
@[simp] theorem State.putAcc_pending (k : Nat) (f : Acc → Acc) : (s.putAcc k f).pending = s.pending := rfl

@[simp] theorem State.putDom_clk (d : Nat) (x : Domain) : (s.putDom d x).clk = s.clk := rfl
@[simp] theorem State.putDom_dict (d : Nat) (x : Domain) : (s.putDom d x).dict = s.dict := rfl
@[simp] theorem State.putDom_log (d : Nat) (x : Domain) : (s.putDom d x).log = s.log := rfl
@[simp] theorem State.putDom_sites (d : Nat) (x : Domain) : (s.putDom d x).sites = s.sites := rfl
@[simp] theorem State.putDom_net (d : Nat) (x : Domain) : (s.putDom d x).net = s.net := rfl
@[simp] theorem State.putDom_drawers (d : Nat) (x : Domain) : (s.putDom d x).drawers = s.drawers := rfl
@[simp] theorem State.putDom_bays (d : Nat) (x : Domain) : (s.putDom d x).bays = s.bays := rfl
@[simp] theorem State.putDom_service (d : Nat) (x : Domain) : (s.putDom d x).service = s.service := rfl
@[simp] theorem State.putDom_insts (d : Nat) (x : Domain) : (s.putDom d x).insts = s.insts := rfl
@[simp] theorem State.putDom_mxc (d : Nat) (x : Domain) : (s.putDom d x).mxc = s.mxc := rfl
@[simp] theorem State.putDom_fnc (d : Nat) (x : Domain) : (s.putDom d x).fnc = s.fnc := rfl
@[simp] theorem State.putDom_src (d : Nat) (x : Domain) : (s.putDom d x).src = s.src := rfl
@[simp] theorem State.putDom_claims (d : Nat) (x : Domain) : (s.putDom d x).claims = s.claims := rfl
@[simp] theorem State.putDom_xfers (d : Nat) (x : Domain) : (s.putDom d x).xfers = s.xfers := rfl
@[simp] theorem State.putDom_bufs (d : Nat) (x : Domain) : (s.putDom d x).bufs = s.bufs := rfl
@[simp] theorem State.putDom_sram (d : Nat) (x : Domain) : (s.putDom d x).sram = s.sram := rfl
@[simp] theorem State.putDom_tallies (d : Nat) (x : Domain) : (s.putDom d x).tallies = s.tallies := rfl
@[simp] theorem State.putDom_arb (d : Nat) (x : Domain) : (s.putDom d x).arb = s.arb := rfl
@[simp] theorem State.putDom_mem (d : Nat) (x : Domain) : (s.putDom d x).mem = s.mem := rfl
@[simp] theorem State.putDom_tier (d : Nat) (x : Domain) : (s.putDom d x).tier = s.tier := rfl
@[simp] theorem State.putDom_code (d : Nat) (x : Domain) : (s.putDom d x).code = s.code := rfl
@[simp] theorem State.putDom_jig (d : Nat) (x : Domain) : (s.putDom d x).jig = s.jig := rfl
@[simp] theorem State.putDom_host (d : Nat) (x : Domain) : (s.putDom d x).host = s.host := rfl
@[simp] theorem State.putDom_trust (d : Nat) (x : Domain) : (s.putDom d x).trust = s.trust := rfl
@[simp] theorem State.putDom_ren (d : Nat) (x : Domain) : (s.putDom d x).ren = s.ren := rfl
@[simp] theorem State.putDom_link (d : Nat) (x : Domain) : (s.putDom d x).link = s.link := rfl
@[simp] theorem State.putDom_wgt (d : Nat) (x : Domain) : (s.putDom d x).wgt = s.wgt := rfl
@[simp] theorem State.putDom_srv (d : Nat) (x : Domain) : (s.putDom d x).srv = s.srv := rfl
@[simp] theorem State.putDom_mgmt (d : Nat) (x : Domain) : (s.putDom d x).mgmt = s.mgmt := rfl
@[simp] theorem State.putDom_out (d : Nat) (x : Domain) : (s.putDom d x).out = s.out := rfl
@[simp] theorem State.putDom_free (d : Nat) (x : Domain) : (s.putDom d x).free = s.free := rfl
@[simp] theorem State.putDom_pending (d : Nat) (x : Domain) : (s.putDom d x).pending = s.pending := rfl

@[simp] theorem State.putPwr_clk (x : Pwr) : (s.putPwr x).clk = s.clk := rfl
@[simp] theorem State.putPwr_dict (x : Pwr) : (s.putPwr x).dict = s.dict := rfl
@[simp] theorem State.putPwr_log (x : Pwr) : (s.putPwr x).log = s.log := rfl
@[simp] theorem State.putPwr_sites (x : Pwr) : (s.putPwr x).sites = s.sites := rfl
@[simp] theorem State.putPwr_net (x : Pwr) : (s.putPwr x).net = s.net := rfl
@[simp] theorem State.putPwr_drawers (x : Pwr) : (s.putPwr x).drawers = s.drawers := rfl
@[simp] theorem State.putPwr_bays (x : Pwr) : (s.putPwr x).bays = s.bays := rfl
@[simp] theorem State.putPwr_service (x : Pwr) : (s.putPwr x).service = s.service := rfl
@[simp] theorem State.putPwr_insts (x : Pwr) : (s.putPwr x).insts = s.insts := rfl
@[simp] theorem State.putPwr_mxc (x : Pwr) : (s.putPwr x).mxc = s.mxc := rfl
@[simp] theorem State.putPwr_fnc (x : Pwr) : (s.putPwr x).fnc = s.fnc := rfl
@[simp] theorem State.putPwr_src (x : Pwr) : (s.putPwr x).src = s.src := rfl
@[simp] theorem State.putPwr_claims (x : Pwr) : (s.putPwr x).claims = s.claims := rfl
@[simp] theorem State.putPwr_xfers (x : Pwr) : (s.putPwr x).xfers = s.xfers := rfl
@[simp] theorem State.putPwr_bufs (x : Pwr) : (s.putPwr x).bufs = s.bufs := rfl
@[simp] theorem State.putPwr_sram (x : Pwr) : (s.putPwr x).sram = s.sram := rfl
@[simp] theorem State.putPwr_tallies (x : Pwr) : (s.putPwr x).tallies = s.tallies := rfl
@[simp] theorem State.putPwr_arb (x : Pwr) : (s.putPwr x).arb = s.arb := rfl
@[simp] theorem State.putPwr_mem (x : Pwr) : (s.putPwr x).mem = s.mem := rfl
@[simp] theorem State.putPwr_tier (x : Pwr) : (s.putPwr x).tier = s.tier := rfl
@[simp] theorem State.putPwr_code (x : Pwr) : (s.putPwr x).code = s.code := rfl
@[simp] theorem State.putPwr_jig (x : Pwr) : (s.putPwr x).jig = s.jig := rfl
@[simp] theorem State.putPwr_host (x : Pwr) : (s.putPwr x).host = s.host := rfl
@[simp] theorem State.putPwr_trust (x : Pwr) : (s.putPwr x).trust = s.trust := rfl
@[simp] theorem State.putPwr_ren (x : Pwr) : (s.putPwr x).ren = s.ren := rfl
@[simp] theorem State.putPwr_link (x : Pwr) : (s.putPwr x).link = s.link := rfl
@[simp] theorem State.putPwr_wgt (x : Pwr) : (s.putPwr x).wgt = s.wgt := rfl
@[simp] theorem State.putPwr_srv (x : Pwr) : (s.putPwr x).srv = s.srv := rfl
@[simp] theorem State.putPwr_mgmt (x : Pwr) : (s.putPwr x).mgmt = s.mgmt := rfl
@[simp] theorem State.putPwr_out (x : Pwr) : (s.putPwr x).out = s.out := rfl
@[simp] theorem State.putPwr_free (x : Pwr) : (s.putPwr x).free = s.free := rfl
@[simp] theorem State.putPwr_pending (x : Pwr) : (s.putPwr x).pending = s.pending := rfl

@[simp] theorem State.useTier_clk (t : Nat) : (s.useTier t).clk = s.clk := rfl
@[simp] theorem State.useTier_dict (t : Nat) : (s.useTier t).dict = s.dict := rfl
@[simp] theorem State.useTier_log (t : Nat) : (s.useTier t).log = s.log := rfl
@[simp] theorem State.useTier_sites (t : Nat) : (s.useTier t).sites = s.sites := rfl
@[simp] theorem State.useTier_net (t : Nat) : (s.useTier t).net = s.net := rfl
@[simp] theorem State.useTier_drawers (t : Nat) : (s.useTier t).drawers = s.drawers := rfl
@[simp] theorem State.useTier_bays (t : Nat) : (s.useTier t).bays = s.bays := rfl
@[simp] theorem State.useTier_service (t : Nat) : (s.useTier t).service = s.service := rfl
@[simp] theorem State.useTier_insts (t : Nat) : (s.useTier t).insts = s.insts := rfl
@[simp] theorem State.useTier_mxc (t : Nat) : (s.useTier t).mxc = s.mxc := rfl
@[simp] theorem State.useTier_fnc (t : Nat) : (s.useTier t).fnc = s.fnc := rfl
@[simp] theorem State.useTier_src (t : Nat) : (s.useTier t).src = s.src := rfl
@[simp] theorem State.useTier_claims (t : Nat) : (s.useTier t).claims = s.claims := rfl
@[simp] theorem State.useTier_xfers (t : Nat) : (s.useTier t).xfers = s.xfers := rfl
@[simp] theorem State.useTier_bufs (t : Nat) : (s.useTier t).bufs = s.bufs := rfl
@[simp] theorem State.useTier_sram (t : Nat) : (s.useTier t).sram = s.sram := rfl
@[simp] theorem State.useTier_tallies (t : Nat) : (s.useTier t).tallies = s.tallies := rfl
@[simp] theorem State.useTier_arb (t : Nat) : (s.useTier t).arb = s.arb := rfl
@[simp] theorem State.useTier_mem (t : Nat) : (s.useTier t).mem = s.mem := rfl
@[simp] theorem State.useTier_tier (t : Nat) : (s.useTier t).tier = s.tier := rfl
@[simp] theorem State.useTier_code (t : Nat) : (s.useTier t).code = s.code := rfl
@[simp] theorem State.useTier_jig (t : Nat) : (s.useTier t).jig = s.jig := rfl
@[simp] theorem State.useTier_host (t : Nat) : (s.useTier t).host = s.host := rfl
@[simp] theorem State.useTier_trust (t : Nat) : (s.useTier t).trust = s.trust := rfl
@[simp] theorem State.useTier_ren (t : Nat) : (s.useTier t).ren = s.ren := rfl
@[simp] theorem State.useTier_link (t : Nat) : (s.useTier t).link = s.link := rfl
@[simp] theorem State.useTier_wgt (t : Nat) : (s.useTier t).wgt = s.wgt := rfl
@[simp] theorem State.useTier_srv (t : Nat) : (s.useTier t).srv = s.srv := rfl
@[simp] theorem State.useTier_mgmt (t : Nat) : (s.useTier t).mgmt = s.mgmt := rfl
@[simp] theorem State.useTier_out (t : Nat) : (s.useTier t).out = s.out := rfl
@[simp] theorem State.useTier_free (t : Nat) : (s.useTier t).free = s.free := rfl
@[simp] theorem State.useTier_pending (t : Nat) : (s.useTier t).pending = s.pending := rfl

@[simp] theorem State.putSite_clk (b site : Nat) (x : Site) : (s.putSite b site x).clk = s.clk := rfl
@[simp] theorem State.putSite_dict (b site : Nat) (x : Site) : (s.putSite b site x).dict = s.dict := rfl
@[simp] theorem State.putSite_log (b site : Nat) (x : Site) : (s.putSite b site x).log = s.log := rfl
@[simp] theorem State.putSite_net (b site : Nat) (x : Site) : (s.putSite b site x).net = s.net := rfl
@[simp] theorem State.putSite_drawers (b site : Nat) (x : Site) : (s.putSite b site x).drawers = s.drawers := rfl
@[simp] theorem State.putSite_bays (b site : Nat) (x : Site) : (s.putSite b site x).bays = s.bays := rfl
@[simp] theorem State.putSite_service (b site : Nat) (x : Site) : (s.putSite b site x).service = s.service := rfl
@[simp] theorem State.putSite_insts (b site : Nat) (x : Site) : (s.putSite b site x).insts = s.insts := rfl
@[simp] theorem State.putSite_mxc (b site : Nat) (x : Site) : (s.putSite b site x).mxc = s.mxc := rfl
@[simp] theorem State.putSite_fnc (b site : Nat) (x : Site) : (s.putSite b site x).fnc = s.fnc := rfl
@[simp] theorem State.putSite_src (b site : Nat) (x : Site) : (s.putSite b site x).src = s.src := rfl
@[simp] theorem State.putSite_claims (b site : Nat) (x : Site) : (s.putSite b site x).claims = s.claims := rfl
@[simp] theorem State.putSite_xfers (b site : Nat) (x : Site) : (s.putSite b site x).xfers = s.xfers := rfl
@[simp] theorem State.putSite_bufs (b site : Nat) (x : Site) : (s.putSite b site x).bufs = s.bufs := rfl
@[simp] theorem State.putSite_sram (b site : Nat) (x : Site) : (s.putSite b site x).sram = s.sram := rfl
@[simp] theorem State.putSite_tallies (b site : Nat) (x : Site) : (s.putSite b site x).tallies = s.tallies := rfl
@[simp] theorem State.putSite_arb (b site : Nat) (x : Site) : (s.putSite b site x).arb = s.arb := rfl
@[simp] theorem State.putSite_mem (b site : Nat) (x : Site) : (s.putSite b site x).mem = s.mem := rfl
@[simp] theorem State.putSite_tier (b site : Nat) (x : Site) : (s.putSite b site x).tier = s.tier := rfl
@[simp] theorem State.putSite_code (b site : Nat) (x : Site) : (s.putSite b site x).code = s.code := rfl
@[simp] theorem State.putSite_jig (b site : Nat) (x : Site) : (s.putSite b site x).jig = s.jig := rfl
@[simp] theorem State.putSite_host (b site : Nat) (x : Site) : (s.putSite b site x).host = s.host := rfl
@[simp] theorem State.putSite_trust (b site : Nat) (x : Site) : (s.putSite b site x).trust = s.trust := rfl
@[simp] theorem State.putSite_ren (b site : Nat) (x : Site) : (s.putSite b site x).ren = s.ren := rfl
@[simp] theorem State.putSite_link (b site : Nat) (x : Site) : (s.putSite b site x).link = s.link := rfl
@[simp] theorem State.putSite_wgt (b site : Nat) (x : Site) : (s.putSite b site x).wgt = s.wgt := rfl
@[simp] theorem State.putSite_srv (b site : Nat) (x : Site) : (s.putSite b site x).srv = s.srv := rfl
@[simp] theorem State.putSite_pwr (b site : Nat) (x : Site) : (s.putSite b site x).pwr = s.pwr := rfl
@[simp] theorem State.putSite_mgmt (b site : Nat) (x : Site) : (s.putSite b site x).mgmt = s.mgmt := rfl
@[simp] theorem State.putSite_out (b site : Nat) (x : Site) : (s.putSite b site x).out = s.out := rfl
@[simp] theorem State.putSite_free (b site : Nat) (x : Site) : (s.putSite b site x).free = s.free := rfl
@[simp] theorem State.putSite_pending (b site : Nat) (x : Site) : (s.putSite b site x).pending = s.pending := rfl

@[simp] theorem State.putDrawer_clk (b d : Nat) (x : Drawer) : (s.putDrawer b d x).clk = s.clk := rfl
@[simp] theorem State.putDrawer_dict (b d : Nat) (x : Drawer) : (s.putDrawer b d x).dict = s.dict := rfl
@[simp] theorem State.putDrawer_log (b d : Nat) (x : Drawer) : (s.putDrawer b d x).log = s.log := rfl
@[simp] theorem State.putDrawer_sites (b d : Nat) (x : Drawer) : (s.putDrawer b d x).sites = s.sites := rfl
@[simp] theorem State.putDrawer_net (b d : Nat) (x : Drawer) : (s.putDrawer b d x).net = s.net := rfl
@[simp] theorem State.putDrawer_bays (b d : Nat) (x : Drawer) : (s.putDrawer b d x).bays = s.bays := rfl
@[simp] theorem State.putDrawer_service (b d : Nat) (x : Drawer) : (s.putDrawer b d x).service = s.service := rfl
@[simp] theorem State.putDrawer_insts (b d : Nat) (x : Drawer) : (s.putDrawer b d x).insts = s.insts := rfl
@[simp] theorem State.putDrawer_mxc (b d : Nat) (x : Drawer) : (s.putDrawer b d x).mxc = s.mxc := rfl
@[simp] theorem State.putDrawer_fnc (b d : Nat) (x : Drawer) : (s.putDrawer b d x).fnc = s.fnc := rfl
@[simp] theorem State.putDrawer_src (b d : Nat) (x : Drawer) : (s.putDrawer b d x).src = s.src := rfl
@[simp] theorem State.putDrawer_claims (b d : Nat) (x : Drawer) : (s.putDrawer b d x).claims = s.claims := rfl
@[simp] theorem State.putDrawer_xfers (b d : Nat) (x : Drawer) : (s.putDrawer b d x).xfers = s.xfers := rfl
@[simp] theorem State.putDrawer_bufs (b d : Nat) (x : Drawer) : (s.putDrawer b d x).bufs = s.bufs := rfl
@[simp] theorem State.putDrawer_sram (b d : Nat) (x : Drawer) : (s.putDrawer b d x).sram = s.sram := rfl
@[simp] theorem State.putDrawer_tallies (b d : Nat) (x : Drawer) : (s.putDrawer b d x).tallies = s.tallies := rfl
@[simp] theorem State.putDrawer_arb (b d : Nat) (x : Drawer) : (s.putDrawer b d x).arb = s.arb := rfl
@[simp] theorem State.putDrawer_mem (b d : Nat) (x : Drawer) : (s.putDrawer b d x).mem = s.mem := rfl
@[simp] theorem State.putDrawer_tier (b d : Nat) (x : Drawer) : (s.putDrawer b d x).tier = s.tier := rfl
@[simp] theorem State.putDrawer_code (b d : Nat) (x : Drawer) : (s.putDrawer b d x).code = s.code := rfl
@[simp] theorem State.putDrawer_jig (b d : Nat) (x : Drawer) : (s.putDrawer b d x).jig = s.jig := rfl
@[simp] theorem State.putDrawer_host (b d : Nat) (x : Drawer) : (s.putDrawer b d x).host = s.host := rfl
@[simp] theorem State.putDrawer_trust (b d : Nat) (x : Drawer) : (s.putDrawer b d x).trust = s.trust := rfl
@[simp] theorem State.putDrawer_ren (b d : Nat) (x : Drawer) : (s.putDrawer b d x).ren = s.ren := rfl
@[simp] theorem State.putDrawer_link (b d : Nat) (x : Drawer) : (s.putDrawer b d x).link = s.link := rfl
@[simp] theorem State.putDrawer_wgt (b d : Nat) (x : Drawer) : (s.putDrawer b d x).wgt = s.wgt := rfl
@[simp] theorem State.putDrawer_srv (b d : Nat) (x : Drawer) : (s.putDrawer b d x).srv = s.srv := rfl
@[simp] theorem State.putDrawer_pwr (b d : Nat) (x : Drawer) : (s.putDrawer b d x).pwr = s.pwr := rfl
@[simp] theorem State.putDrawer_mgmt (b d : Nat) (x : Drawer) : (s.putDrawer b d x).mgmt = s.mgmt := rfl
@[simp] theorem State.putDrawer_out (b d : Nat) (x : Drawer) : (s.putDrawer b d x).out = s.out := rfl
@[simp] theorem State.putDrawer_free (b d : Nat) (x : Drawer) : (s.putDrawer b d x).free = s.free := rfl
@[simp] theorem State.putDrawer_pending (b d : Nat) (x : Drawer) : (s.putDrawer b d x).pending = s.pending := rfl

@[simp] theorem State.putBay_clk (b : Nat) (x : Bay) : (s.putBay b x).clk = s.clk := rfl
@[simp] theorem State.putBay_dict (b : Nat) (x : Bay) : (s.putBay b x).dict = s.dict := rfl
@[simp] theorem State.putBay_log (b : Nat) (x : Bay) : (s.putBay b x).log = s.log := rfl
@[simp] theorem State.putBay_sites (b : Nat) (x : Bay) : (s.putBay b x).sites = s.sites := rfl
@[simp] theorem State.putBay_net (b : Nat) (x : Bay) : (s.putBay b x).net = s.net := rfl
@[simp] theorem State.putBay_drawers (b : Nat) (x : Bay) : (s.putBay b x).drawers = s.drawers := rfl
@[simp] theorem State.putBay_service (b : Nat) (x : Bay) : (s.putBay b x).service = s.service := rfl
@[simp] theorem State.putBay_insts (b : Nat) (x : Bay) : (s.putBay b x).insts = s.insts := rfl
@[simp] theorem State.putBay_mxc (b : Nat) (x : Bay) : (s.putBay b x).mxc = s.mxc := rfl
@[simp] theorem State.putBay_fnc (b : Nat) (x : Bay) : (s.putBay b x).fnc = s.fnc := rfl
@[simp] theorem State.putBay_src (b : Nat) (x : Bay) : (s.putBay b x).src = s.src := rfl
@[simp] theorem State.putBay_claims (b : Nat) (x : Bay) : (s.putBay b x).claims = s.claims := rfl
@[simp] theorem State.putBay_xfers (b : Nat) (x : Bay) : (s.putBay b x).xfers = s.xfers := rfl
@[simp] theorem State.putBay_bufs (b : Nat) (x : Bay) : (s.putBay b x).bufs = s.bufs := rfl
@[simp] theorem State.putBay_sram (b : Nat) (x : Bay) : (s.putBay b x).sram = s.sram := rfl
@[simp] theorem State.putBay_tallies (b : Nat) (x : Bay) : (s.putBay b x).tallies = s.tallies := rfl
@[simp] theorem State.putBay_arb (b : Nat) (x : Bay) : (s.putBay b x).arb = s.arb := rfl
@[simp] theorem State.putBay_mem (b : Nat) (x : Bay) : (s.putBay b x).mem = s.mem := rfl
@[simp] theorem State.putBay_tier (b : Nat) (x : Bay) : (s.putBay b x).tier = s.tier := rfl
@[simp] theorem State.putBay_code (b : Nat) (x : Bay) : (s.putBay b x).code = s.code := rfl
@[simp] theorem State.putBay_jig (b : Nat) (x : Bay) : (s.putBay b x).jig = s.jig := rfl
@[simp] theorem State.putBay_host (b : Nat) (x : Bay) : (s.putBay b x).host = s.host := rfl
@[simp] theorem State.putBay_trust (b : Nat) (x : Bay) : (s.putBay b x).trust = s.trust := rfl
@[simp] theorem State.putBay_ren (b : Nat) (x : Bay) : (s.putBay b x).ren = s.ren := rfl
@[simp] theorem State.putBay_link (b : Nat) (x : Bay) : (s.putBay b x).link = s.link := rfl
@[simp] theorem State.putBay_wgt (b : Nat) (x : Bay) : (s.putBay b x).wgt = s.wgt := rfl
@[simp] theorem State.putBay_srv (b : Nat) (x : Bay) : (s.putBay b x).srv = s.srv := rfl
@[simp] theorem State.putBay_pwr (b : Nat) (x : Bay) : (s.putBay b x).pwr = s.pwr := rfl
@[simp] theorem State.putBay_mgmt (b : Nat) (x : Bay) : (s.putBay b x).mgmt = s.mgmt := rfl
@[simp] theorem State.putBay_out (b : Nat) (x : Bay) : (s.putBay b x).out = s.out := rfl
@[simp] theorem State.putBay_free (b : Nat) (x : Bay) : (s.putBay b x).free = s.free := rfl
@[simp] theorem State.putBay_pending (b : Nat) (x : Bay) : (s.putBay b x).pending = s.pending := rfl

@[simp] theorem State.putTrust_clk (x : Trust) : (s.putTrust x).clk = s.clk := rfl
@[simp] theorem State.putTrust_dict (x : Trust) : (s.putTrust x).dict = s.dict := rfl
@[simp] theorem State.putTrust_log (x : Trust) : (s.putTrust x).log = s.log := rfl
@[simp] theorem State.putTrust_sites (x : Trust) : (s.putTrust x).sites = s.sites := rfl
@[simp] theorem State.putTrust_net (x : Trust) : (s.putTrust x).net = s.net := rfl
@[simp] theorem State.putTrust_drawers (x : Trust) : (s.putTrust x).drawers = s.drawers := rfl
@[simp] theorem State.putTrust_bays (x : Trust) : (s.putTrust x).bays = s.bays := rfl
@[simp] theorem State.putTrust_service (x : Trust) : (s.putTrust x).service = s.service := rfl
@[simp] theorem State.putTrust_insts (x : Trust) : (s.putTrust x).insts = s.insts := rfl
@[simp] theorem State.putTrust_mxc (x : Trust) : (s.putTrust x).mxc = s.mxc := rfl
@[simp] theorem State.putTrust_fnc (x : Trust) : (s.putTrust x).fnc = s.fnc := rfl
@[simp] theorem State.putTrust_src (x : Trust) : (s.putTrust x).src = s.src := rfl
@[simp] theorem State.putTrust_claims (x : Trust) : (s.putTrust x).claims = s.claims := rfl
@[simp] theorem State.putTrust_xfers (x : Trust) : (s.putTrust x).xfers = s.xfers := rfl
@[simp] theorem State.putTrust_bufs (x : Trust) : (s.putTrust x).bufs = s.bufs := rfl
@[simp] theorem State.putTrust_sram (x : Trust) : (s.putTrust x).sram = s.sram := rfl
@[simp] theorem State.putTrust_tallies (x : Trust) : (s.putTrust x).tallies = s.tallies := rfl
@[simp] theorem State.putTrust_arb (x : Trust) : (s.putTrust x).arb = s.arb := rfl
@[simp] theorem State.putTrust_mem (x : Trust) : (s.putTrust x).mem = s.mem := rfl
@[simp] theorem State.putTrust_tier (x : Trust) : (s.putTrust x).tier = s.tier := rfl
@[simp] theorem State.putTrust_code (x : Trust) : (s.putTrust x).code = s.code := rfl
@[simp] theorem State.putTrust_jig (x : Trust) : (s.putTrust x).jig = s.jig := rfl
@[simp] theorem State.putTrust_host (x : Trust) : (s.putTrust x).host = s.host := rfl
@[simp] theorem State.putTrust_ren (x : Trust) : (s.putTrust x).ren = s.ren := rfl
@[simp] theorem State.putTrust_link (x : Trust) : (s.putTrust x).link = s.link := rfl
@[simp] theorem State.putTrust_wgt (x : Trust) : (s.putTrust x).wgt = s.wgt := rfl
@[simp] theorem State.putTrust_srv (x : Trust) : (s.putTrust x).srv = s.srv := rfl
@[simp] theorem State.putTrust_pwr (x : Trust) : (s.putTrust x).pwr = s.pwr := rfl
@[simp] theorem State.putTrust_mgmt (x : Trust) : (s.putTrust x).mgmt = s.mgmt := rfl
@[simp] theorem State.putTrust_out (x : Trust) : (s.putTrust x).out = s.out := rfl
@[simp] theorem State.putTrust_free (x : Trust) : (s.putTrust x).free = s.free := rfl
@[simp] theorem State.putTrust_pending (x : Trust) : (s.putTrust x).pending = s.pending := rfl

@[simp] theorem State.putFx_clk (b site d : Nat) (x : Fnc) : (s.putFx b site d x).clk = s.clk := rfl
@[simp] theorem State.putFx_dict (b site d : Nat) (x : Fnc) : (s.putFx b site d x).dict = s.dict := rfl
@[simp] theorem State.putFx_log (b site d : Nat) (x : Fnc) : (s.putFx b site d x).log = s.log := rfl
@[simp] theorem State.putFx_sites (b site d : Nat) (x : Fnc) : (s.putFx b site d x).sites = s.sites := rfl
@[simp] theorem State.putFx_net (b site d : Nat) (x : Fnc) : (s.putFx b site d x).net = s.net := rfl
@[simp] theorem State.putFx_drawers (b site d : Nat) (x : Fnc) : (s.putFx b site d x).drawers = s.drawers := rfl
@[simp] theorem State.putFx_bays (b site d : Nat) (x : Fnc) : (s.putFx b site d x).bays = s.bays := rfl
@[simp] theorem State.putFx_service (b site d : Nat) (x : Fnc) : (s.putFx b site d x).service = s.service := rfl
@[simp] theorem State.putFx_insts (b site d : Nat) (x : Fnc) : (s.putFx b site d x).insts = s.insts := rfl
@[simp] theorem State.putFx_mxc (b site d : Nat) (x : Fnc) : (s.putFx b site d x).mxc = s.mxc := rfl
@[simp] theorem State.putFx_src (b site d : Nat) (x : Fnc) : (s.putFx b site d x).src = s.src := rfl
@[simp] theorem State.putFx_claims (b site d : Nat) (x : Fnc) : (s.putFx b site d x).claims = s.claims := rfl
@[simp] theorem State.putFx_xfers (b site d : Nat) (x : Fnc) : (s.putFx b site d x).xfers = s.xfers := rfl
@[simp] theorem State.putFx_bufs (b site d : Nat) (x : Fnc) : (s.putFx b site d x).bufs = s.bufs := rfl
@[simp] theorem State.putFx_sram (b site d : Nat) (x : Fnc) : (s.putFx b site d x).sram = s.sram := rfl
@[simp] theorem State.putFx_tallies (b site d : Nat) (x : Fnc) : (s.putFx b site d x).tallies = s.tallies := rfl
@[simp] theorem State.putFx_arb (b site d : Nat) (x : Fnc) : (s.putFx b site d x).arb = s.arb := rfl
@[simp] theorem State.putFx_mem (b site d : Nat) (x : Fnc) : (s.putFx b site d x).mem = s.mem := rfl
@[simp] theorem State.putFx_tier (b site d : Nat) (x : Fnc) : (s.putFx b site d x).tier = s.tier := rfl
@[simp] theorem State.putFx_code (b site d : Nat) (x : Fnc) : (s.putFx b site d x).code = s.code := rfl
@[simp] theorem State.putFx_jig (b site d : Nat) (x : Fnc) : (s.putFx b site d x).jig = s.jig := rfl
@[simp] theorem State.putFx_host (b site d : Nat) (x : Fnc) : (s.putFx b site d x).host = s.host := rfl
@[simp] theorem State.putFx_trust (b site d : Nat) (x : Fnc) : (s.putFx b site d x).trust = s.trust := rfl
@[simp] theorem State.putFx_ren (b site d : Nat) (x : Fnc) : (s.putFx b site d x).ren = s.ren := rfl
@[simp] theorem State.putFx_link (b site d : Nat) (x : Fnc) : (s.putFx b site d x).link = s.link := rfl
@[simp] theorem State.putFx_wgt (b site d : Nat) (x : Fnc) : (s.putFx b site d x).wgt = s.wgt := rfl
@[simp] theorem State.putFx_srv (b site d : Nat) (x : Fnc) : (s.putFx b site d x).srv = s.srv := rfl
@[simp] theorem State.putFx_pwr (b site d : Nat) (x : Fnc) : (s.putFx b site d x).pwr = s.pwr := rfl
@[simp] theorem State.putFx_mgmt (b site d : Nat) (x : Fnc) : (s.putFx b site d x).mgmt = s.mgmt := rfl
@[simp] theorem State.putFx_out (b site d : Nat) (x : Fnc) : (s.putFx b site d x).out = s.out := rfl
@[simp] theorem State.putFx_free (b site d : Nat) (x : Fnc) : (s.putFx b site d x).free = s.free := rfl
@[simp] theorem State.putFx_pending (b site d : Nat) (x : Fnc) : (s.putFx b site d x).pending = s.pending := rfl

@[simp] theorem State.putMx_clk (b site d : Nat) (x : Mxc) : (s.putMx b site d x).clk = s.clk := rfl
@[simp] theorem State.putMx_dict (b site d : Nat) (x : Mxc) : (s.putMx b site d x).dict = s.dict := rfl
@[simp] theorem State.putMx_log (b site d : Nat) (x : Mxc) : (s.putMx b site d x).log = s.log := rfl
@[simp] theorem State.putMx_sites (b site d : Nat) (x : Mxc) : (s.putMx b site d x).sites = s.sites := rfl
@[simp] theorem State.putMx_net (b site d : Nat) (x : Mxc) : (s.putMx b site d x).net = s.net := rfl
@[simp] theorem State.putMx_drawers (b site d : Nat) (x : Mxc) : (s.putMx b site d x).drawers = s.drawers := rfl
@[simp] theorem State.putMx_bays (b site d : Nat) (x : Mxc) : (s.putMx b site d x).bays = s.bays := rfl
@[simp] theorem State.putMx_service (b site d : Nat) (x : Mxc) : (s.putMx b site d x).service = s.service := rfl
@[simp] theorem State.putMx_insts (b site d : Nat) (x : Mxc) : (s.putMx b site d x).insts = s.insts := rfl
@[simp] theorem State.putMx_fnc (b site d : Nat) (x : Mxc) : (s.putMx b site d x).fnc = s.fnc := rfl
@[simp] theorem State.putMx_src (b site d : Nat) (x : Mxc) : (s.putMx b site d x).src = s.src := rfl
@[simp] theorem State.putMx_claims (b site d : Nat) (x : Mxc) : (s.putMx b site d x).claims = s.claims := rfl
@[simp] theorem State.putMx_xfers (b site d : Nat) (x : Mxc) : (s.putMx b site d x).xfers = s.xfers := rfl
@[simp] theorem State.putMx_bufs (b site d : Nat) (x : Mxc) : (s.putMx b site d x).bufs = s.bufs := rfl
@[simp] theorem State.putMx_sram (b site d : Nat) (x : Mxc) : (s.putMx b site d x).sram = s.sram := rfl
@[simp] theorem State.putMx_tallies (b site d : Nat) (x : Mxc) : (s.putMx b site d x).tallies = s.tallies := rfl
@[simp] theorem State.putMx_arb (b site d : Nat) (x : Mxc) : (s.putMx b site d x).arb = s.arb := rfl
@[simp] theorem State.putMx_mem (b site d : Nat) (x : Mxc) : (s.putMx b site d x).mem = s.mem := rfl
@[simp] theorem State.putMx_tier (b site d : Nat) (x : Mxc) : (s.putMx b site d x).tier = s.tier := rfl
@[simp] theorem State.putMx_code (b site d : Nat) (x : Mxc) : (s.putMx b site d x).code = s.code := rfl
@[simp] theorem State.putMx_jig (b site d : Nat) (x : Mxc) : (s.putMx b site d x).jig = s.jig := rfl
@[simp] theorem State.putMx_host (b site d : Nat) (x : Mxc) : (s.putMx b site d x).host = s.host := rfl
@[simp] theorem State.putMx_trust (b site d : Nat) (x : Mxc) : (s.putMx b site d x).trust = s.trust := rfl
@[simp] theorem State.putMx_ren (b site d : Nat) (x : Mxc) : (s.putMx b site d x).ren = s.ren := rfl
@[simp] theorem State.putMx_link (b site d : Nat) (x : Mxc) : (s.putMx b site d x).link = s.link := rfl
@[simp] theorem State.putMx_wgt (b site d : Nat) (x : Mxc) : (s.putMx b site d x).wgt = s.wgt := rfl
@[simp] theorem State.putMx_srv (b site d : Nat) (x : Mxc) : (s.putMx b site d x).srv = s.srv := rfl
@[simp] theorem State.putMx_pwr (b site d : Nat) (x : Mxc) : (s.putMx b site d x).pwr = s.pwr := rfl
@[simp] theorem State.putMx_mgmt (b site d : Nat) (x : Mxc) : (s.putMx b site d x).mgmt = s.mgmt := rfl
@[simp] theorem State.putMx_out (b site d : Nat) (x : Mxc) : (s.putMx b site d x).out = s.out := rfl
@[simp] theorem State.putMx_free (b site d : Nat) (x : Mxc) : (s.putMx b site d x).free = s.free := rfl
@[simp] theorem State.putMx_pending (b site d : Nat) (x : Mxc) : (s.putMx b site d x).pending = s.pending := rfl

@[simp] theorem State.putSrc_clk (b site d : Nat) (x : Src) : (s.putSrc b site d x).clk = s.clk := rfl
@[simp] theorem State.putSrc_dict (b site d : Nat) (x : Src) : (s.putSrc b site d x).dict = s.dict := rfl
@[simp] theorem State.putSrc_log (b site d : Nat) (x : Src) : (s.putSrc b site d x).log = s.log := rfl
@[simp] theorem State.putSrc_sites (b site d : Nat) (x : Src) : (s.putSrc b site d x).sites = s.sites := rfl
@[simp] theorem State.putSrc_net (b site d : Nat) (x : Src) : (s.putSrc b site d x).net = s.net := rfl
@[simp] theorem State.putSrc_drawers (b site d : Nat) (x : Src) : (s.putSrc b site d x).drawers = s.drawers := rfl
@[simp] theorem State.putSrc_bays (b site d : Nat) (x : Src) : (s.putSrc b site d x).bays = s.bays := rfl
@[simp] theorem State.putSrc_service (b site d : Nat) (x : Src) : (s.putSrc b site d x).service = s.service := rfl
@[simp] theorem State.putSrc_insts (b site d : Nat) (x : Src) : (s.putSrc b site d x).insts = s.insts := rfl
@[simp] theorem State.putSrc_mxc (b site d : Nat) (x : Src) : (s.putSrc b site d x).mxc = s.mxc := rfl
@[simp] theorem State.putSrc_fnc (b site d : Nat) (x : Src) : (s.putSrc b site d x).fnc = s.fnc := rfl
@[simp] theorem State.putSrc_claims (b site d : Nat) (x : Src) : (s.putSrc b site d x).claims = s.claims := rfl
@[simp] theorem State.putSrc_xfers (b site d : Nat) (x : Src) : (s.putSrc b site d x).xfers = s.xfers := rfl
@[simp] theorem State.putSrc_bufs (b site d : Nat) (x : Src) : (s.putSrc b site d x).bufs = s.bufs := rfl
@[simp] theorem State.putSrc_sram (b site d : Nat) (x : Src) : (s.putSrc b site d x).sram = s.sram := rfl
@[simp] theorem State.putSrc_tallies (b site d : Nat) (x : Src) : (s.putSrc b site d x).tallies = s.tallies := rfl
@[simp] theorem State.putSrc_arb (b site d : Nat) (x : Src) : (s.putSrc b site d x).arb = s.arb := rfl
@[simp] theorem State.putSrc_mem (b site d : Nat) (x : Src) : (s.putSrc b site d x).mem = s.mem := rfl
@[simp] theorem State.putSrc_tier (b site d : Nat) (x : Src) : (s.putSrc b site d x).tier = s.tier := rfl
@[simp] theorem State.putSrc_code (b site d : Nat) (x : Src) : (s.putSrc b site d x).code = s.code := rfl
@[simp] theorem State.putSrc_jig (b site d : Nat) (x : Src) : (s.putSrc b site d x).jig = s.jig := rfl
@[simp] theorem State.putSrc_host (b site d : Nat) (x : Src) : (s.putSrc b site d x).host = s.host := rfl
@[simp] theorem State.putSrc_trust (b site d : Nat) (x : Src) : (s.putSrc b site d x).trust = s.trust := rfl
@[simp] theorem State.putSrc_ren (b site d : Nat) (x : Src) : (s.putSrc b site d x).ren = s.ren := rfl
@[simp] theorem State.putSrc_link (b site d : Nat) (x : Src) : (s.putSrc b site d x).link = s.link := rfl
@[simp] theorem State.putSrc_wgt (b site d : Nat) (x : Src) : (s.putSrc b site d x).wgt = s.wgt := rfl
@[simp] theorem State.putSrc_srv (b site d : Nat) (x : Src) : (s.putSrc b site d x).srv = s.srv := rfl
@[simp] theorem State.putSrc_pwr (b site d : Nat) (x : Src) : (s.putSrc b site d x).pwr = s.pwr := rfl
@[simp] theorem State.putSrc_mgmt (b site d : Nat) (x : Src) : (s.putSrc b site d x).mgmt = s.mgmt := rfl
@[simp] theorem State.putSrc_out (b site d : Nat) (x : Src) : (s.putSrc b site d x).out = s.out := rfl
@[simp] theorem State.putSrc_free (b site d : Nat) (x : Src) : (s.putSrc b site d x).free = s.free := rfl
@[simp] theorem State.putSrc_pending (b site d : Nat) (x : Src) : (s.putSrc b site d x).pending = s.pending := rfl

@[simp] theorem State.putInst_clk (k : Nat) (x : Inst) : (s.putInst k x).clk = s.clk := rfl
@[simp] theorem State.putInst_dict (k : Nat) (x : Inst) : (s.putInst k x).dict = s.dict := rfl
@[simp] theorem State.putInst_log (k : Nat) (x : Inst) : (s.putInst k x).log = s.log := rfl
@[simp] theorem State.putInst_sites (k : Nat) (x : Inst) : (s.putInst k x).sites = s.sites := rfl
@[simp] theorem State.putInst_net (k : Nat) (x : Inst) : (s.putInst k x).net = s.net := rfl
@[simp] theorem State.putInst_drawers (k : Nat) (x : Inst) : (s.putInst k x).drawers = s.drawers := rfl
@[simp] theorem State.putInst_bays (k : Nat) (x : Inst) : (s.putInst k x).bays = s.bays := rfl
@[simp] theorem State.putInst_service (k : Nat) (x : Inst) : (s.putInst k x).service = s.service := rfl
@[simp] theorem State.putInst_mxc (k : Nat) (x : Inst) : (s.putInst k x).mxc = s.mxc := rfl
@[simp] theorem State.putInst_fnc (k : Nat) (x : Inst) : (s.putInst k x).fnc = s.fnc := rfl
@[simp] theorem State.putInst_src (k : Nat) (x : Inst) : (s.putInst k x).src = s.src := rfl
@[simp] theorem State.putInst_claims (k : Nat) (x : Inst) : (s.putInst k x).claims = s.claims := rfl
@[simp] theorem State.putInst_xfers (k : Nat) (x : Inst) : (s.putInst k x).xfers = s.xfers := rfl
@[simp] theorem State.putInst_bufs (k : Nat) (x : Inst) : (s.putInst k x).bufs = s.bufs := rfl
@[simp] theorem State.putInst_sram (k : Nat) (x : Inst) : (s.putInst k x).sram = s.sram := rfl
@[simp] theorem State.putInst_tallies (k : Nat) (x : Inst) : (s.putInst k x).tallies = s.tallies := rfl
@[simp] theorem State.putInst_arb (k : Nat) (x : Inst) : (s.putInst k x).arb = s.arb := rfl
@[simp] theorem State.putInst_mem (k : Nat) (x : Inst) : (s.putInst k x).mem = s.mem := rfl
@[simp] theorem State.putInst_tier (k : Nat) (x : Inst) : (s.putInst k x).tier = s.tier := rfl
@[simp] theorem State.putInst_code (k : Nat) (x : Inst) : (s.putInst k x).code = s.code := rfl
@[simp] theorem State.putInst_jig (k : Nat) (x : Inst) : (s.putInst k x).jig = s.jig := rfl
@[simp] theorem State.putInst_host (k : Nat) (x : Inst) : (s.putInst k x).host = s.host := rfl
@[simp] theorem State.putInst_trust (k : Nat) (x : Inst) : (s.putInst k x).trust = s.trust := rfl
@[simp] theorem State.putInst_ren (k : Nat) (x : Inst) : (s.putInst k x).ren = s.ren := rfl
@[simp] theorem State.putInst_link (k : Nat) (x : Inst) : (s.putInst k x).link = s.link := rfl
@[simp] theorem State.putInst_wgt (k : Nat) (x : Inst) : (s.putInst k x).wgt = s.wgt := rfl
@[simp] theorem State.putInst_srv (k : Nat) (x : Inst) : (s.putInst k x).srv = s.srv := rfl
@[simp] theorem State.putInst_pwr (k : Nat) (x : Inst) : (s.putInst k x).pwr = s.pwr := rfl
@[simp] theorem State.putInst_mgmt (k : Nat) (x : Inst) : (s.putInst k x).mgmt = s.mgmt := rfl
@[simp] theorem State.putInst_out (k : Nat) (x : Inst) : (s.putInst k x).out = s.out := rfl
@[simp] theorem State.putInst_free (k : Nat) (x : Inst) : (s.putInst k x).free = s.free := rfl
@[simp] theorem State.putInst_pending (k : Nat) (x : Inst) : (s.putInst k x).pending = s.pending := rfl

@[simp] theorem State.putWgt_clk (x : Weights) : (s.putWgt x).clk = s.clk := rfl
@[simp] theorem State.putWgt_dict (x : Weights) : (s.putWgt x).dict = s.dict := rfl
@[simp] theorem State.putWgt_log (x : Weights) : (s.putWgt x).log = s.log := rfl
@[simp] theorem State.putWgt_sites (x : Weights) : (s.putWgt x).sites = s.sites := rfl
@[simp] theorem State.putWgt_net (x : Weights) : (s.putWgt x).net = s.net := rfl
@[simp] theorem State.putWgt_drawers (x : Weights) : (s.putWgt x).drawers = s.drawers := rfl
@[simp] theorem State.putWgt_bays (x : Weights) : (s.putWgt x).bays = s.bays := rfl
@[simp] theorem State.putWgt_service (x : Weights) : (s.putWgt x).service = s.service := rfl
@[simp] theorem State.putWgt_insts (x : Weights) : (s.putWgt x).insts = s.insts := rfl
@[simp] theorem State.putWgt_mxc (x : Weights) : (s.putWgt x).mxc = s.mxc := rfl
@[simp] theorem State.putWgt_fnc (x : Weights) : (s.putWgt x).fnc = s.fnc := rfl
@[simp] theorem State.putWgt_src (x : Weights) : (s.putWgt x).src = s.src := rfl
@[simp] theorem State.putWgt_claims (x : Weights) : (s.putWgt x).claims = s.claims := rfl
@[simp] theorem State.putWgt_xfers (x : Weights) : (s.putWgt x).xfers = s.xfers := rfl
@[simp] theorem State.putWgt_bufs (x : Weights) : (s.putWgt x).bufs = s.bufs := rfl
@[simp] theorem State.putWgt_sram (x : Weights) : (s.putWgt x).sram = s.sram := rfl
@[simp] theorem State.putWgt_tallies (x : Weights) : (s.putWgt x).tallies = s.tallies := rfl
@[simp] theorem State.putWgt_arb (x : Weights) : (s.putWgt x).arb = s.arb := rfl
@[simp] theorem State.putWgt_mem (x : Weights) : (s.putWgt x).mem = s.mem := rfl
@[simp] theorem State.putWgt_tier (x : Weights) : (s.putWgt x).tier = s.tier := rfl
@[simp] theorem State.putWgt_code (x : Weights) : (s.putWgt x).code = s.code := rfl
@[simp] theorem State.putWgt_jig (x : Weights) : (s.putWgt x).jig = s.jig := rfl
@[simp] theorem State.putWgt_host (x : Weights) : (s.putWgt x).host = s.host := rfl
@[simp] theorem State.putWgt_trust (x : Weights) : (s.putWgt x).trust = s.trust := rfl
@[simp] theorem State.putWgt_ren (x : Weights) : (s.putWgt x).ren = s.ren := rfl
@[simp] theorem State.putWgt_link (x : Weights) : (s.putWgt x).link = s.link := rfl
@[simp] theorem State.putWgt_srv (x : Weights) : (s.putWgt x).srv = s.srv := rfl
@[simp] theorem State.putWgt_pwr (x : Weights) : (s.putWgt x).pwr = s.pwr := rfl
@[simp] theorem State.putWgt_mgmt (x : Weights) : (s.putWgt x).mgmt = s.mgmt := rfl
@[simp] theorem State.putWgt_out (x : Weights) : (s.putWgt x).out = s.out := rfl
@[simp] theorem State.putWgt_free (x : Weights) : (s.putWgt x).free = s.free := rfl
@[simp] theorem State.putWgt_pending (x : Weights) : (s.putWgt x).pending = s.pending := rfl

@[simp] theorem State.putModel_clk (k : Nat) (x : Model) : (s.putModel k x).clk = s.clk := rfl
@[simp] theorem State.putModel_dict (k : Nat) (x : Model) : (s.putModel k x).dict = s.dict := rfl
@[simp] theorem State.putModel_log (k : Nat) (x : Model) : (s.putModel k x).log = s.log := rfl
@[simp] theorem State.putModel_sites (k : Nat) (x : Model) : (s.putModel k x).sites = s.sites := rfl
@[simp] theorem State.putModel_net (k : Nat) (x : Model) : (s.putModel k x).net = s.net := rfl
@[simp] theorem State.putModel_drawers (k : Nat) (x : Model) : (s.putModel k x).drawers = s.drawers := rfl
@[simp] theorem State.putModel_bays (k : Nat) (x : Model) : (s.putModel k x).bays = s.bays := rfl
@[simp] theorem State.putModel_service (k : Nat) (x : Model) : (s.putModel k x).service = s.service := rfl
@[simp] theorem State.putModel_insts (k : Nat) (x : Model) : (s.putModel k x).insts = s.insts := rfl
@[simp] theorem State.putModel_mxc (k : Nat) (x : Model) : (s.putModel k x).mxc = s.mxc := rfl
@[simp] theorem State.putModel_fnc (k : Nat) (x : Model) : (s.putModel k x).fnc = s.fnc := rfl
@[simp] theorem State.putModel_src (k : Nat) (x : Model) : (s.putModel k x).src = s.src := rfl
@[simp] theorem State.putModel_claims (k : Nat) (x : Model) : (s.putModel k x).claims = s.claims := rfl
@[simp] theorem State.putModel_xfers (k : Nat) (x : Model) : (s.putModel k x).xfers = s.xfers := rfl
@[simp] theorem State.putModel_bufs (k : Nat) (x : Model) : (s.putModel k x).bufs = s.bufs := rfl
@[simp] theorem State.putModel_sram (k : Nat) (x : Model) : (s.putModel k x).sram = s.sram := rfl
@[simp] theorem State.putModel_tallies (k : Nat) (x : Model) : (s.putModel k x).tallies = s.tallies := rfl
@[simp] theorem State.putModel_arb (k : Nat) (x : Model) : (s.putModel k x).arb = s.arb := rfl
@[simp] theorem State.putModel_mem (k : Nat) (x : Model) : (s.putModel k x).mem = s.mem := rfl
@[simp] theorem State.putModel_tier (k : Nat) (x : Model) : (s.putModel k x).tier = s.tier := rfl
@[simp] theorem State.putModel_code (k : Nat) (x : Model) : (s.putModel k x).code = s.code := rfl
@[simp] theorem State.putModel_jig (k : Nat) (x : Model) : (s.putModel k x).jig = s.jig := rfl
@[simp] theorem State.putModel_host (k : Nat) (x : Model) : (s.putModel k x).host = s.host := rfl
@[simp] theorem State.putModel_trust (k : Nat) (x : Model) : (s.putModel k x).trust = s.trust := rfl
@[simp] theorem State.putModel_ren (k : Nat) (x : Model) : (s.putModel k x).ren = s.ren := rfl
@[simp] theorem State.putModel_link (k : Nat) (x : Model) : (s.putModel k x).link = s.link := rfl
@[simp] theorem State.putModel_srv (k : Nat) (x : Model) : (s.putModel k x).srv = s.srv := rfl
@[simp] theorem State.putModel_pwr (k : Nat) (x : Model) : (s.putModel k x).pwr = s.pwr := rfl
@[simp] theorem State.putModel_mgmt (k : Nat) (x : Model) : (s.putModel k x).mgmt = s.mgmt := rfl
@[simp] theorem State.putModel_out (k : Nat) (x : Model) : (s.putModel k x).out = s.out := rfl
@[simp] theorem State.putModel_free (k : Nat) (x : Model) : (s.putModel k x).free = s.free := rfl
@[simp] theorem State.putModel_pending (k : Nat) (x : Model) : (s.putModel k x).pending = s.pending := rfl

@[simp] theorem State.putSrv_clk (x : Serving) : (s.putSrv x).clk = s.clk := rfl
@[simp] theorem State.putSrv_dict (x : Serving) : (s.putSrv x).dict = s.dict := rfl
@[simp] theorem State.putSrv_log (x : Serving) : (s.putSrv x).log = s.log := rfl
@[simp] theorem State.putSrv_sites (x : Serving) : (s.putSrv x).sites = s.sites := rfl
@[simp] theorem State.putSrv_net (x : Serving) : (s.putSrv x).net = s.net := rfl
@[simp] theorem State.putSrv_drawers (x : Serving) : (s.putSrv x).drawers = s.drawers := rfl
@[simp] theorem State.putSrv_bays (x : Serving) : (s.putSrv x).bays = s.bays := rfl
@[simp] theorem State.putSrv_service (x : Serving) : (s.putSrv x).service = s.service := rfl
@[simp] theorem State.putSrv_insts (x : Serving) : (s.putSrv x).insts = s.insts := rfl
@[simp] theorem State.putSrv_mxc (x : Serving) : (s.putSrv x).mxc = s.mxc := rfl
@[simp] theorem State.putSrv_fnc (x : Serving) : (s.putSrv x).fnc = s.fnc := rfl
@[simp] theorem State.putSrv_src (x : Serving) : (s.putSrv x).src = s.src := rfl
@[simp] theorem State.putSrv_claims (x : Serving) : (s.putSrv x).claims = s.claims := rfl
@[simp] theorem State.putSrv_xfers (x : Serving) : (s.putSrv x).xfers = s.xfers := rfl
@[simp] theorem State.putSrv_bufs (x : Serving) : (s.putSrv x).bufs = s.bufs := rfl
@[simp] theorem State.putSrv_sram (x : Serving) : (s.putSrv x).sram = s.sram := rfl
@[simp] theorem State.putSrv_tallies (x : Serving) : (s.putSrv x).tallies = s.tallies := rfl
@[simp] theorem State.putSrv_arb (x : Serving) : (s.putSrv x).arb = s.arb := rfl
@[simp] theorem State.putSrv_mem (x : Serving) : (s.putSrv x).mem = s.mem := rfl
@[simp] theorem State.putSrv_tier (x : Serving) : (s.putSrv x).tier = s.tier := rfl
@[simp] theorem State.putSrv_code (x : Serving) : (s.putSrv x).code = s.code := rfl
@[simp] theorem State.putSrv_jig (x : Serving) : (s.putSrv x).jig = s.jig := rfl
@[simp] theorem State.putSrv_host (x : Serving) : (s.putSrv x).host = s.host := rfl
@[simp] theorem State.putSrv_trust (x : Serving) : (s.putSrv x).trust = s.trust := rfl
@[simp] theorem State.putSrv_ren (x : Serving) : (s.putSrv x).ren = s.ren := rfl
@[simp] theorem State.putSrv_link (x : Serving) : (s.putSrv x).link = s.link := rfl
@[simp] theorem State.putSrv_wgt (x : Serving) : (s.putSrv x).wgt = s.wgt := rfl
@[simp] theorem State.putSrv_pwr (x : Serving) : (s.putSrv x).pwr = s.pwr := rfl
@[simp] theorem State.putSrv_mgmt (x : Serving) : (s.putSrv x).mgmt = s.mgmt := rfl
@[simp] theorem State.putSrv_out (x : Serving) : (s.putSrv x).out = s.out := rfl
@[simp] theorem State.putSrv_free (x : Serving) : (s.putSrv x).free = s.free := rfl
@[simp] theorem State.putSrv_pending (x : Serving) : (s.putSrv x).pending = s.pending := rfl

@[simp] theorem State.putKv_clk (f : Nat) (x : KvPool) : (s.putKv f x).clk = s.clk := rfl
@[simp] theorem State.putKv_dict (f : Nat) (x : KvPool) : (s.putKv f x).dict = s.dict := rfl
@[simp] theorem State.putKv_log (f : Nat) (x : KvPool) : (s.putKv f x).log = s.log := rfl
@[simp] theorem State.putKv_sites (f : Nat) (x : KvPool) : (s.putKv f x).sites = s.sites := rfl
@[simp] theorem State.putKv_net (f : Nat) (x : KvPool) : (s.putKv f x).net = s.net := rfl
@[simp] theorem State.putKv_drawers (f : Nat) (x : KvPool) : (s.putKv f x).drawers = s.drawers := rfl
@[simp] theorem State.putKv_bays (f : Nat) (x : KvPool) : (s.putKv f x).bays = s.bays := rfl
@[simp] theorem State.putKv_service (f : Nat) (x : KvPool) : (s.putKv f x).service = s.service := rfl
@[simp] theorem State.putKv_insts (f : Nat) (x : KvPool) : (s.putKv f x).insts = s.insts := rfl
@[simp] theorem State.putKv_mxc (f : Nat) (x : KvPool) : (s.putKv f x).mxc = s.mxc := rfl
@[simp] theorem State.putKv_fnc (f : Nat) (x : KvPool) : (s.putKv f x).fnc = s.fnc := rfl
@[simp] theorem State.putKv_src (f : Nat) (x : KvPool) : (s.putKv f x).src = s.src := rfl
@[simp] theorem State.putKv_claims (f : Nat) (x : KvPool) : (s.putKv f x).claims = s.claims := rfl
@[simp] theorem State.putKv_xfers (f : Nat) (x : KvPool) : (s.putKv f x).xfers = s.xfers := rfl
@[simp] theorem State.putKv_bufs (f : Nat) (x : KvPool) : (s.putKv f x).bufs = s.bufs := rfl
@[simp] theorem State.putKv_sram (f : Nat) (x : KvPool) : (s.putKv f x).sram = s.sram := rfl
@[simp] theorem State.putKv_tallies (f : Nat) (x : KvPool) : (s.putKv f x).tallies = s.tallies := rfl
@[simp] theorem State.putKv_arb (f : Nat) (x : KvPool) : (s.putKv f x).arb = s.arb := rfl
@[simp] theorem State.putKv_mem (f : Nat) (x : KvPool) : (s.putKv f x).mem = s.mem := rfl
@[simp] theorem State.putKv_tier (f : Nat) (x : KvPool) : (s.putKv f x).tier = s.tier := rfl
@[simp] theorem State.putKv_code (f : Nat) (x : KvPool) : (s.putKv f x).code = s.code := rfl
@[simp] theorem State.putKv_jig (f : Nat) (x : KvPool) : (s.putKv f x).jig = s.jig := rfl
@[simp] theorem State.putKv_host (f : Nat) (x : KvPool) : (s.putKv f x).host = s.host := rfl
@[simp] theorem State.putKv_trust (f : Nat) (x : KvPool) : (s.putKv f x).trust = s.trust := rfl
@[simp] theorem State.putKv_ren (f : Nat) (x : KvPool) : (s.putKv f x).ren = s.ren := rfl
@[simp] theorem State.putKv_link (f : Nat) (x : KvPool) : (s.putKv f x).link = s.link := rfl
@[simp] theorem State.putKv_wgt (f : Nat) (x : KvPool) : (s.putKv f x).wgt = s.wgt := rfl
@[simp] theorem State.putKv_pwr (f : Nat) (x : KvPool) : (s.putKv f x).pwr = s.pwr := rfl
@[simp] theorem State.putKv_mgmt (f : Nat) (x : KvPool) : (s.putKv f x).mgmt = s.mgmt := rfl
@[simp] theorem State.putKv_out (f : Nat) (x : KvPool) : (s.putKv f x).out = s.out := rfl
@[simp] theorem State.putKv_free (f : Nat) (x : KvPool) : (s.putKv f x).free = s.free := rfl
@[simp] theorem State.putKv_pending (f : Nat) (x : KvPool) : (s.putKv f x).pending = s.pending := rfl

@[simp] theorem State.putEntry_clk (n : Nat) (x : Entry) : (s.putEntry n x).clk = s.clk := rfl
@[simp] theorem State.putEntry_dict (n : Nat) (x : Entry) : (s.putEntry n x).dict = s.dict := rfl
@[simp] theorem State.putEntry_log (n : Nat) (x : Entry) : (s.putEntry n x).log = s.log := rfl
@[simp] theorem State.putEntry_sites (n : Nat) (x : Entry) : (s.putEntry n x).sites = s.sites := rfl
@[simp] theorem State.putEntry_net (n : Nat) (x : Entry) : (s.putEntry n x).net = s.net := rfl
@[simp] theorem State.putEntry_drawers (n : Nat) (x : Entry) : (s.putEntry n x).drawers = s.drawers := rfl
@[simp] theorem State.putEntry_bays (n : Nat) (x : Entry) : (s.putEntry n x).bays = s.bays := rfl
@[simp] theorem State.putEntry_service (n : Nat) (x : Entry) : (s.putEntry n x).service = s.service := rfl
@[simp] theorem State.putEntry_insts (n : Nat) (x : Entry) : (s.putEntry n x).insts = s.insts := rfl
@[simp] theorem State.putEntry_mxc (n : Nat) (x : Entry) : (s.putEntry n x).mxc = s.mxc := rfl
@[simp] theorem State.putEntry_fnc (n : Nat) (x : Entry) : (s.putEntry n x).fnc = s.fnc := rfl
@[simp] theorem State.putEntry_src (n : Nat) (x : Entry) : (s.putEntry n x).src = s.src := rfl
@[simp] theorem State.putEntry_claims (n : Nat) (x : Entry) : (s.putEntry n x).claims = s.claims := rfl
@[simp] theorem State.putEntry_xfers (n : Nat) (x : Entry) : (s.putEntry n x).xfers = s.xfers := rfl
@[simp] theorem State.putEntry_bufs (n : Nat) (x : Entry) : (s.putEntry n x).bufs = s.bufs := rfl
@[simp] theorem State.putEntry_sram (n : Nat) (x : Entry) : (s.putEntry n x).sram = s.sram := rfl
@[simp] theorem State.putEntry_tallies (n : Nat) (x : Entry) : (s.putEntry n x).tallies = s.tallies := rfl
@[simp] theorem State.putEntry_arb (n : Nat) (x : Entry) : (s.putEntry n x).arb = s.arb := rfl
@[simp] theorem State.putEntry_mem (n : Nat) (x : Entry) : (s.putEntry n x).mem = s.mem := rfl
@[simp] theorem State.putEntry_tier (n : Nat) (x : Entry) : (s.putEntry n x).tier = s.tier := rfl
@[simp] theorem State.putEntry_code (n : Nat) (x : Entry) : (s.putEntry n x).code = s.code := rfl
@[simp] theorem State.putEntry_jig (n : Nat) (x : Entry) : (s.putEntry n x).jig = s.jig := rfl
@[simp] theorem State.putEntry_host (n : Nat) (x : Entry) : (s.putEntry n x).host = s.host := rfl
@[simp] theorem State.putEntry_trust (n : Nat) (x : Entry) : (s.putEntry n x).trust = s.trust := rfl
@[simp] theorem State.putEntry_ren (n : Nat) (x : Entry) : (s.putEntry n x).ren = s.ren := rfl
@[simp] theorem State.putEntry_link (n : Nat) (x : Entry) : (s.putEntry n x).link = s.link := rfl
@[simp] theorem State.putEntry_wgt (n : Nat) (x : Entry) : (s.putEntry n x).wgt = s.wgt := rfl
@[simp] theorem State.putEntry_pwr (n : Nat) (x : Entry) : (s.putEntry n x).pwr = s.pwr := rfl
@[simp] theorem State.putEntry_mgmt (n : Nat) (x : Entry) : (s.putEntry n x).mgmt = s.mgmt := rfl
@[simp] theorem State.putEntry_out (n : Nat) (x : Entry) : (s.putEntry n x).out = s.out := rfl
@[simp] theorem State.putEntry_free (n : Nat) (x : Entry) : (s.putEntry n x).free = s.free := rfl
@[simp] theorem State.putEntry_pending (n : Nat) (x : Entry) : (s.putEntry n x).pending = s.pending := rfl

@[simp] theorem State.putFn_clk (f : Nat) (x : FnEnt) : (s.putFn f x).clk = s.clk := rfl
@[simp] theorem State.putFn_dict (f : Nat) (x : FnEnt) : (s.putFn f x).dict = s.dict := rfl
@[simp] theorem State.putFn_log (f : Nat) (x : FnEnt) : (s.putFn f x).log = s.log := rfl
@[simp] theorem State.putFn_sites (f : Nat) (x : FnEnt) : (s.putFn f x).sites = s.sites := rfl
@[simp] theorem State.putFn_net (f : Nat) (x : FnEnt) : (s.putFn f x).net = s.net := rfl
@[simp] theorem State.putFn_drawers (f : Nat) (x : FnEnt) : (s.putFn f x).drawers = s.drawers := rfl
@[simp] theorem State.putFn_bays (f : Nat) (x : FnEnt) : (s.putFn f x).bays = s.bays := rfl
@[simp] theorem State.putFn_service (f : Nat) (x : FnEnt) : (s.putFn f x).service = s.service := rfl
@[simp] theorem State.putFn_insts (f : Nat) (x : FnEnt) : (s.putFn f x).insts = s.insts := rfl
@[simp] theorem State.putFn_mxc (f : Nat) (x : FnEnt) : (s.putFn f x).mxc = s.mxc := rfl
@[simp] theorem State.putFn_fnc (f : Nat) (x : FnEnt) : (s.putFn f x).fnc = s.fnc := rfl
@[simp] theorem State.putFn_src (f : Nat) (x : FnEnt) : (s.putFn f x).src = s.src := rfl
@[simp] theorem State.putFn_claims (f : Nat) (x : FnEnt) : (s.putFn f x).claims = s.claims := rfl
@[simp] theorem State.putFn_xfers (f : Nat) (x : FnEnt) : (s.putFn f x).xfers = s.xfers := rfl
@[simp] theorem State.putFn_bufs (f : Nat) (x : FnEnt) : (s.putFn f x).bufs = s.bufs := rfl
@[simp] theorem State.putFn_sram (f : Nat) (x : FnEnt) : (s.putFn f x).sram = s.sram := rfl
@[simp] theorem State.putFn_tallies (f : Nat) (x : FnEnt) : (s.putFn f x).tallies = s.tallies := rfl
@[simp] theorem State.putFn_arb (f : Nat) (x : FnEnt) : (s.putFn f x).arb = s.arb := rfl
@[simp] theorem State.putFn_mem (f : Nat) (x : FnEnt) : (s.putFn f x).mem = s.mem := rfl
@[simp] theorem State.putFn_tier (f : Nat) (x : FnEnt) : (s.putFn f x).tier = s.tier := rfl
@[simp] theorem State.putFn_code (f : Nat) (x : FnEnt) : (s.putFn f x).code = s.code := rfl
@[simp] theorem State.putFn_jig (f : Nat) (x : FnEnt) : (s.putFn f x).jig = s.jig := rfl
@[simp] theorem State.putFn_trust (f : Nat) (x : FnEnt) : (s.putFn f x).trust = s.trust := rfl
@[simp] theorem State.putFn_ren (f : Nat) (x : FnEnt) : (s.putFn f x).ren = s.ren := rfl
@[simp] theorem State.putFn_link (f : Nat) (x : FnEnt) : (s.putFn f x).link = s.link := rfl
@[simp] theorem State.putFn_wgt (f : Nat) (x : FnEnt) : (s.putFn f x).wgt = s.wgt := rfl
@[simp] theorem State.putFn_srv (f : Nat) (x : FnEnt) : (s.putFn f x).srv = s.srv := rfl
@[simp] theorem State.putFn_pwr (f : Nat) (x : FnEnt) : (s.putFn f x).pwr = s.pwr := rfl
@[simp] theorem State.putFn_mgmt (f : Nat) (x : FnEnt) : (s.putFn f x).mgmt = s.mgmt := rfl
@[simp] theorem State.putFn_out (f : Nat) (x : FnEnt) : (s.putFn f x).out = s.out := rfl
@[simp] theorem State.putFn_free (f : Nat) (x : FnEnt) : (s.putFn f x).free = s.free := rfl
@[simp] theorem State.putFn_pending (f : Nat) (x : FnEnt) : (s.putFn f x).pending = s.pending := rfl

@[simp] theorem State.putWin_clk (w : Nat) (x : HdmWin) : (s.putWin w x).clk = s.clk := rfl
@[simp] theorem State.putWin_dict (w : Nat) (x : HdmWin) : (s.putWin w x).dict = s.dict := rfl
@[simp] theorem State.putWin_log (w : Nat) (x : HdmWin) : (s.putWin w x).log = s.log := rfl
@[simp] theorem State.putWin_sites (w : Nat) (x : HdmWin) : (s.putWin w x).sites = s.sites := rfl
@[simp] theorem State.putWin_net (w : Nat) (x : HdmWin) : (s.putWin w x).net = s.net := rfl
@[simp] theorem State.putWin_drawers (w : Nat) (x : HdmWin) : (s.putWin w x).drawers = s.drawers := rfl
@[simp] theorem State.putWin_bays (w : Nat) (x : HdmWin) : (s.putWin w x).bays = s.bays := rfl
@[simp] theorem State.putWin_service (w : Nat) (x : HdmWin) : (s.putWin w x).service = s.service := rfl
@[simp] theorem State.putWin_insts (w : Nat) (x : HdmWin) : (s.putWin w x).insts = s.insts := rfl
@[simp] theorem State.putWin_mxc (w : Nat) (x : HdmWin) : (s.putWin w x).mxc = s.mxc := rfl
@[simp] theorem State.putWin_fnc (w : Nat) (x : HdmWin) : (s.putWin w x).fnc = s.fnc := rfl
@[simp] theorem State.putWin_src (w : Nat) (x : HdmWin) : (s.putWin w x).src = s.src := rfl
@[simp] theorem State.putWin_claims (w : Nat) (x : HdmWin) : (s.putWin w x).claims = s.claims := rfl
@[simp] theorem State.putWin_xfers (w : Nat) (x : HdmWin) : (s.putWin w x).xfers = s.xfers := rfl
@[simp] theorem State.putWin_bufs (w : Nat) (x : HdmWin) : (s.putWin w x).bufs = s.bufs := rfl
@[simp] theorem State.putWin_sram (w : Nat) (x : HdmWin) : (s.putWin w x).sram = s.sram := rfl
@[simp] theorem State.putWin_tallies (w : Nat) (x : HdmWin) : (s.putWin w x).tallies = s.tallies := rfl
@[simp] theorem State.putWin_arb (w : Nat) (x : HdmWin) : (s.putWin w x).arb = s.arb := rfl
@[simp] theorem State.putWin_mem (w : Nat) (x : HdmWin) : (s.putWin w x).mem = s.mem := rfl
@[simp] theorem State.putWin_tier (w : Nat) (x : HdmWin) : (s.putWin w x).tier = s.tier := rfl
@[simp] theorem State.putWin_code (w : Nat) (x : HdmWin) : (s.putWin w x).code = s.code := rfl
@[simp] theorem State.putWin_jig (w : Nat) (x : HdmWin) : (s.putWin w x).jig = s.jig := rfl
@[simp] theorem State.putWin_trust (w : Nat) (x : HdmWin) : (s.putWin w x).trust = s.trust := rfl
@[simp] theorem State.putWin_ren (w : Nat) (x : HdmWin) : (s.putWin w x).ren = s.ren := rfl
@[simp] theorem State.putWin_link (w : Nat) (x : HdmWin) : (s.putWin w x).link = s.link := rfl
@[simp] theorem State.putWin_wgt (w : Nat) (x : HdmWin) : (s.putWin w x).wgt = s.wgt := rfl
@[simp] theorem State.putWin_srv (w : Nat) (x : HdmWin) : (s.putWin w x).srv = s.srv := rfl
@[simp] theorem State.putWin_pwr (w : Nat) (x : HdmWin) : (s.putWin w x).pwr = s.pwr := rfl
@[simp] theorem State.putWin_mgmt (w : Nat) (x : HdmWin) : (s.putWin w x).mgmt = s.mgmt := rfl
@[simp] theorem State.putWin_out (w : Nat) (x : HdmWin) : (s.putWin w x).out = s.out := rfl
@[simp] theorem State.putWin_free (w : Nat) (x : HdmWin) : (s.putWin w x).free = s.free := rfl
@[simp] theorem State.putWin_pending (w : Nat) (x : HdmWin) : (s.putWin w x).pending = s.pending := rfl

@[simp] theorem State.putRing_clk (r : Nat) (x : Ring) : (s.putRing r x).clk = s.clk := rfl
@[simp] theorem State.putRing_dict (r : Nat) (x : Ring) : (s.putRing r x).dict = s.dict := rfl
@[simp] theorem State.putRing_log (r : Nat) (x : Ring) : (s.putRing r x).log = s.log := rfl
@[simp] theorem State.putRing_sites (r : Nat) (x : Ring) : (s.putRing r x).sites = s.sites := rfl
@[simp] theorem State.putRing_net (r : Nat) (x : Ring) : (s.putRing r x).net = s.net := rfl
@[simp] theorem State.putRing_drawers (r : Nat) (x : Ring) : (s.putRing r x).drawers = s.drawers := rfl
@[simp] theorem State.putRing_bays (r : Nat) (x : Ring) : (s.putRing r x).bays = s.bays := rfl
@[simp] theorem State.putRing_service (r : Nat) (x : Ring) : (s.putRing r x).service = s.service := rfl
@[simp] theorem State.putRing_insts (r : Nat) (x : Ring) : (s.putRing r x).insts = s.insts := rfl
@[simp] theorem State.putRing_mxc (r : Nat) (x : Ring) : (s.putRing r x).mxc = s.mxc := rfl
@[simp] theorem State.putRing_fnc (r : Nat) (x : Ring) : (s.putRing r x).fnc = s.fnc := rfl
@[simp] theorem State.putRing_src (r : Nat) (x : Ring) : (s.putRing r x).src = s.src := rfl
@[simp] theorem State.putRing_claims (r : Nat) (x : Ring) : (s.putRing r x).claims = s.claims := rfl
@[simp] theorem State.putRing_xfers (r : Nat) (x : Ring) : (s.putRing r x).xfers = s.xfers := rfl
@[simp] theorem State.putRing_bufs (r : Nat) (x : Ring) : (s.putRing r x).bufs = s.bufs := rfl
@[simp] theorem State.putRing_sram (r : Nat) (x : Ring) : (s.putRing r x).sram = s.sram := rfl
@[simp] theorem State.putRing_tallies (r : Nat) (x : Ring) : (s.putRing r x).tallies = s.tallies := rfl
@[simp] theorem State.putRing_arb (r : Nat) (x : Ring) : (s.putRing r x).arb = s.arb := rfl
@[simp] theorem State.putRing_mem (r : Nat) (x : Ring) : (s.putRing r x).mem = s.mem := rfl
@[simp] theorem State.putRing_tier (r : Nat) (x : Ring) : (s.putRing r x).tier = s.tier := rfl
@[simp] theorem State.putRing_code (r : Nat) (x : Ring) : (s.putRing r x).code = s.code := rfl
@[simp] theorem State.putRing_jig (r : Nat) (x : Ring) : (s.putRing r x).jig = s.jig := rfl
@[simp] theorem State.putRing_trust (r : Nat) (x : Ring) : (s.putRing r x).trust = s.trust := rfl
@[simp] theorem State.putRing_ren (r : Nat) (x : Ring) : (s.putRing r x).ren = s.ren := rfl
@[simp] theorem State.putRing_link (r : Nat) (x : Ring) : (s.putRing r x).link = s.link := rfl
@[simp] theorem State.putRing_wgt (r : Nat) (x : Ring) : (s.putRing r x).wgt = s.wgt := rfl
@[simp] theorem State.putRing_srv (r : Nat) (x : Ring) : (s.putRing r x).srv = s.srv := rfl
@[simp] theorem State.putRing_pwr (r : Nat) (x : Ring) : (s.putRing r x).pwr = s.pwr := rfl
@[simp] theorem State.putRing_mgmt (r : Nat) (x : Ring) : (s.putRing r x).mgmt = s.mgmt := rfl
@[simp] theorem State.putRing_out (r : Nat) (x : Ring) : (s.putRing r x).out = s.out := rfl
@[simp] theorem State.putRing_free (r : Nat) (x : Ring) : (s.putRing r x).free = s.free := rfl
@[simp] theorem State.putRing_pending (r : Nat) (x : Ring) : (s.putRing r x).pending = s.pending := rfl

@[simp] theorem State.putLnk_clk (l : Nat) (x : Link) : (s.putLnk l x).clk = s.clk := rfl
@[simp] theorem State.putLnk_dict (l : Nat) (x : Link) : (s.putLnk l x).dict = s.dict := rfl
@[simp] theorem State.putLnk_log (l : Nat) (x : Link) : (s.putLnk l x).log = s.log := rfl
@[simp] theorem State.putLnk_sites (l : Nat) (x : Link) : (s.putLnk l x).sites = s.sites := rfl
@[simp] theorem State.putLnk_net (l : Nat) (x : Link) : (s.putLnk l x).net = s.net := rfl
@[simp] theorem State.putLnk_drawers (l : Nat) (x : Link) : (s.putLnk l x).drawers = s.drawers := rfl
@[simp] theorem State.putLnk_bays (l : Nat) (x : Link) : (s.putLnk l x).bays = s.bays := rfl
@[simp] theorem State.putLnk_service (l : Nat) (x : Link) : (s.putLnk l x).service = s.service := rfl
@[simp] theorem State.putLnk_insts (l : Nat) (x : Link) : (s.putLnk l x).insts = s.insts := rfl
@[simp] theorem State.putLnk_mxc (l : Nat) (x : Link) : (s.putLnk l x).mxc = s.mxc := rfl
@[simp] theorem State.putLnk_fnc (l : Nat) (x : Link) : (s.putLnk l x).fnc = s.fnc := rfl
@[simp] theorem State.putLnk_src (l : Nat) (x : Link) : (s.putLnk l x).src = s.src := rfl
@[simp] theorem State.putLnk_claims (l : Nat) (x : Link) : (s.putLnk l x).claims = s.claims := rfl
@[simp] theorem State.putLnk_xfers (l : Nat) (x : Link) : (s.putLnk l x).xfers = s.xfers := rfl
@[simp] theorem State.putLnk_bufs (l : Nat) (x : Link) : (s.putLnk l x).bufs = s.bufs := rfl
@[simp] theorem State.putLnk_sram (l : Nat) (x : Link) : (s.putLnk l x).sram = s.sram := rfl
@[simp] theorem State.putLnk_tallies (l : Nat) (x : Link) : (s.putLnk l x).tallies = s.tallies := rfl
@[simp] theorem State.putLnk_arb (l : Nat) (x : Link) : (s.putLnk l x).arb = s.arb := rfl
@[simp] theorem State.putLnk_mem (l : Nat) (x : Link) : (s.putLnk l x).mem = s.mem := rfl
@[simp] theorem State.putLnk_tier (l : Nat) (x : Link) : (s.putLnk l x).tier = s.tier := rfl
@[simp] theorem State.putLnk_code (l : Nat) (x : Link) : (s.putLnk l x).code = s.code := rfl
@[simp] theorem State.putLnk_jig (l : Nat) (x : Link) : (s.putLnk l x).jig = s.jig := rfl
@[simp] theorem State.putLnk_host (l : Nat) (x : Link) : (s.putLnk l x).host = s.host := rfl
@[simp] theorem State.putLnk_trust (l : Nat) (x : Link) : (s.putLnk l x).trust = s.trust := rfl
@[simp] theorem State.putLnk_ren (l : Nat) (x : Link) : (s.putLnk l x).ren = s.ren := rfl
@[simp] theorem State.putLnk_wgt (l : Nat) (x : Link) : (s.putLnk l x).wgt = s.wgt := rfl
@[simp] theorem State.putLnk_srv (l : Nat) (x : Link) : (s.putLnk l x).srv = s.srv := rfl
@[simp] theorem State.putLnk_pwr (l : Nat) (x : Link) : (s.putLnk l x).pwr = s.pwr := rfl
@[simp] theorem State.putLnk_mgmt (l : Nat) (x : Link) : (s.putLnk l x).mgmt = s.mgmt := rfl
@[simp] theorem State.putLnk_out (l : Nat) (x : Link) : (s.putLnk l x).out = s.out := rfl
@[simp] theorem State.putLnk_free (l : Nat) (x : Link) : (s.putLnk l x).free = s.free := rfl
@[simp] theorem State.putLnk_pending (l : Nat) (x : Link) : (s.putLnk l x).pending = s.pending := rfl

@[simp] theorem State.putJig_clk (x : Jig) : (s.putJig x).clk = s.clk := rfl
@[simp] theorem State.putJig_dict (x : Jig) : (s.putJig x).dict = s.dict := rfl
@[simp] theorem State.putJig_log (x : Jig) : (s.putJig x).log = s.log := rfl
@[simp] theorem State.putJig_sites (x : Jig) : (s.putJig x).sites = s.sites := rfl
@[simp] theorem State.putJig_net (x : Jig) : (s.putJig x).net = s.net := rfl
@[simp] theorem State.putJig_drawers (x : Jig) : (s.putJig x).drawers = s.drawers := rfl
@[simp] theorem State.putJig_bays (x : Jig) : (s.putJig x).bays = s.bays := rfl
@[simp] theorem State.putJig_service (x : Jig) : (s.putJig x).service = s.service := rfl
@[simp] theorem State.putJig_insts (x : Jig) : (s.putJig x).insts = s.insts := rfl
@[simp] theorem State.putJig_mxc (x : Jig) : (s.putJig x).mxc = s.mxc := rfl
@[simp] theorem State.putJig_fnc (x : Jig) : (s.putJig x).fnc = s.fnc := rfl
@[simp] theorem State.putJig_src (x : Jig) : (s.putJig x).src = s.src := rfl
@[simp] theorem State.putJig_claims (x : Jig) : (s.putJig x).claims = s.claims := rfl
@[simp] theorem State.putJig_xfers (x : Jig) : (s.putJig x).xfers = s.xfers := rfl
@[simp] theorem State.putJig_bufs (x : Jig) : (s.putJig x).bufs = s.bufs := rfl
@[simp] theorem State.putJig_sram (x : Jig) : (s.putJig x).sram = s.sram := rfl
@[simp] theorem State.putJig_tallies (x : Jig) : (s.putJig x).tallies = s.tallies := rfl
@[simp] theorem State.putJig_arb (x : Jig) : (s.putJig x).arb = s.arb := rfl
@[simp] theorem State.putJig_mem (x : Jig) : (s.putJig x).mem = s.mem := rfl
@[simp] theorem State.putJig_tier (x : Jig) : (s.putJig x).tier = s.tier := rfl
@[simp] theorem State.putJig_code (x : Jig) : (s.putJig x).code = s.code := rfl
@[simp] theorem State.putJig_host (x : Jig) : (s.putJig x).host = s.host := rfl
@[simp] theorem State.putJig_trust (x : Jig) : (s.putJig x).trust = s.trust := rfl
@[simp] theorem State.putJig_ren (x : Jig) : (s.putJig x).ren = s.ren := rfl
@[simp] theorem State.putJig_link (x : Jig) : (s.putJig x).link = s.link := rfl
@[simp] theorem State.putJig_wgt (x : Jig) : (s.putJig x).wgt = s.wgt := rfl
@[simp] theorem State.putJig_srv (x : Jig) : (s.putJig x).srv = s.srv := rfl
@[simp] theorem State.putJig_pwr (x : Jig) : (s.putJig x).pwr = s.pwr := rfl
@[simp] theorem State.putJig_mgmt (x : Jig) : (s.putJig x).mgmt = s.mgmt := rfl
@[simp] theorem State.putJig_out (x : Jig) : (s.putJig x).out = s.out := rfl
@[simp] theorem State.putJig_free (x : Jig) : (s.putJig x).free = s.free := rfl
@[simp] theorem State.putJig_pending (x : Jig) : (s.putJig x).pending = s.pending := rfl

@[simp] theorem State.putMgmt_clk (x : Mgmt) : (s.putMgmt x).clk = s.clk := rfl
@[simp] theorem State.putMgmt_dict (x : Mgmt) : (s.putMgmt x).dict = s.dict := rfl
@[simp] theorem State.putMgmt_log (x : Mgmt) : (s.putMgmt x).log = s.log := rfl
@[simp] theorem State.putMgmt_sites (x : Mgmt) : (s.putMgmt x).sites = s.sites := rfl
@[simp] theorem State.putMgmt_net (x : Mgmt) : (s.putMgmt x).net = s.net := rfl
@[simp] theorem State.putMgmt_drawers (x : Mgmt) : (s.putMgmt x).drawers = s.drawers := rfl
@[simp] theorem State.putMgmt_bays (x : Mgmt) : (s.putMgmt x).bays = s.bays := rfl
@[simp] theorem State.putMgmt_service (x : Mgmt) : (s.putMgmt x).service = s.service := rfl
@[simp] theorem State.putMgmt_insts (x : Mgmt) : (s.putMgmt x).insts = s.insts := rfl
@[simp] theorem State.putMgmt_mxc (x : Mgmt) : (s.putMgmt x).mxc = s.mxc := rfl
@[simp] theorem State.putMgmt_fnc (x : Mgmt) : (s.putMgmt x).fnc = s.fnc := rfl
@[simp] theorem State.putMgmt_src (x : Mgmt) : (s.putMgmt x).src = s.src := rfl
@[simp] theorem State.putMgmt_claims (x : Mgmt) : (s.putMgmt x).claims = s.claims := rfl
@[simp] theorem State.putMgmt_xfers (x : Mgmt) : (s.putMgmt x).xfers = s.xfers := rfl
@[simp] theorem State.putMgmt_bufs (x : Mgmt) : (s.putMgmt x).bufs = s.bufs := rfl
@[simp] theorem State.putMgmt_sram (x : Mgmt) : (s.putMgmt x).sram = s.sram := rfl
@[simp] theorem State.putMgmt_tallies (x : Mgmt) : (s.putMgmt x).tallies = s.tallies := rfl
@[simp] theorem State.putMgmt_arb (x : Mgmt) : (s.putMgmt x).arb = s.arb := rfl
@[simp] theorem State.putMgmt_mem (x : Mgmt) : (s.putMgmt x).mem = s.mem := rfl
@[simp] theorem State.putMgmt_tier (x : Mgmt) : (s.putMgmt x).tier = s.tier := rfl
@[simp] theorem State.putMgmt_code (x : Mgmt) : (s.putMgmt x).code = s.code := rfl
@[simp] theorem State.putMgmt_jig (x : Mgmt) : (s.putMgmt x).jig = s.jig := rfl
@[simp] theorem State.putMgmt_host (x : Mgmt) : (s.putMgmt x).host = s.host := rfl
@[simp] theorem State.putMgmt_trust (x : Mgmt) : (s.putMgmt x).trust = s.trust := rfl
@[simp] theorem State.putMgmt_ren (x : Mgmt) : (s.putMgmt x).ren = s.ren := rfl
@[simp] theorem State.putMgmt_link (x : Mgmt) : (s.putMgmt x).link = s.link := rfl
@[simp] theorem State.putMgmt_wgt (x : Mgmt) : (s.putMgmt x).wgt = s.wgt := rfl
@[simp] theorem State.putMgmt_srv (x : Mgmt) : (s.putMgmt x).srv = s.srv := rfl
@[simp] theorem State.putMgmt_pwr (x : Mgmt) : (s.putMgmt x).pwr = s.pwr := rfl
@[simp] theorem State.putMgmt_out (x : Mgmt) : (s.putMgmt x).out = s.out := rfl
@[simp] theorem State.putMgmt_free (x : Mgmt) : (s.putMgmt x).free = s.free := rfl
@[simp] theorem State.putMgmt_pending (x : Mgmt) : (s.putMgmt x).pending = s.pending := rfl

end Sys2Proof.Machine
end

