-- ==== Sys2Proof/Tests/Slice0.lean ====
section
/-!
SUPPORT. Tests of the model: well-formedness, single steps, and for every statement states that meet its hypotheses.
-/
namespace Sys2Proof.Tests

open Sys2Proof Sys2Proof.Machine

/-- A state with one listed site and a table of drawers. -/
def at_ (k : Nat) (x : Site) (ds : Tbl Drawer) : State := { State.reset with sites := [(k, x)], drawers := ds }
/-- A drawer in a state. -/
def live (st : DrawerSt) : Drawer := { (default : Drawer) with st := st }
def fork : Route := { dests := [.out 1, .staging], prio := 2, role := 0 }
def stage : Route := { dests := [.staging], prio := 2, role := 0 }

/-- A function with its keys that owns one live object of `n` near tiles at address 0. -/
def owned (n : Nat) : State := { State.reset with
  trust := { Trust.reset with provKeys := true }
  tier := { Tier.reset with
    st := [(1, 1)], frames := [(1, 4096)]
    objs := [(1, { (default : Obj) with st := .live, tiles := n })]
    leaf := (List.range n).map (fun i => (i, { (default : Leaf) with home := 1, frame := 1024 + i, object := 1 })) } }


/-! ### Well-formedness: a term for each check, which the check refuses -/

theorem test_illFormed_fabric :
    ([.windowIntervalStart 5, .creditReturn 0 1 1 12, .tokenSend 0 1 1 12, .stagingAccept 32 1 1, .pred 32 1 1, .sel 0 10 1,
      .shape 0 1 12 0, .claim 0 0 12 0, .fence 0 1 1 5, .pairWatchdogExpiry 0 1 1 4 0, .load 32 0 0 0 0 0 0, .load 0 4 0 0 0 0 0,
      .load 0 0 0 0 32 0 0, .chainedAdvance 32, .drainClear 0 1 1 5, .lutBankDrained 0 1 1 0 2, .edgeModeClearEffect 32, .claimAsk 0 4,
      .ftuTransferIssue 0 0 1 0 8] : List Instr).all (fun c => !wellFormed c) = true := by decide

theorem test_illFormed_tiersAndTasks :
    ([.settleReturn 0, .settleReturn 4, .moveStart 4, .tierFailure 4, .nearRetrain 16, .ddr5Retrain 12, .expanderFatal 8, .preempt 32,
      .planerShardStart 4 none, .thicketLookup 65536, .evictLeaf 64, .ringStopped 16384, .msixPendingSend 0 256, .msixPendingSend 64 0,
      .hdmInvalidateDone 256, .retrainDone 28 true, .dramTemperatureChange 32 true, .dimmLost 12] : List Instr).all
      (fun c => !wellFormed c) = true := by decide

theorem test_illFormed_linksAndPower :
    ([.flr 64, .ackTimeout 32, .laneLockLoss 0 5, .fabricWindowWrite 128 [], .ecatPortLinkChange 2 true, .dictWrite 0x8000 0 0 default,
      .dictWrite 0x1000 64 0 default, .domainIdleExpiry 65, .wakeSource (.link 32), .wakeSource (.cxl 47), .wakeSource (.timer [65]),
      .wakeSource (.demand 65), .thermtrip 160, .junctionThrottleReached 160 0, .refclkLoss 6, .reset 256, .subst 256 0, .recalDone 105] :
      List Instr).all (fun c => !wellFormed c) = true := by decide

/-- A command that names no unit is answered PROTOCOL (R16). -/
theorem test_illFormed_answered :
    (match exec (.reset 256) State.reset with | .next t => t.out == [.refused stProtocol] | _ => false) = true := by decide

/-! ### Layouts of bits and bytes that the spec works out -/

/-- The PRED token of the worked example in 03, SEQ 1: CTX 1, ARG 1. -/
theorem test_predToken : cOpc 0x09001001 = opcPred ∧ cCtx 0x09001001 = 1 ∧ cSeq 0x09001001 = 1 ∧ cArg 0x09001001 = 1 := by decide

/-- SUBST_MAP 0x8046: spare MXC (0, 0) stands in for site (4, 6), the others are unused (R70). -/
theorem test_substMap : substituted 0x8046 4 6 = true ∧ spareFor 4 6 = some 0 ∧ substEntry 0x8046 1 = 0 := by decide

/-- DRAWER_STATE 0x2543: ARMED, ACTIVE, FAULTED, IDLE (R76). -/
theorem test_drawerState :
    (at_ 0 default [(36, live .armed), (37, live .active), (38, live .faulted), (39, live .idle)]).value 0x2C04 10 = 0x2543 := by decide

/-- QUANTUM_DEFAULT lies at BAR2 offset 0x58_6008 and reads 0x1388 (R453). -/
theorem test_quantumDefault : 0x2C30 * 512 + 8 = 0x586008 ∧ State.reset.value 0x2C30 1 = 0x1388 := by decide

/-- The long-object port reads PRIO_LIMIT of function 63 through LONG_SEL 0x40_2C31 (R454). -/
theorem test_longObject : ({ State.reset with clk := { Clk.reset with phase := .service } } : State).dictRead 0x2C31 0x40
    = (0, [State.reset.obj 0x2C31 0x40 % 256]) := by decide

/-- Bytes are stored little-endian (R2). -/
theorem test_littleEndian : leBytes 0x01020304 4 = [4, 3, 2, 1] ∧ fieldAt [4, 3, 2, 1] 0 4 = 0x01020304 := by decide

/-- The tile of the worked example in 08: granule 58 of middle frame 9,216,035 on channel 6 at slot 196,608,751, of near
frame 3,145,733 on set 15, channel 3 of devices 15 to 19, at slot 50,331,731 (R212, R213). -/
theorem test_granules :
    let s : State := { State.reset with tier := { Tier.reset with channels := 0xFFF } }
    s.unitOf 2 9216035 58 = 16 + 6 ∧ s.granuleSlot 2 9216035 58 = 196608751 ∧ s.unitOf 1 3145733 58 = 15 ∧
    s.granuleSlot 1 3145733 58 = 50331731 ∧ setDevices 15 = ([15, 16, 17, 18, 19], 3) := by decide

/-! ### Arithmetic that the spec works out -/

/-- The MXFP8 row slot of the worked example in 05: scale code 0x80 and the codes of lanes 0, 2, 3, 4, 5 (R135). -/
theorem test_mxBlock :
    let v : Machine.Num → Machine.Num → Machine.Num → Machine.Num → List Machine.Num := fun a b c d => [a, .zero, b, c, d, .zero]
    let r := mxBlock 0x14 false (v (.fin false 2001 2) (.fin false 211 64) (.fin true 17 4096) (.fin true 1 16384))
    r.1 = 0x80 ∧ r.2.1.map (fun c => c.code) = [0x7E, 0, 0x3D, 0x81, 0x80, 0] ∧ (r.2.1.headD default).sat = true := by decide

/-- RSTD of row B of the worked example in 06: rsqrt(2^-20) is 1,024 exactly (R153). -/
theorem test_rsqrt : (special 0x06 (.fin false 1 (2 ^ 20)) (.fin false 1 1) 0x0A false false 0).1.code = 0x44800000 := by decide +kernel

/-- The canonical NaNs of FP32 and BF16, and the overflow of FP32 without SAT (R133, R134). -/
theorem test_nan : (fp32.convert false false .nan).code = 0x7FC00000 ∧ (bf16.convert false true .nan).code = 0x7FC0 ∧
    (fp32.convert false false (.fin false (2 ^ 200) 1)).code = 0x7F800000 := by decide

/-- Tiles 23 and 379 of the worked example in 08, and its tile counts (R179, R180). -/
theorem test_tiles :
    let sh : List ShapeEnt := [{ (default : ShapeEnt) with plan := 2048, tile := 256, kind := 1, order := 1 },
      { (default : ShapeEnt) with plan := 12160, tile := 160, kind := 1, order := 0 }, { (default : ShapeEnt) with plan := 4608, kind := 2, order := 0xFF }]
    tileTotal sh [1210, 12160, 4608] = 380 ∧ tileTotal sh [2300, 12160, 4608] = 684 ∧ tileTotal sh [0, 12160, 4608] = 0 ∧
    tileIndices sh [1210, 12160, 4608] 23 = [4, 3] ∧ tileIndices sh [1210, 12160, 4608] 379 = [75, 4] := by decide

/-- Draft lengths (R350): the step of the worked example in 13, and a floored one. -/
theorem test_adapt :
    let p : Params := { params (List.replicate 128 0) with draftMax := 4, draftMin := 1, zeroRun := 3, fallback := 0 }
    adapt p 4 0 2 = (3, 0, false, false) ∧ adapt p 4 0 4 = (4, 0, false, false) ∧ adapt p 4 2 0 = (1, 0, true, false) ∧
    adapt p 4 1 0 = (4, 2, false, false) := by decide

/-! ### Power: the worked example of 18 -/

/-- The machine of the example: 302 W fixed, 1,440 W dynamic, under a cap of 1,080 W. -/
def capped : State := { State.reset with pwr := { Pwr.reset with fixed := 302000, dyn := 1440000, capW := 1080 } }

theorem test_targetPoint : capped.bestPoint (capped.within 1080) = 4 ∧ capped.bestPoint (capped.within 1500) = 2 := by decide

/-- A = 134 at OP0, 156 at OP1, 184 at OP2, 220 at OP3, 256 at OP4. -/
theorem test_admission :
    (List.range 5).map (fun n => ({ capped with pwr := { capped.pwr with op := n } } : State).admitFor (capped.within 1080))
      = [134, 156, 184, 220, 256] := by decide

/-- Process data is lost after max(3 × 250, 2,000) µs (R457). -/
theorem test_lossTime : State.reset.lossTime = 2000000 := by decide

/-! ### Renewal: the worked example of 19 -/

/-- RENEW_CMD 0x10C resets bay 12: incarnation 0x07 becomes 0x08, and the drain bound is 82 µs. -/
theorem test_bayReset :
    let s : State := ({ State.reset with clk := { Clk.reset with phase := .service } } : State).putObj 0x2011 13 7
    (s.renewCmd 0x10C).obj 0x2011 13 = 8 ∧ (s.renewCmd 0x10C).part 12 = 3 ∧ s.drainBound 12 = 82000 := by decide

/-- Its self-test finds (4, 6): SUBST_MAP entry 0 shows USED, row 4, column 6, and SUBST_GEN counts 1. -/
theorem test_selfTest :
    let r := State.reset.selfTest 12 [12 * 120 + 4 * 12 + 6] [] false
    r.1 = true ∧ r.2.obj 0x2C02 13 = 0x8046 ∧ r.2.obj 0x2C03 13 = 1 := by decide

/-! ### Statuses, the state machine and the queue -/

/-- The status table's order picks the worst of several (R13). -/
theorem test_worst : worst stOk stPoison = stPoison ∧ worst stPoison stOk = stPoison ∧ worst stGone stGone = stGone := by decide

/-- A step takes the command at the front of the queue; an empty one ticks dcount where VAON33 is present. -/
theorem test_queue :
    let s : State := { State.reset with pending := [.vaon33Apply 3300, .vaon33Loss] }
    (match step s with
      | .next t => t.clk.vaon33 && t.pending == [.vaon33Loss] &&
        (match step { t with pending := [] } with | .next u => u.clk.dcount == 1 | _ => false)
      | _ => false) = true := by decide

/-- Memory at reset is in canonical form. -/
theorem test_reset_memory : Memory.wf State.reset.mem = true := rfl

/-- Writing the value an unlisted byte reads as removes the entry. -/
theorem test_memory_canonical : memPut (memPut [] 4 [1, 2]) 4 [0, 2] = memPut [] 5 [2] := by decide

/-- No row of the table gives bits: no word spells a command. -/
theorem test_noWords : decodeTableWord 32 0 = none ∧ State.reset.withFetchWord 32 0 = State.reset := by decide

theorem test_hyps_TickOfDcount : State.reset.pending = [] ∧ State.reset.clk.vaon33 = false ∧
    ({ State.reset with clk := { Clk.reset with vaon33 := true } } : State).clk.vaon33 = true := by decide

theorem test_hyps_CommandsComplete : wellFormed (.reset 255) = true ∧ wellFormed (.reset 256) = false := by decide

theorem test_hyps_QueueKept :
    (match exec .pwrAlertRelease { State.reset with pending := [.esmInit] } with | .next t => t.pending.length == 1 | _ => false) = true := by decide

theorem test_hyps_MemoryKept : Memory.wf (memPut [] 4 [1, 0, 2]) = true ∧
    (match step { State.reset with mem := memPut [] 4 [1, 0, 2], pending := [.pwrAlertRelease] } with | .next _ => true | _ => false) = true := by decide

theorem test_hyps_FloorsKept :
    let s : State := { State.reset with trust := { Trust.reset with svnFloor := 0x0503 }, pending := [.vaon33Loss] }
    FloorAtLeast 0 3 s ∧ FloorAtLeast 1 5 s ∧ (match step s with | .next _ => true | _ => false) = true := by
  refine ⟨?_, ?_, ?_⟩ <;> simp only [FloorAtLeast] <;> decide

theorem test_hyps_WindowsOfTime :
    let s : Nat → State := fun n => { State.reset with clk := { Clk.reset with dcount := n } }
    (s 999999999).clk.dcount < tget (s 0).clk.winStart 4 + max 1 (tgetD (s 0).clk.winLen 4 ((s 0).winLength 4)) ∧
    tget (s 0).clk.winStart 4 + max 1 (tgetD (s 0).clk.winLen 4 ((s 0).winLength 4)) ≤ (s 1000000000).clk.dcount := by decide

theorem test_hyps_TokensArrive :
    let t : DTok := mkD 5 3 true true 4095
    let c : CTok := mkC 1 3 0 0
    let rsv : CTok := mkC 13 3 0 0
    let y : Site := { (default : Site) with
      dat := [(4, { wire := [(false, t)], due := 1 })], expIn := [(19, 4095)], ctl := [(4, { wire := [(false, rsv)], due := 8 })]
      toUnit := [(0, { due := 1 })], toUnitC := [(0, { due := 2 })] }
    let z : Site := { (default : Site) with dat := [(4, { wire := [(true, t)] })], ctl := [(4, { wire := [(false, c)] })] }
    let f : Site := { z with faulted := [(3, 5)] }
    let s := at_ (siteKey 31 118) y [(127, live .loading)]
    let s2 := at_ (siteKey 31 118) z [(127, live .faulted)]
    let s3 := at_ (siteKey 31 118) z []
    siteOk 31 9 10 = true ∧ siteNo 9 10 = 118 ∧ 4 < 5 ∧ (s.site 31 118) = y ∧ (s2.site 31 118) = z ∧ (s3.site 31 118) = z ∧
    (takeWire (y.dchan 4) none).map (fun e => e.1) = some t ∧ (takeWire (z.dchan 4) none).map (fun e => e.1) = some t ∧
    (takeWire (y.dchan 4) (some t)).isSome = true ∧ (takeWire (y.cchan 4) (some c)).isSome = true ∧ tfind y.faulted t.ctx = none ∧
    (s.drawer 31 t.ctx).st ≠ .empty ∧ tget y.expIn (4 * 4 + t.ctx) = t.seq ∧
    tget z.expIn (4 * 4 + t.ctx) ≠ t.seq ∧ (s2.drawer 31 t.ctx).st ≠ .empty ∧ (s3.drawer 31 t.ctx).st = .empty ∧
    (takeWire (f.dchan 4) none).map (fun e => e.1) = some t ∧ (match decodeData t 0 4 0 0 with | .ok _ => true | .error _ => false) = true ∧ (tfind f.faulted t.ctx).isSome = true ∧ (tfind f.faulted (cCtx c)).isSome = true ∧
    (takeWire (z.cchan 4) none).map (fun e => e.1) = some c ∧ tfind z.faulted (cCtx c) = none ∧
    opcReserved (cOpc c) = false ∧ s2.badDrain 31 118 4 c = false ∧ (takeWire (y.cchan 4) none).map (fun e => e.1) = some rsv ∧
    opcReserved (cOpc rsv) = true ∧ s3.edging 31 = false ∧
    0 < (y.dchan 4).due ∧ 0 < (y.cchan 4).due ∧ 0 < y.unitD.due ∧ 0 < y.unitC.due := by decide

theorem test_hyps_TokensLeave :
    let t : DTok := mkD 5 0 false true 7
    let c : CTok := mkC 1 0 7 0
    let d : Drawer := { live .active with routes := [(134, stage), (139, stage), (171, fork), (176, fork)] }
    let x : Site := { (default : Site) with
      dat := [(4, { queue := [t] })], ctl := [(4, { queue := [c] })], expPair := [(0, 7)], pipe := [(2, t)], owed := [(4, c)] }
    let xd : Site := { x with ctl := [], expPair := [(0, 7)] }
    let xc : Site := { x with dat := [] }
    let s := at_ (siteKey 0 13) x [(0, d)]
    let sd := (at_ (siteKey 0 13) xd [(0, d)]).putSite 0 13 xd
    let sc := (at_ (siteKey 0 13) xc [(0, d)]).putSite 0 13 xc
    let y : Site := { (default : Site) with dat := [(1, { queue := [t] })], ctl := [(1, { queue := [c] })] }
    let s2 := at_ (siteKey 0 17) y [(0, d)]
    let u := s.putSite 0 13 x
    let sl := u.seal 0 13 x (u.pairOf 0 13 (0, 7) [9, 4])
    siteOk 0 1 1 = true ∧ siteNo 1 1 = 13 ∧ siteOk 0 1 5 = true ∧ siteNo 1 5 = 17 ∧
    s2.headRouteD 0 17 1 = some (t, fork) ∧ s2.outranked 0 17 true 1 fork.prio fork.lanes = false ∧
    (goAll (fun st k => st.goD 0 17 1 t k) fork.dests s2).isSome = true ∧
    s2.headRouteC 0 17 1 = some (c, fork) ∧ cWave c = false ∧ s2.outranked 0 17 false 1 fork.prio fork.lanes = false ∧
    (goAll (fun st k => st.goC 0 17 1 c k) fork.dests s2).isSome = true ∧
    s.laneCreditD 0 13 2 = true ∧ s.outranked 0 13 true 5 0 [2] = false ∧ s.laneCreditC 0 13 4 c = true ∧ x.direct = none ∧
    sd.acceptC 0 13 xd = none ∧ sd.acceptD 0 13 xd none = [4] ∧ sd.halfAt 0 13 4 = some (0, 7) ∧
    (sd.place 0 13 xd 0 7 (fun sl => sd.addHalf 0 13 sl 4)).isSome = true ∧
    sc.acceptC 0 13 xc = some 9 ∧ sc.partners 0 13 xc 9 = [] ∧ sc.acceptD 0 13 xc (some 9) = [] ∧
    sc.halfAt 0 13 9 = some (0, 7) ∧ (sc.place 0 13 xc 0 7 (fun sl => sc.addHalf 0 13 sl 9)).isSome = true ∧
    u.acceptC 0 13 x = some 9 ∧ u.partners 0 13 x 9 = [4] ∧ u.acceptD 0 13 x (some 9) = [4] ∧
    u.halfAt 0 13 9 = some (0, 7) ∧
    (u.putSite 0 13 { (x.popLane 9).popLane 4 with direct := some sl }).choose 0 13 = some sl := by decide

theorem test_hyps_GovernedTokens :
    let t : DTok := mkD 5 2 false true 7
    let pr : CTok := mkC 2 2 7 1
    let se : CTok := mkC 3 2 7 0
    let sw : CTok := mkC 8 2 7 1
    let fa : CTok := mkC 10 2 0 0x15
    let slot : CTok → List (Nat × DTok) → Slot := fun c ds => { ctx := 2, seq := 7, ctl := some c, data := ds, since := 0, done := some 0 }
    let bypass : Route := { stage with role := 1 }
    let d : Drawer := { live .active with routes := [(130, stage), (131, bypass), (135, stage), (136, stage)] }
    let x : CTok → List (Nat × DTok) → Site := fun c ds => { (default : Site) with slots := [slot c ds], expPair := [(2, 7)] }
    let sp : Nat → CTok → List (Nat × DTok) → State := fun n c ds => at_ (siteKey 31 n) (x c ds) [(126, d)]
    let q : List Nat → Site := fun sin => { (default : Site) with
      ctl := [(0, { queue := [sw] }), (1, { queue := [fa] })], expPair := [(2, 7)], swIn := sin
      slots := [{ slot pr [] with ctl := none, ctx := 3 }] }
    let w : List Nat → State := fun sin => at_ (siteKey 31 13) (q sin) [(126, d)]
    siteOk 31 1 1 = true ∧ siteNo 1 1 = 13 ∧ siteOk 31 0 2 = true ∧ siteNo 0 2 = 2 ∧ siteOk 31 0 1 = true ∧ siteNo 0 1 = 1 ∧
    siteKind 1 1 = .mxc ∧ siteKind 0 2 = .fnc ∧ siteKind 0 1 = .ftu ∧ cOpc pr = opcPred ∧ cOpc se = opcSel ∧
    (sp 13 pr [(0, t)]).choose 31 13 = some (slot pr [(0, t)]) ∧
    (sp 2 pr [(0, t)]).choose 31 2 = some (slot pr [(0, t)]) ∧ ((sp 2 pr [(0, t)]).drawer 31 2).cfg 2 1024 ≠ 5 ∧
    (sp 1 pr [(0, t)]).choose 31 1 = some (slot pr [(0, t)]) ∧
    (sp 13 se [(0, t), (1, t)]).choose 31 13 = some (slot se [(0, t), (1, t)]) ∧
    d.route 13 0 = some stage ∧ d.route 13 1 = some bypass ∧
    (w []).headC 31 13 0 = some sw ∧ cOpc sw = opcSwitch ∧ (w []).seqDue 31 13 0 sw = true ∧
    (d.inLanes 13).all (fun l => (dedup' ([] ++ [0 * 4 + 2])).contains (l * 4 + 2)) = false ∧
    (d.inLanes 13).all (fun l => (dedup' ([6] ++ [0 * 4 + 2])).contains (l * 4 + 2)) = true ∧
    (w [6]).unitDry 31 13 2 = true ∧ ((w []).site 31 13).swArg = [] ∧
    (((w []).site 31 13).cchan 1).queue = [fa] ∧ cOpc fa = opcFault ∧
    (w []).serves 31 (cCtx fa) = true ∧
    (w []).slotFull 31 13 { slot pr [] with ctl := none, ctx := 3 } = false ∧
    (let v := { w [] with bays := [(31, { (default : Bay) with active := 3 })], clk := { Clk.reset with fc := 2 ^ 40 } }
     v.watches 31 3 = true ∧ v.obj 0x2C01 1 < v.fclkNow - 0) := by decide

theorem test_hyps_StandaloneTokens :
    let tok : Nat → Nat → CTok := fun o a => mkC o 3 0 a
    let x : Site := { (default : Site) with
      ctl := [(0, { queue := [tok 4 5] }), (1, { queue := [tok 5 0x800] }), (2, { queue := [tok 5 2] }), (4, { queue := [tok 7 0] })] }
    let c : Claim := { ix := 2, tile := 0, idx := [], lastBy := [], freed := false }
    let w : Xfer := {
      acc := 0, unit := 480 * 31 + 7, stream := 0, read := false, addr := 0, len := 1, claim := 0, runEnd := 0,
      last := false, since := 0, done := none }
    let s := { at_ (siteKey 31 14) x [(127, live .active)] with claims := [(127, [c])] }
    let s2 := { s with xfers := [w] }
    let sl : Slot := { ctx := 3, seq := 0, ctl := some (mkC 1 3 0 0), data := [(0, mkD 1 3 false true 0)], since := 0, done := some 0 }
    let m := { at_ (siteKey 31 13) { (default : Site) with slots := [sl] } [(127, live .armed)] with clk := { Clk.reset with fc := 2 ^ 40 } }
    siteOk 31 1 2 = true ∧ siteNo 1 2 = 14 ∧ s.dueToken 31 14 0 opcShape = some (tok 4 5) ∧
    s.dueToken 31 14 1 opcClaim = some (tok 5 0x800) ∧ bitOf (cArg (tok 5 0x800)) 11 = true ∧
    s.dueToken 31 14 2 opcClaim = some (tok 5 2) ∧ bitOf (cArg (tok 5 2)) 11 = false ∧
    ((List.range (s.claimsOf 31 3).length).zip (s.claimsOf 31 3)).find? (fun e => e.2.ix == cArg (tok 5 2) % 4
        && !e.2.freed && !(s.srcOf 31 14 3).claims.contains e.1) = some (0, c) ∧
    s.dueToken 31 14 4 opcFence = some (tok 7 0) ∧ s.xfers = [] ∧ s2.dueToken 31 14 4 opcFence = some (tok 7 0) ∧
    (w.read = false ∧ w.unit / 480 = 31 ∧ w.unit % 4 = cCtx (tok 7 0)) ∧
    siteOk 31 1 1 = true ∧ m.goPair 31 13 = some (sl, 0) ∧ siteKind 1 1 = .mxc ∧ bits 0 11 10 = 0 ∧ sl.live = true ∧
    blockReady ((m.drawer 31 3).member 13) (m.mx 31 13 3) (bits 0 9 5) = false ∧
    m.obj 0x2C01 1 < m.fclkNow - sl.since := by decide

theorem test_hyps_MatrixPairs :
    let arg : Nat → CTok := fun a => mkC 1 3 0 a
    let sl : Nat → Bool → Slot := fun a pv => {
      ctx := 3, seq := 0, ctl := some (arg a), data := [(0, mkD 1 3 false pv 0)], since := 0, done := some 0 }
    let o := recOff 13 1025
    let p : Nat → Nat → Drawer := fun blocks rows => { live .armed with img :=
      [(259, 1), (832, 1), (840, 0x11), (841, BitVec.ofNat 8 blocks), (o, 6), (o + 3, BitVec.ofNat 8 rows)] }
    let m : Nat → Bool → Drawer → State := fun a pv d => at_ (siteKey 31 13) { (default : Site) with slots := [sl a pv] } [(127, d)]
    let full : State := { m 31 true (p 1 32) with mxc := [(unitKey 31 13 3, { (default : Mxc) with full := [(0, 1)] })] }
    siteOk 31 1 1 = true ∧ siteNo 1 1 = 13 ∧ siteKind 1 1 = .mxc ∧
    (m 0 false (p 1 1)).goPair 31 13 = some (sl 0 false, 0) ∧ (sl 0 false).live = false ∧ (sl 0 true).live = true ∧
    (m 32 true (p 1 1)).goPair 31 13 = some (sl 32 true, 32) ∧ (p 1 1).member 13 = some ⟨0, 0, 1, 0, 0, 0, true⟩ ∧
    (mxcClass ((p 1 1).cfg 13 1025)).blocks = 32 ∧ bits 31 4 0 < (p 1 32).cfg 13 1028 ∧ bits 31 9 5 = 0 ∧
    isMx ((p 1 32).cfg 13 1024) = false ∧ full.goPair 31 13 = some (sl 31 true, 31) ∧
    blockReady (some ⟨0, 0, 1, 0, 0, 0, true⟩) (full.mx 31 13 3) 0 = true ∧
    blockReady (some ⟨0, 0, 1, 0, 0, 0, true⟩) ((m 31 true (p 1 32)).mx 31 13 3) 0 = false ∧
    ((m 31 true (p 1 32)).mx 31 13 3).imp = [] ∧ (p 1 1).cfg 13 1028 ≤ bits 1025 4 0 ∧
    (tfind ({ (default : Mxc) with imp := [(0, 1)] }).imp (bits 1024 4 0)).isSome = true ∧
    (m 1024 true (p 1 32)).goPair 31 13 = some (sl 1024 true, 1024) ∧ bitOf 1024 10 = true ∧ bitOf 1024 11 = false ∧
    (m 2079 true (p 1 32)).goPair 31 13 = some (sl 2079 true, 2079) ∧ bitOf 2079 11 = true ∧ bitOf 2079 10 = false ∧
    (mxcClass ((p 1 32).cfg 13 1025)).narrow = true ∧ bits 2079 4 0 = 31 ∧ (mxcClass 6).narrow = true ∧
    (m 3072 true (p 1 32)).goPair 31 13 = some (sl 3072 true, 3072) := by decide

theorem test_hyps_MatrixDrains :
    let tok : Nat → CTok := fun a => mkC 6 3 0 a
    let o := recOff 13 1025
    let d : Nat → Drawer := fun fmt => { live .armed with img := [(o, 6), (o + 1, BitVec.ofNat 8 fmt), (o + 3, 1)] }
    let x : Site := { (default : Site) with
      ctl := [(0, { queue := [tok 0] }), (1, { queue := [tok 1] }), (2, { queue := [tok 2] }), (4, { queue := [tok 3] })] }
    let s : Nat → State := fun fmt => at_ (siteKey 31 13) x [(127, d fmt)]
    siteOk 31 1 1 = true ∧ siteNo 1 1 = 13 ∧ siteKind 1 1 = .mxc ∧ cOpc (tok 0) = opcDrain ∧
    (s 6).headC 31 13 0 = some (tok 0) ∧ (s 6).seqDue 31 13 0 (tok 0) = true ∧ bits (cArg (tok 0)) 3 0 = 0 ∧
    (s 6).headC 31 13 1 = some (tok 1) ∧ (s 6).seqDue 31 13 1 (tok 1) = true ∧ bits (cArg (tok 1)) 3 0 = 1 ∧
    (s 31).headC 31 13 2 = some (tok 2) ∧ (s 31).seqDue 31 13 2 (tok 2) = true ∧ bits (cArg (tok 2)) 3 0 = 2 ∧
    (d 31).cfg 13 1026 = 31 ∧ (mxcClass ((d 31).cfg 13 1025)).narrow = true ∧ (d 6).cfg 13 1026 ≠ 31 ∧
    (s 6).headC 31 13 4 = some (tok 3) ∧ (s 6).seqDue 31 13 4 (tok 3) = true ∧ bits (cArg (tok 3)) 3 0 = 3 := by decide

theorem test_hyps_FunctionPairs :
    let t : CTok := mkC 1 3 4095 0
    let sl : Bool → Slot := fun pv => {
      ctx := 3, seq := 4095, ctl := some t, data := [(0, mkD 1 3 false pv 4095), (1, mkD 1 3 false true 4095)]
      since := 0, done := some 0 }
    let d : Nat → Drawer := fun op => { live .armed with img := [(recOff 2 1024, BitVec.ofNat 8 op), (recOff 2 1025, 6)] }
    let m : Nat → State := fun op => at_ (siteKey 31 2) { (default : Site) with slots := [sl true], expPair := [(3, 4095)] } [(127, d op)]
    let l : State := { m 6 with fnc := [(unitKey 31 2 3, { (default : Fnc) with lut1 := { st := .live, gen := 0, count := 1, toks := [] } })] }
    siteOk 31 0 2 = true ∧ siteNo 0 2 = 2 ∧ siteKind 0 2 = .fnc ∧ cOpc t = opcGo ∧ bits (cArg t) 11 10 = 0 ∧ bits (cArg t) 9 0 = 0 ∧
    (∀ op ∈ List.range 13, (m op).choose 31 2 = some (sl true) ∧ ((m op).drawer 31 3).cfg 2 1024 = op) ∧
    l.choose 31 2 = some (sl true) ∧ (l.fx 31 2 3).liveLut.isSome ∧ (m 6).fx 31 2 3 = default ∧
    ((m 6).fx 31 2 3).liveLut = none ∧ (sl true).live = true ∧ (sl false).live = false := by decide

theorem test_hyps_FunctionResults :
    let t : CTok := mkC 1 3 0 0
    let tok : DTok := mkD 0x3F 3 false true 0
    let sl : Slot := { ctx := 3, seq := 0, ctl := some t, data := [(0, tok), (1, tok)], since := 0, done := some 0 }
    let o := recOff 2 1024
    let d : Nat → Nat → Drawer := fun op len => { live .armed with img :=
      [(o, BitVec.ofNat 8 op), (o + 1, 4), (o + 2, 4), (o + 5, 8), (o + 6, 31), (o + 8, BitVec.ofNat 8 len)] }
    let m : Nat → Nat → State := fun op len =>
      at_ (siteKey 31 2) { (default : Site) with slots := [sl] } [(127, d op len)]
    siteOk 31 0 2 = true ∧ siteNo 0 2 = 2 ∧ siteKind 0 2 = .fnc ∧ cOpc t = opcGo ∧ bits (cArg t) 11 10 = 0 ∧ bits (cArg t) 9 0 = 0 ∧
    sl.live = true ∧ ((m 1 33).fx 31 2 3).pack = [] ∧ ((m 1 33).fx 31 2 3).packLive = false ∧ (sl.on 0).last = false ∧
    (∀ op ∈ [1, 2, 3, 9], (m op 33).choose 31 2 = some sl ∧ ((d op 33).fncCfg 2).op = op ∧ 0 < fmtElems ((d op 33).fncCfg 2).inFmt ∧
      fmtElems ((d op 33).fncCfg 2).outFmt = fmtElems ((d op 33).fncCfg 2).inFmt ∧
      0 + fmtElems ((d op 33).fncCfg 2).inFmt < (m op 33).rowLength 31 2 3 ((d op 33).fncCfg 2)) ∧
    (∀ op ∈ [7, 10], (m op 32).choose 31 2 = some sl ∧ ((d op 32).fncCfg 2).op = op ∧
      (rowStep default ((m op 32).rowLength 31 2 3 ((d op 32).fncCfg 2)) (fmtElems 4) false).ends = true) := by decide

theorem test_hyps_LookupBanks :
    let sl : Nat → Nat → Slot := fun a w => {
      ctx := 3, seq := 0, ctl := some (mkC 1 3 0 a), data := [(0, mkD (BitVec.ofNat 256 w) 3 false true 0)], since := 0, done := some 0 }
    let o := recOff 2 1024
    let d : Drawer := { live .armed with img := [(o, 6), (o + 12, 2)] }
    let lut : LutSt → Lut := fun st => { st := st, gen := 5, count := 256, toks := [] }
    let fn : LutSt → LutSt → Tbl Fnc := fun a b => [(unitKey 31 2 3, { (default : Fnc) with lut0 := lut a, lut1 := lut b })]
    let fl : Nat → CTok := fun a => mkC 9 3 0 a
    let x : Site := { (default : Site) with
      ctl := [(0, { queue := [fl 0x51] }), (1, { queue := [fl 0x61] })], flipAt := [(3, 0)] }
    let m : Nat → Nat → LutSt → LutSt → State := fun a w p q =>
      { at_ (siteKey 31 2) { x with slots := [sl a w] } [(127, d)] with fnc := fn p q }
    let g : Nat → Nat → LutSt → LutSt → State := fun a w p q =>
      { at_ (siteKey 31 2) { (default : Site) with slots := [sl a w] } [(127, d)] with fnc := fn p q, clk := { Clk.reset with fc := 2 ^ 40 } }
    let w := 2 ^ 24 + 256 * 256 + 255
    siteOk 31 0 2 = true ∧ siteNo 0 2 = 2 ∧ siteKind 0 2 = .fnc ∧
    (g 0xC00 w .live .ready).goPair 31 2 = some (sl 0xC00 w, 0xC00) ∧ (sl 0xC00 w).live = true ∧
    ((sl 0xC00 w).on (d.fncCfg 2).in1).pay.toNat = w ∧ (d.fncCfg 2).op = 6 ∧ (d.fncCfg 2).lutKind = 2 ∧ bits 0xC00 11 10 = 3 ∧
    w < 2 ^ 25 ∧ bits w 23 17 = 0 ∧ bits w 16 8 = 256 ∧ bits w 24 24 = 1 ∧
    (g 0x87F 0 .live .filling).goPair 31 2 = some (sl 0x87F 0, 0x87F) ∧ bits 0x87F 11 10 = 2 ∧ bits 0x87F 6 0 = 127 ∧
    cdiv (256 * 16) 32 = 128 ∧ (m 0 0 .live .ready).headC 31 2 0 = some (fl 0x51) ∧ cOpc (fl 0x51) = opcFlip ∧
    (m 0 0 .live .ready).seqDue 31 2 0 (fl 0x51) = true ∧ bits (cArg (fl 0x51)) 3 0 = 1 ∧ bits (cArg (fl 0x51)) 11 4 = 5 ∧
    (m 0 0 .live .ready).headC 31 2 1 = some (fl 0x61) ∧ (m 0 0 .live .ready).seqDue 31 2 1 (fl 0x61) = true ∧
    bits (cArg (fl 0x61)) 11 4 ≠ 5 ∧ tfind ((m 0 0 .live .ready).site 31 2).flipAt 3 = some 0 ∧
    ((m 0 0 .live .ready).bay 31).frozen = none ∧ (g 0 0 .live .ready).obj 0x2C01 1 < (g 0 0 .live .ready).fclkNow - 0 ∧
    (((m 0 0 .live .draining).fx 31 2 3).lut 1).st = .draining := by decide

theorem test_hyps_DrawerOperations :
    let pend : Drawer := { live .idle with load := some ⟨0, 0, 0, 0, 0, 0, false⟩ }
    let s : List (Nat × Drawer) → State := fun ds => { State.reset with
      drawers := ds, pwr := { Pwr.reset with doms := [(31, { st := .on })] } }
    let other : State := { s [] with jig := { Jig.reset with tasks := [(1, { (default : Task) with func := 5 })] } }
    let e : State := { s [] with dict := { Dict.reset with vals := [(objKey 0x2C10 1, 2 ^ 31)] } }
    (s []).domOn 31 = true ∧ (s []).reusable 31 0 31 0 0 = none ∧ ((s []).newBays 31 0 0).length ≤ 1 ∧
    (s []).taskFunc 0 = ((s []).bay 31).func ∧ ((s []).drawer 31 3).bays ≤ 1 ∧ other.taskFunc 1 ≠ (other.bay 31).func ∧
    (∀ k < 4, other.clearable 31 k = true) ∧ other.reusable 31 0 31 1 0 = none ∧
    (∀ j ∈ (live .idle).bayList, ((s [(3, live .idle)]).drawer j 3).st = .idle) ∧ (s []).edging 31 = false ∧ ((s []).drawer 31 3).load = none ∧ ((s []).drawer 31 3).st = .empty ∧
    e.domOn 31 = true ∧ e.edging 31 = true ∧ ((s [(127, pend)]).drawer 31 3).load.isSome = true ∧
    ((s [(127, live .loading)]).drawer 31 3).st = .loading ∧ ((s [(127, live .idle)]).drawer 31 3).st = .idle ∧
    (∀ k < 4, ((s [(127, live .idle)]).drawer 31 k).st ≠ .armed) ∧ ((s [(124, live .armed)]).drawer 31 0).st = .armed ∧
    ((s [(124, live .active), (127, live .armed)]).activateBay 31 3 31 0).isSome = true ∧
    ((s [(124, live .active), (127, live .armed)]).bay 31).active = 0 ∧ (s [(127, live .faulted)]).bayCount 31 3 = 0 ∧
    (at_ (siteKey 31 5) { (default : Site) with pipe := [(0, mkD 0 3 false true 0)] } [(127, live .idle)]).bayCount 31 3 ≠ 0 := by
  decide

theorem test_hyps_LoadProcedure :
    let q : LoadReq := { image := 0, digestAt := 524288, b0 := 31, task := 7, sect := 0, since := 0, started := true }
    let w : LoadReq := { q with started := false }
    let s : LoadReq → State := fun q => { owned 9 with
      drawers := [(127, { live .faulted with load := some q })]
      jig := { Jig.reset with
        tasks := [(7, { (default : Task) with func := 0 })]
        layouts := [(0, { (default : Layout) with sects := [default] })] } }
    let late : State := { s w with clk := { Clk.reset with fc := 2 ^ 50 } }
    ((s w).drawer 31 3).load = some w ∧ (s w).quiescent 31 3 = true ∧ ((s q).drawer 31 3).load = some q ∧ (s q).comingNear 0 = false ∧
    (s q).harm 0 [] = s q ∧ late.obj 0x2C06 1 < late.fclkNow - w.since ∧
    ((s { q with image := 2 ^ 40 }).readDev 0 (2 ^ 40) 491520).1 = stWindow ∧ worst stWindow stOk ≠ stOk ∧
    ((s q).readDev 0 0 491520).1 = stOk ∧ (((s q).readDev 0 0 491520).2.2.readDev 0 524288 32).1 = stOk ∧
    ((((s q).readDev 0 0 491520).2.2.readDev 0 524288 32).2.2.sectOf 7 0).isSome = true := by
  decide +kernel

theorem test_hyps_SectionAdvance :
    let i : Inst := { (default : Inst) with t := 2, fill := 3, perTile := 4, drain := 5, p := 2, quiet := [30], bays := 3 }
    let j : Inst := { i with p := 1, now := true }
    let z : Inst := { i with pre := .restoring }
    let o := recOff 1 1
    let d : DrawerSt → Drawer := fun st => { live st with b0 := 31, img := [(o, 1)] }
    let s : Inst → DrawerSt → State := fun i st => { State.reset with
      drawers := [(127, d st)], insts := [(127, i)], src := [(unitKey 31 1 3, { (default : Src) with exhausted := true })]
      bays := [(31, { (default : Bay) with active := 3 })] }
    let c : State := { s i .armed with bays := [(31, { (default : Bay) with advWait := some 0 })] }
    let q : State := { s { i with bays := 2 } .faulted with drawers := [(127, { d .active with img := [] })] }
    let r : State := { s i .faulted with drawers := [(127, { d .idle with img := [] })], bays := [] }
    tfind (s i .active).insts (31 * 4 + 3) = some i ∧ (i.pre = .run ∧ i.p + 1 = i.due ∧ i.now = false ∧ i.latch = none) ∧
    topCause ((s i .active).asserted 127 i) = none ∧ ¬(j.p + 1 = j.due ∧ j.now = false) ∧ j.pre = .run ∧
    z.pre = .restoring ∧ z.now = false ∧ topCause ((s z .active).asserted 127 z) = some 4 ∧
    siteOk 31 0 1 = true ∧ siteNo 0 1 = 1 ∧ (s i .active).inst 31 3 = some i ∧ i.t ≠ 0 ∧ (d .active).isSource 1 = true ∧
    (s i .active).mayStart 31 3 = true ∧ 3 ∉ ((s i .active).site 31 1).swOut ∧ (s i .active).xfers = [] ∧
    ((s i .active).site 31 1).pipe = [] ∧ ((s i .active).srcOf 31 1 3).exhausted = true ∧
    ((s i .active).srcOf 31 1 3).claims.length ≤ (d .active).tilesSent 1 ((s i .active).srcOf 31 1 3) ∧
    q.inst 31 3 = some { i with bays := 2 } ∧ (q.drawer 31 3).st = .active ∧ (q.bay 31).active = 3 ∧ q.quiescent 31 3 = true ∧
    31 ∉ i.quiet ∧ (r.drawer 31 3).st = .idle ∧ (r.bay 31).active ≠ 3 ∧ r.quiescent 31 3 = true ∧ r.inst 31 3 = some i ∧
    (c.bay 31).advWait = some 0 ∧ (c.bay 31).frozen = none ∧ (c.drawer 31 3).st = .armed ∧ (∀ k < 3, (c.drawer 31 k).st ≠ .armed) ∧
    (c.activateBay 31 3 31 0).isSome = true := by decide

theorem test_hyps_EdgeMode :
    let s : State := State.reset
    let e : State := { s with dict := { s.dict with vals := [(objKey 0x2C10 1, 2 ^ 31)] }, bays := [(31, { (default : Bay) with edgeClear := true })] }
    bitOf (2 ^ 31) 31 = true ∧ bitOf (s.obj 0x2C10 1) 31 = false ∧ (∀ d < 4, (s.drawer 31 d).st = .empty) ∧
    tget s.jig.held 31 = none ∧ (({ s with drawers := [(127, live .idle)] } : State).drawer 31 3).st ≠ .empty ∧
    bitOf 0 31 = false ∧ bitOf (e.obj 0x2C10 1) 31 = true ∧ (e.bay 31).edgeClear = true := by decide

theorem test_hyps_PacerAndTally :
    let i : Inst := { (default : Inst) with t := 2, fill := 3, p := 2, served := 31, tally := 255, waiting := [0] }
    let d : Drawer := { live .active with b0 := 31, img := [(262, 1)] }
    let s : Inst → State := fun i => { State.reset with
      drawers := [(127, d)], insts := [(127, i)], tallies := [(255, { used := true, next := 1, t := 2, key := 0 })]
      bays := [(31, { (default : Bay) with active := 3 })], clk := { Clk.reset with fc := 255000 }
      pwr := { Pwr.reset with admitN := 256 }, ren := { Ren.reset with active := 100 } }
    let x : Inst := { i with waiting := [] }
    (s x).inst 31 3 = some x ∧ (s x).mayStart 31 3 = true ∧ x.pre = .run ∧ d.entries = 0 ∧
    ((s x).srcOf 31 (siteOfByte (d.imgByte 261)) 3).exhausted = false ∧ (31 - d.b0) ∉ x.waiting ∧ (s x).unfinished 31 3 ≤ d.prefetch ∧
    (s x).gateOpen = true ∧ (s i).tallyTurn (i.tally / 64) 31 = true ∧ (s i).carcassUp (31 / 4) (8 + i.tally / 64) = true ∧
    i.away = false ∧ d.spanDev = true ∧ (tget (s { i with tally := 300 }).tallies 300).next = 0 ∧
    tfind (s i).insts (31 * 4 + 3) = some i ∧ (i.asked = false ∧ i.exhausted = false ∧ i.closed = false ∧ i.lead.length < 2) ∧
    (tget (s i).tallies i.tally).next < (tget (s i).tallies i.tally).t ∧ (tget State.reset.tallies i.tally).t ≤ (tget State.reset.tallies i.tally).next ∧
    (i.now = false ∧ i.p + 1 = i.due) ∧ nextOffset i.waiting i.served = some 0 ∧
    freeEntry ((s i).claimsOf (31 + 0) 3) = some 0 := by decide
/-- A CLAIM of an instance finds the one link that is up. -/
theorem test_hyps_PacerAndTally_remote :
    let v : State := { State.reset with
      dict := { Dict.reset with vals := [(objKey 0x2610 2, 2 ^ 32)] }
      link := { Links.reset with links := [(0, { (default : Link) with st := .up })] } }
    ∃ u, v.sendReq { type := 4, dest := 1, src := 0, arg := 0 } 127 (.claim 127) 31 1 = some u ∧
      u.link.reqs.length ≠ v.link.reqs.length := by
  intro v
  have h : v.routeLinks 1 = [0] := by decide
  have hr : v.route 1 v.faddr 127 = some 0 := by simp [State.route, h, Nat.mod_one]
  have hl : v.link.reqs = [] := rfl
  simp [State.sendReq, hr, State.roomHeld, hl, poolSize, State.queueMsg, State.putLnk]

theorem test_hyps_FetchUnits :
    let o := recOff 1 1024
    let dr : Drawer := { live .active with b0 := 31, func := 0, task := 7, img :=
      [(256, 1), (320, 64), (recOff 1 1, 1), (o, 1), (o + 1, 255), (o + 10, 4), (o + 24, 32), (o + 28, 1)] }
    let x : Src := { (default : Src) with frags := [64, 0, 0], claims := [0] }
    let c : Claim := { ix := 0, tile := 0, idx := [], lastBy := [], freed := false }
    let q : Inst := { (default : Inst) with pre := .run }
    let s : Nat → State := fun len => { State.reset with
      drawers := [(127, dr)], src := [(unitKey 31 1 3, x)], claims := [(127, [c])], insts := [(127, q)]
      jig := { Jig.reset with tasks := [(7, { (default : Task) with opnds := [(4096, len)] })] }
      dict := { Dict.reset with vals := [(objKey 0x2C20 1, 64)] }, bays := [(31, { (default : Bay) with active := 3 })]
      clk := { Clk.reset with fc := 255000 }, pwr := { Pwr.reset with admitN := 256 } }
    let ps := tilePieces (dr.stream 1 0) dr.shapes ((s 32).ftuExtents 31 1 3) c.idx 4096
    let e : Xfer := { acc := 9, unit := unitKey 31 1 3, stream := 0, read := true, addr := 4096, len := 32, claim := 0, runEnd := 32, last := true, since := 0, done := none }
    let a : Nat → Acc := fun st => { (default : Acc) with id := 9, who := .ftu 31 (unitKey 31 1 3) 0, st := .done, status := st }
    let r : Nat → State := fun st => { s 32 with xfers := [e], tier := { Tier.reset with accs := [a st] } }
    let w : State := { s 32 with clk := Clk.reset, bufs := [(unitKey 31 14 3, [{ ix := 0, toks := 1, last := true, live := [true], left := none }])] }
    siteOk 31 0 1 = true ∧ siteNo 0 1 = 1 ∧ ((s 32).ftuStep 31 1 3 0).map (fun e => (e.tile, e.place, e.claim, e.slot)) = some (0, 0, 0, (4096, 32)) ∧
    ((s 32).ftuStep 31 1 3 0).map (fun e => (s 32).ftuFirst 31 1 3 0 e) = some true ∧ (s 32).gateOpen = true ∧
    (ps[0]?).map (fun p => (p.addr, p.len)) = some (4096, 32) ∧ (dr.stream 1 0).write = false ∧
    ((4096 + 31 : Int) < 4096 + 32) ∧ ((r 0).tier.accs.find? (fun a => a.id == 9 && a.st == .done)) = some (a 0) ∧
    (r 0).xfers.find? (fun e => e.acc == 9) = some e ∧ (a 21).status ≠ stOk ∧ (a 0).status = stOk ∧
    tfind ((r 0).site 31 1).faulted 3 = none ∧ siteOk 31 1 2 = true ∧ siteNo 1 2 = 14 ∧ siteKind 1 2 = .scc ∧
    (tget w.bufs (unitKey 31 14 3)).length = 1 ∧ w.serves 31 3 = true := by decide

theorem test_hyps_ObjectCommands :
    let q : Req := { func := 0, ring := 0, tag := 1 }
    let s := owned 1
    let o : Obj := tget s.tier.objs 1
    let e : State := { s with
      tier := { s.tier with objs := [], leaf := [], frames := [(1, 1040)] }
      dict := { Dict.reset with vals := [(objKey 0x2400 6, 1036), (objKey 0x2411 1, 8)] } }
    s.recovery = false ∧ s.keyed 0 = true ∧ s.ownObj 0 1 = some o ∧ o.owner = 0 ∧ o.tiles = 1 ∧ o.pin = false ∧
    e.recovery = false ∧ e.keyed 0 = true ∧ rangeOk 0 (2 ^ 46 - 65536) 1 = true ∧ placeOk 5 7 = true ∧ bitOf 9 2 = false ∧
    placeOk 9 7 = true ∧ (State.reserveMoves 1 0 7 1 1 (fun _ => false) [0] s).isSome = true ∧
    (State.reserveMoves 1 0 7 2 1 (fun _ => true) [0] s).isNone = true ∧ e.overlaps (2 ^ 46 - 65536) 1 = false ∧ Memory.wf e.mem = true ∧
    (e.pickNo [] 1048576).isSome = true ∧ rangeOk 0 (2 ^ 46) 1 = false ∧ placeOk 5 8 = false ∧ s.overlaps 0 1 = true ∧
    dirBytes [2 ^ 30 - 1] ≤ e.dirFrames * 65536 ∧
    (State.allocTiles 0 0 7 [1] [2 ^ 30 - 1] e.tick).isSome = true ∧ (∀ o, tfind s.tier.objs 2 = some o → o.owner ≠ 0) := by
  decide

theorem test_hyps_TierAccesses :
    let a : AccSt → Acc := fun st => { (default : Acc) with id := 4, who := .link 0, addr := 65504, len := 32, st := st, tier := 1, frame := 1024 }
    let p : Acc := { a .presented with who := .link 0 }
    let w : Acc := { a .flight with write := true, data := List.replicate 32 7 }
    let r : Acc := { a .reread with again := [2047] }
    let s : Acc → State := fun a => { owned 1 with tier := { (owned 1).tier with accs := [a] } }
    let o : Obj := { (default : Obj) with st := .freeing, tiles := 1 }
    let q : Req := { func := 0, ring := 0, tag := 1 }
    let f : State := { owned 1 with tier := { (owned 1).tier with objs := [(1, o)], frees := [(1, some q)] } }
    let ks : KeySet := { (default : KeySet) with alarm := 2 }
    let z : State := { s r with trust := { (s r).trust with keys := [(0, some ks)] } }
    (s p).tier.accs.find? (fun a => a.id == 4 && a.st == .presented) = some p ∧ (s p).dirTurn 0 p = true ∧ dieOf (tileOf p.addr) = 0 ∧
    (s p).dirRoute p = true ∧ (s p).afterOthers p = false ∧
    (s p).fabWin 0 65504 32 = none ∧ (s p).transStatus 0 65504 32 = stOk ∧ (s p).hostLines 65504 32 = [] ∧
    (s p).host.bi = [] ∧ { (s p) with trust := Trust.reset }.transStatus 0 65504 32 ≠ stOk ∧
    (s (a .flight)).tier.accs.find? (fun a => a.id == 4 && a.st == .flight) = some (a .flight) ∧
    (∀ k ∈ tilesOf 65504 32, (s (a .flight)).tierSt ((a .flight).place k).1 = 1) ∧
    (s (a .flight)).code.hot = [] ∧ (s (a .flight)).code.train = [] ∧
    (∀ w ∈ wordsOf 65504 32, (s (a .flight)).unitHeld ((s (a .flight)).accUnit (a .flight) w) = false) ∧
    (∀ x ∈ wordsOf 65504 32, partlyIn 65504 w.data x = false) ∧
    (∀ w ∈ wordsOf 65504 32, (s (a .flight)).sick w = false) ∧ (∃ w ∈ wordsOf 65504 32, [0].contains (w - 65504 / 32) = true) ∧
    z.tier.accs.find? (fun a => a.id == 4 && a.st == .reread) = some r ∧ (∀ w ∈ r.again, z.sick w = false) ∧
    tget z.trust.keys (partOf r.addr) = some ks ∧ tget z.trust.tagFails (partOf r.addr) + 1 < ks.alarm ∧
    tfind f.tier.objs 1 = some o ∧ f.tier.frees.find? (fun e => e.1 == 1) = some (1, some q) ∧ f.idleObj 1 o = true := by decide

theorem test_hyps_TheMover :
    let l : Leaf := { (default : Leaf) with home := 2, frame := 0, object := 1 }
    let o : Obj := { (default : Obj) with st := .live, tiles := 1, pref := 1, settle := true }
    let s : Leaf → List MoveReq → State := fun l q => { owned 1 with
      tier := { (owned 1).tier with st := [(1, 1), (2, 1)], frames := [(1, 4096), (2, 8)], leaf := [(7, l)], objs := [(1, o)], moveQ := q }
      dict := { Dict.reset with vals := [(objKey 0x2400 6, 1036), (objKey 0x2411 1, 8)] } }
    let r : MoveReq := { tileKey := 7, tier := 1, cmd := 0, started := false, frame := none }
    let m : Leaf := { l with moving := true, dest := 1, dframe := 1030 }
    let w : OldFrame := { tier := 2, frame := 0, tileKey := 7 }
    (s l [r]).movingOn 3 = 0 ∧ (s l [r]).dirPorts 3 = [] ∧ nextMove (s l [r]) 3 [r] [] = some r ∧ ((s l [r]).leaf 7) = l ∧
    (s l [r]).tierDown 1 = false ∧ (s l [r]).tierDown 2 = false ∧ ((s l [r]).moveFrame r o 1).isSome = true ∧
    ({ r with frame := some 5 } : MoveReq).frame = some 5 ∧ (s m []).leaf 7 = m ∧
    (s m []).inFlightOn 7 true = false ∧ (s m []).readsLeft 1 1030 = false ∧ (s m []).trainingIn 2 = false ∧ (s m []).trainingIn 1 = false ∧
    (s m []).sickIn (tileAddr 7) 65536 = [] ∧ (s { m with copied := true } []).leaf 7 = { m with copied := true } ∧ (s m []).host.waits = [] ∧
    (s m []).code.owed = [] ∧
    (s m []).tier.accs = [] ∧ ({ (s m []).tier with old := [w] } : Tier).old = w :: [] ∧ 0 < (s l []).freeFrames 1 ∧
    firstBy (s l []).returnBefore ((s l []).tier.leaf.filter ((s l []).displaced 1)) = some (7, l) := by decide

theorem test_hyps_TierFailures :
    let a : Acc := { (default : Acc) with id := 4, st := .flight, tier := 2, since := 0 }
    let s : State := { State.reset with
      tier := { Tier.reset with st := [(2, 1), (3, 2)], channels := 2 ^ 11, expanders := 2 ^ 7, accs := [a] }
      clk := { Clk.reset with dcount := 2 ^ 40 }
      code := { Code.reset with train := [27] } }
    s.tierDown 1 = true ∧ s.tierDown 2 = false ∧ s.tierDown 3 = false ∧ s.host.waits = [] ∧ (s.tier.leaf.map (fun e => e.1)).Nodup ∧
    s.tier.accs.find? (fun a => a.id == 4 && a.isOut) = some a ∧ (∀ a ∈ s.tier.accs, a.st ≠ .held) ∧
    a.since + s.obj 0x2402 3 ≤ s.clk.dcount ∧ (∀ w ∈ wordsOf a.addr a.len, s.unitHeld (s.accUnit a w) = false) ∧
    bitOf s.tier.channels 11 = true ∧ bitOf s.tier.expanders 7 = true ∧ 27 ∈ s.code.train := by decide

theorem test_hyps_MemoryEvents :
    let s : State := { owned 1 with clk := { Clk.reset with dcount := 2 ^ 50 } }
    let b : State := { s with tier := { s.tier with st := [(2, 1)], channels := 2 ^ 11 } }
    let z : State := { s with code := { s.code with scrub := [(1, 2046)] } }
    let y : State := { s with code := { s.code with scrub := [(1, dirWord + 67108863)] } }
    s.mayRetrain 1 15 (s.obj 0x2420 1) = true ∧ s.code.train.contains 15 = false ∧ bitOf b.tier.channels 11 = true ∧
    b.mayRetrain 2 27 (b.obj 0x2421 4) = true ∧ b.code.train.contains 27 = false ∧ z.scrubPlace 2046 = (1, 1024) ∧
    z.tierSt 1 = 1 ∧ z.scrubAt 1 = some 2046 ∧ (z.leaf (2046 / 2048)).moving = false ∧ z.sick 2046 = false ∧
    (z.passWord 1).isSome = true ∧ (z.scrubNext 1 2047).isSome = true ∧ y.scrubPlace (dirWord + 67108863) = (1, 32767) ∧
    y.scrubAt 1 = some (dirWord + 67108863) ∧ (y.passWord 1).isSome = true ∧ y.scrubNext 1 (dirWord + 67108863 + 1) = none ∧
    (y.leaf ((dirWord + 67108863) / 2048)).moving = false ∧
    bits 0x2323 13 8 = 35 ∧ bits 0x2323 5 0 = 35 ∧ tget s.code.spent 35 = none ∧ 35 < bits 0x2400 13 8 ∧
    s.tier.agedAt + s.obj 0x2402 2 * 1000 ≤ s.clk.dcount := by decide

theorem test_hyps_GraphCommands :
    let s := owned 1
    let q : Req := { func := 0, ring := 0, tag := 1 }
    let hdr : List Host.Cell := memPut [] 0 (leBytes 0x474A4851 4 ++ [1, 0, 0, 0] ++ leBytes 1 4)
    let g : State := { s with mem := hdr }
    let gr : Graph := { (default : Graph) with edges := [(0, 1)] }
    let l : Layout := default
    let w : Pool → State := fun p => { s with
      jig := { Jig.reset with graphs := [(5, gr)], layouts := [(4095, l)], pools := [(0, p)] }
      tier := { s.tier with objs := [(1, { (default : Obj) with st := .live, tiles := 1176 })] } }
    let y : State := { s with jig := { Jig.reset with graphs := [(5, gr)], tasks := [(taskKey 5 0, newTask 0)] } }
    let gz : Graph := { (default : Graph) with edges := [(0, 1), (1, 0)], ring := some 3 }
    let z : State := { s with jig := { Jig.reset with graphs := [(5, gz)], tasks := [(taskKey 5 0, newTask 0), (taskKey 5 1, newTask 0)] } }
    InService s.ren.active s ∧ InService (w default).ren.active (w default) ∧ s.recovery = false ∧ s.keyed 0 = true ∧ stPrec (checkLayout s 0 0 0).2.bad < 15 ∧ (s.pickNo [] 4096).isSome = true ∧
    tfind (w default).jig.layouts 4095 = some l ∧ l.gone = false ∧ l.func = q.func ∧ (w default).keyed 0 = true ∧ (w default).recovery = false ∧
    (w default).usesLayout 4095 = false ∧
    (checkGraph g 0 0).1 = stOk ∧ ((checkGraph g 0 0).2.2.2.pickNo [] 1024).isSome = true ∧ (checkGraph g 0 0).2.2.2.jig = g.jig ∧
    tfind (w default).jig.graphs 5 = some gr ∧ gr.counted = false ∧
    (y.countEdges 5 gr).task (taskKey 5 0) = some (newTask 0) ∧ z.tasksOf 5 ≠ [] ∧ tfind y.jig.graphs 5 = some gr ∧
    ((z.countEdges 5 gz).tasksOf 5).all (fun e => e.2.st == .counting && e.2.count != 0) = true ∧ tfind z.jig.graphs 5 = some gz ∧ gz.ring = some 3 ∧ (tget (w default).jig.pools 0).held = [] ∧
    (tget (w { (default : Pool) with held := [0] }).jig.pools 0).held ≠ [] := by decide

theorem test_hyps_TaskIssue :
    let s := owned 1
    let x : TaskSt → Task := fun st => { (default : Task) with st := st, nb := 2, base := 30, level := 3 }
    let gr : Graph := { (default : Graph) with tasks := 1, counted := true }
    let m : TaskSt → List (Nat × Option Nat) → State := fun st hd => { s with
      dict := { Dict.reset with vals := [(objKey 0x2C30 2, 2 ^ 32 - 1)] }
      jig := { Jig.reset with graphs := [(2, gr)], tasks := [(taskKey 2 0, x st), (taskKey 3 0, { x .placed with level := 4 })], held := hd, order := [taskKey 2 0] } }
    let k := taskKey 2 0
    let all := m .issued ((List.range 32).map (fun b => (b, some (taskKey 3 0))))
    let wait := fun (st : TaskSt) (hd : List (Nat × Option Nat)) => { (m st hd) with
      jig := { (m st hd).jig with reserved := [(4, some k), (5, some k)] } }
    tfind (m .counting []).jig.graphs 2 = some gr ∧ (m .counting []).task k = some (x .counting) ∧ gr.counted = true ∧
    (x .counting).count = 0 ∧ gr.port = none ∧ ((m .reading []).readDev 0 (gr.taskBase + 128 * 0) 128).1 = stOk ∧
    ((m .reading []).readDev 1 (gr.taskBase + 128 * 0) 128).1 ≠ stOk ∧
    (checkIssue (m .reading []) 0 0 (x .reading) (List.replicate 128 0) none).1 ≠ stOk ∧
    (checkIssue { (m .reading []) with jig := { Jig.reset with layouts := [(0, default)] } } 0 0 (x .reading) (List.replicate 128 0) none).1 = stOk ∧ (x .placed).quantum ≤ 0 ∧
    State.activated { s with insts := [(0, { (default : Inst) with task := k })] } k (x .placed) = true ∧
    (m .issued []).waitRun k (x .issued) = none ∧ all.waitRun k (x .issued) = none ∧ (m .saved []).waitRun k (x .saved) = none ∧
    (wait .issued []).waitRun k (x .issued) = some 4 ∧ (wait .saved []).waitRun k (x .saved) = some 4 ∧
    (∀ j < 2, (wait .issued []).bayFree k (4 + j) = true) ∧ (∀ j < 2, (wait .saved []).bayFree k (4 + j) = true) ∧
    (wait .issued [(5, some 9)]).waitRun k (x .issued) = some 4 ∧ (wait .issued [(5, some 9)]).bayFree k 5 = false ∧
    lowestRun ((m .issued []).bayFree k) 2 = some 0 ∧ (m .saved []).bayFree k 30 = true ∧ (m .saved []).bayFree k 31 = true ∧
    lowestRun ((m .issued ((List.range 32).map (fun b => (b, some (taskKey 3 0))))).bayFree k) 2 = none ∧
    lowestRun (all.canHave k) 2 = some 0 ∧ lowestRun ((m .issued [(0, some 9), (1, some 9)]).bayFree k) 2 = some 2 ∧
    lowestRun (fun _ => false) 2 = none := by decide

theorem test_hyps_SaveAndRestore :
    let s := owned 1
    let x : TaskSt → Task := fun st => { (default : Task) with st := st, nb := 1, base := 31, slots := [0], serials := [7] }
    let c : SaveSlot := { (default : SaveSlot) with bay := 31, serial := 7 }
    let m : TaskSt → Option Nat → Tbl SaveSlot → List Host.Cell → State := fun st fr sv mem => { s with
      mem := mem, bays := [(31, { (default : Bay) with frozen := fr })]
      pwr := { s.pwr with doms := [(31, { (default : Domain) with st := .on })] }
      jig := { Jig.reset with tasks := [(5, x st)], held := [(31, some 5)], saves := sv, preempt := [5] } }
    tget (m .placed none [] []).jig.held 31 = some 5 ∧ (m .placed none [] []).task 5 = some (x .placed) ∧
    (x .placed).slots.getD (31 - (x .placed).base) 0 = 0 ∧ 5 ∈ (m .placed none [] []).jig.preempt ∧ (x .placed).status = stOk ∧
    (x .placed).ended = false ∧ (∀ d < 4, ((m .placed none [] []).drawer 31 d).st ≠ .faulted) ∧
    (m .saving none [] []).faultsFirst (x .saving) = false ∧
    State.faultsFirst { (m .saving none [] []) with drawers := [(127, { (default : Drawer) with st := .faulted, fault := some stProtocol })] } (x .saving) = true ∧
    State.faultsFirst { (m .saving none [] []) with drawers := [(127, { (default : Drawer) with st := .faulted, fault := some stPoison })] } { (x .saving) with status := stPoison } = false ∧
    (∀ d < 4, ((m .saving none [] []).drawer 31 d).st ≠ .loading) ∧ ((m .saving none [] []).bay 31).frozen = none ∧
    ((m .saving (some 3) [] []).bay 31).frozen.isSome = true ∧ tfind (m .saving (some 3) [] []).jig.saves 0 = none ∧
    (tfind (m .saving (some 3) [(0, c)] []).jig.saves 0).isSome = true ∧ (m .saving (some 3) [(0, c)] []).part 31 = 0 ∧
    (m .restoring none [(0, c)] []).domOn 31 = true ∧ tfind (m .restoring none [(0, c)] []).jig.saves 0 = some c ∧
    ((m .restoring none [(0, c)] (memPut [] 0 c.header)).readDev 0 0 64).1 = stOk ∧
    c.matchesHeader ((m .restoring none [(0, c)] (memPut [] 0 c.header)).readDev 0 0 64).2.1 = true ∧
    ((m .restoring none [(0, c)] (memPut [] 0 c.header)).readDev 0 0 64).2.2.sickIn 0 77070336 = [] ∧
    c.matchesHeader ((m .restoring none [(0, c)] []).readDev 0 0 64).2.1 = false ∧ ((m .restoring none [(0, c)] []).readDev 0 0 64).2.2.sickIn 0 77070336 = [] ∧ ((m .restoring none [] []).readDev 1 0 64).1 ≠ stOk ∧
    ((m .saving (some 3) [] []).writeDev 0 ((m .saving (some 3) [] []).slotAddr 0 0) c.header).1 = stOk := by decide

theorem test_hyps_TaskEnds :
    let x : TaskSt → Nat → Task := fun st u => { (default : Task) with st := st, nb := 1, base := 31, ended := true, status := u }
    let m : TaskSt → Nat → State := fun st u => { State.reset with
      drawers := [(127, { (default : Drawer) with st := .faulted, task := 5, fault := some stPoison })]
      jig := { Jig.reset with
        tasks := [(5, x st u), (6, { (default : Task) with st := .counting, count := 1 }), (7, x .placed 0)], held := [(31, some 5)]
        graphs := [(0, { (default : Graph) with edges := [(5, 6)], tasks := 3, halt := true })] } }
    taskKey 0 5 = 5 ∧ (m .placed 0).task 5 = some (x .placed 0) ∧ (m .placed 0).taskFault 5 (x .placed 0) ≠ stOk ∧
    (m .teardown 3).task 5 = some (x .teardown 3) ∧
    (∀ e ∈ (m .teardown 3).drawers, e.2.task = 5 → tget (m .teardown 3).jig.held (e.1 / 4) = some 5 → e.2.st ≠ .empty →
        e.2.st ≠ .loading ∧ (m .teardown 3).quiescent (e.1 / 4) (e.1 % 4) = true) ∧
    (m .teardown 3).jig.actWait = [] ∧ (tfind ((m .placed 3).finishTask 5 3).jig.graphs 0).isSome = true := by decide

theorem test_hyps_SavedBayGoesOn :
    let s : State := at_ (siteKey 31 2) { (default : Site) with expIn := [(1, 9)] } [(127, live .armed)]
    let x : Task := { (default : Task) with st := .restoring, nb := 1, base := 31, slots := [0] }
    let u : State := { State.reset with
      bays := [(31, { (default : Bay) with frozen := some 2 })]
      jig := { Jig.reset with tasks := [(5, x)], held := [(31, some 5)], saves := [(0, s.capture 31 0 1 5)] } }
    (s.drawers.map (fun e => e.1)).Nodup ∧ (s.sites.map (fun e => e.1)).Nodup ∧ (s.mxc.map (fun e => e.1)).Nodup ∧
    (s.fnc.map (fun e => e.1)).Nodup ∧ (s.src.map (fun e => e.1)).Nodup ∧ (s.sram.map (fun e => e.1)).Nodup ∧
    (s.bufs.map (fun e => e.1)).Nodup ∧ tget u.jig.held 31 = some 5 ∧ u.task 5 = some x ∧ x.st = .restoring ∧
    x.slots.getD (31 - x.base) 0 = 0 ∧ tfind u.jig.saves (x.func * 65536 + 0) = some (s.capture 31 x.func 1 5) ∧
    (u.bay 31).frozen.isSome = true ∧ s.site 31 2 ≠ u.site 31 2 ∧ s.drawer 31 3 ≠ u.drawer 31 3 := by decide

theorem test_hyps_IntakeOfWeights :
    let s := owned 1
    let q : Req := { func := 0, ring := 0, tag := 1 }
    let r : GenRec := { (default : GenRec) with gen := 1, st := .building, shards := [(32, shakeNat [] 64)], object := 1, waits := true }
    let m : GenRec → Model := fun r => { (default : Model) with slot := 4095, recs := [r] }
    let j : ShardJob := { key := 4095, gen := 1, shard := 0, host := false, addr := 0, prio := 0 }
    let x : PlanerJob := { job := j, data := [], bad := false }
    let w : GenRec → List ShardJob → Option PlanerJob → State := fun r qu pl => { s with
      pwr := { s.pwr with doms := [(62, { (default : Domain) with st := .on })] }
      host := { s.host with fns := [(0, { (default : FnEnt) with flags := 1, aps := [(0, 0, 4096)] })] }
      wgt := { s.wgt with models := [(4095, m r)], queue := qu, planers := [(3, pl)] } }
    let j2 := { j with host := true }
    s.recovery = false ∧ s.keyed 0 = true ∧ (s.readDev 0 0 100).1 = stOk ∧ parseManifest (s.readDev 0 0 100).2.1 = none ∧
    ({ s with dict := { Dict.reset with vals := [(objKey 0x2E01 1, 1)] } } : State).intakeStatus 0 4095 0 default true = stOk ∧ s.intakeArgs 0 4095 0 0 1 7 3 = stOk ∧ s.intakeArgs 0 4096 0 0 1 7 3 ≠ stOk ∧
    InService 103 s ∧ InService 103 (w r [] none) ∧
    (w r [] none).heldModel q.func 4095 0 = some (4095, m r) ∧ (m r).recIn .building = some r ∧ r.done.contains 0 = false ∧
    (w r [] none).hostOk 0 4064 32 = true ∧ (w r [j] none).domOn 62 = true ∧ (w r [j] none).partUp 87 = true ∧
    tget (w r [j] none).wgt.planers 3 = none ∧ nextShard [j] = some j ∧ (w r [] none).buildOf j = some (m r, r) ∧
    (w r [] none).buildOf j2 = some (m r, r) ∧ tget (w r [] (some x)).wgt.planers 3 = some x ∧
    shakeNat x.data 64 ≠ 0 ∧ tget r.refetch 0 < 1 ∧ r.since + s.obj 0x2E00 2 * 1000000 ≤ 2 ^ 63 ∧
    tfind (w { r with done := [0] } [] none).wgt.models 4095 = some (m { r with done := [0] }) ∧
    ({ r with done := [0] } : GenRec).done.contains 0 = true ∧ s.transStatus 0 0 (1 * 65536) = stOk := by decide +kernel

theorem test_hyps_Generations :
    let s := owned 1
    let r : GenSt → GenRec := fun st => { (default : GenRec) with gen := 3, st := st, commit := true, holds := 1, object := 1 }
    let m : GenRec → Model := fun r => { (default : Model) with slot := 4095, recs := [r] }
    let w : GenRec → State := fun r => { s with wgt := { s.wgt with models := [(4095, m r)] } }
    InService 103 s ∧ InService 103 (w (r .live)) ∧ s.recovery = false ∧ s.keyed 0 = true ∧ (w (r .staged)).heldModel 0 4095 0 = some (4095, m (r .staged)) ∧
    (m (r .staged)).recIn .staged = some (r .staged) ∧ (m (r .live)).recIn .live = some (r .live) ∧
    (m (r .staged)).recs.find? (fun x => x.st == .building || x.st == .staged) = some (r .staged) ∧
    (w (r .staged)).allNear 1 = true ∧ (w (r .staged)).allNear 2 = false ∧ ((m (r .staged)).recs.map (fun x => x.gen)).Nodup ∧
    (m (r .staged)).recIn .live = none ∧ (∀ x ∈ (m (r .staged)).recs, x.st ≠ .cold) ∧ (m (r .live)).recOf 3 = some (r .live) ∧
    (m (r .live)).recOf 4 = none ∧ tfind (w (r .live)).wgt.models 4095 = some (m (r .live)) ∧
    (∀ e ∈ (w (r .cold)).wgt.models, e.2.slot = 4095 → ∀ r ∈ e.2.recs, r.st = .cold) ∧ tfind (w (r .live)).wgt.models 4094 = none := by decide

theorem test_hyps_WeightUpkeep :
    let s := owned 2
    let r : GenSt → GenRec := fun st => { (default : GenRec) with gen := 3, st := st, object := 1, total := 65536 }
    let m : GenRec → Model := fun r => { (default : Model) with slot := 4095, recs := [r] }
    let w : GenRec → Nat → State := fun r n => { s with
      wgt := { s.wgt with models := [(4095, m r)] }
      pwr := { s.pwr with doms := [(62, { (default : Domain) with st := .on })] }
      dict := { Dict.reset with vals := [(objKey 0x2E00 5, 1000), (objKey 0x2E00 6, n), (objKey 0x2E00 7, n)] }
      tier := { s.tier with st := [(1, 1), (2, 1)], frames := [(1, 4096), (2, 1)] } }
    let c : Candidate := { key := 4095, slot := 4095, use := 0, r := r .live }
    let o : Obj := tget s.tier.objs 1
    (w (r .live) 0).domOn 62 = true ∧ (w (r .live) 0).partUp 84 = true ∧ tget (w (r .live) 0).wgt.planers 0 = none ∧ (w (r .live) 0).wgt.queue = [] ∧
    (w (r .live) 0).scrubDue (r .live) 0 = true ∧
    tfind (w (r .live) 0).wgt.models 4095 = some (m (r .live)) ∧ (m (r .live)).recOf 3 = some (r .live) ∧
    ((w (r .live) 0).transStatus 0 (65536 * 0) 65536 = stOk) ∧
    (w (r .live) 5000).freeFrames 1 < (w (r .live) 5000).obj 0x2E00 6 ∧
    firstBy Candidate.before ((w (r .live) 5000).candidates.filter (fun x => 0 < (w (r .live) 5000).objTiles x.r.object 1)) = some c ∧
    firstBy Candidate.before ((w (r .live) 5000).candidates.filter (fun x => !x.r.keep)) = some c ∧
    State.fitsAll 1 o.owner o.prio 2 (o.keys.filter (fun k => ((w (r .live) 5000).leaf k).home == 1)) (w (r .live) 5000) = false ∧
    State.fitsAll 1 o.owner o.prio 2 (o.keys.filter (fun k => ((w (r .live) 5000).leaf k).home == 1))
      { w (r .live) 5000 with tier := { (w (r .live) 5000).tier with frames := [(1, 4096), (2, 16)] } } = true ∧
    (w (r .live) 0).warmShort = false ∧ (w (r .live) 0).obj 0x2E00 6 ≤ (w (r .live) 0).freeFrames 1 ∧
    (w (r .live) 0).wgt.agedAt + (w (r .live) 0).obj 0x2E00 5 * 1000000 ≤ 1000000000 := by decide

theorem test_hyps_ServingCommands :
    let s := owned 8
    let q : Req := { func := 0, ring := 0, tag := 1 }
    let e : EntrySt → Entry := fun st => { (default : Entry) with st := st, slot := 4095, deadline := 5 }
    let w : List (Nat × Entry) → State := fun es => { s with
      clk := { s.clk with dcount := 6000 }
      wgt := { s.wgt with models := [(4095, { (default : Model) with slot := 4095 })] }
      jig := { s.jig with layouts := [(4094, default)] }
      tier := { s.tier with objs := [(1, { (default : Obj) with st := .live, tiles := 8 })] }
      srv := { s.srv with
        entries := es, pools := [(0, { (default : KvPool) with runPages := 64 })]
        binds := [(4094, { (default : Binding) with func := 0 })] } }
    let es := fun st => [(65535, e st)]
    InService 100 s ∧ InService 100 (w []) ∧ s.recovery = false ∧ s.keyed 0 = true ∧ tfind s.tier.objs 1 = some { (default : Obj) with st := .live, tiles := 8 } ∧
    runsOf 8 1 1 = 6 ∧ (∀ e ∈ (w []).srv.entries, e.2.func ≠ q.func) ∧ (w []).heldModel 0 4095 0 ≠ none ∧
    (w []).handleOf 0 4094 = true ∧ 64 ≤ ((w []).kv 0).runPages ∧ (w []).transStatus 0 0 128 = stOk ∧
    (w []).transStatus 0 65536 262144 = stOk ∧ tfind (w []).srv.binds 4095 = none ∧ (w []).slotBusy 4095 = false ∧
    (tfind (w []).srv.binds 4094).isSome = true ∧ (∀ e ∈ (w (es .decode)).srv.entries, e.2.slot ≠ 4094) ∧
    (w (es .decode)).slotBusy 4095 = true ∧ tfind (w (es .decode)).srv.entries 65535 = some (e .decode) ∧
    (e .waitDecode).waits = true ∧ (e .decode).waits = false ∧ (e .decode).late = false ∧ (e .decode).cancel = false ∧
    (e .decode).admitN + 1000 * (e .decode).deadline ≤ 6000 ∧ (e .decode).bad = 0 := by decide

theorem test_hyps_RequestsAndTheWalk :
    let s := owned 8
    let q : Req := { func := 0, ring := 0, tag := 1 }
    let e : Entry := { (default : Entry) with st := .walking, prompt := List.replicate 33 7, maxNew := 31 }
    let lf : Nat → Cell := fun k => .leaf 0 k 2 0 0 0 4 0
    let w : List (Nat × Entry) → Tbl Cell → Nat → State := fun es cs runs => { s with
      pwr := { s.pwr with doms := [(61, { (default : Domain) with st := .on })] }
      srv := { s.srv with
        entries := es, purge := [(0, 0, 0)]
        pools := [(0, { (default : KvPool) with cells := cs, table := [(2, (3, 1))], runs := runs, cellTiles := 1 })] } }
    let k := e.key 0
    let f : Entry := { e with walkOver := true }
    let root := fun c => (0, Cell.inner 0 [(k % 16, c)])
    let r := (w [] [] 9).checkRequest 0 0 0 0 [] []
    let d := leBytes 256 8 ++ leBytes 1 4 ++ leBytes 1 4 ++ leBytes 512 8 ++ leBytes 1 4 ++ leBytes 1024 8
    let good : State := { w [] [] 9 with
      mem := memPut (memPut (memPut [] 16 d) 1024 [1]) 1032 (leBytes fp32One 4 ++ leBytes 0 4 ++ leBytes fp32One 4)
      dict := { Dict.reset with vals := [(objKey 0x2E11 1, 1)] }
      wgt := { s.wgt with models := [(0, { (default : Model) with recs := [{ (default : GenRec) with gen := 2, st := .live }] })] }
      srv := { s.srv with binds := [(0, { (default : Binding) with context := 32, vocab := 8 })] } }
    ((w [] [] 9).wakeDom 61).part 100 ≠ 2 ∧ ((w [] [] 9).wakeDom 61).part 100 ≠ 3 ∧ ((w [] [] 9).wakeDom 61).recovery = false ∧
    ((w [] [] 9).wakeDom 61).keyed q.func = true ∧ (w [] [] 9).wakeDom 61 = w [] [] 9 ∧ good.wakeDom 61 = good ∧ r.status ≠ stOk ∧
    (s.pickNo [] 65536).isSome = true ∧ (good.checkRequest 0 0 0 0 [] []).status = stOk ∧
    (good.checkRequest 0 0 0 0 [] []).st.srv.entries = [] ∧ (good.liveRec 0 0 0).isSome = true ∧ tfind (w [(65535, e)] [] 9).srv.entries 65535 = some e ∧ e.walkAt < e.walkBlocks ∧
    (w [(65535, e)] [] 9).walkerTurn 10 65535 = true ∧ (w [(65535, { e with len := 32 })] [] 9).walkerTurn 9 65535 = true ∧
    (w [] [] 2).walkerPorts 9 = [] ∧ (w [] [] 2).walkerPorts 10 = [] ∧
    ((w [] [] 9).kv 0).lookup k = none ∧ ((w [] [root 1, (1, lf k)] 9).kv 0).lookup k = some 1 ∧
    (((w [] [root 1, (1, lf k)] 9).putCell 0 1 (some (lf k))).putRun 0 2 3 2 |>.appendRun e 2).isSome = true ∧
    f.need ≤ ((w [] [] 9).kv 0).freeRuns ∧ ({ e with len := 32 } : Entry).pubAt < 1 ∧ (w [] [] 9).endHeld 65535 e = false ∧
    (w [(65535, f)] [root 1, (1, lf k)] 2).kv 0 = (w [] [root 1, (1, lf k)] 2).kv 0 ∧
    (w [(65535, f)] [root 1, (1, lf k)] 2).walkerPorts 9 = [] ∧ (w [(65535, f)] [root 1, (1, lf k)] 2).walkerPorts 10 = [] ∧
    (∀ g < 64, (w [] [root 1, (1, lf k)] 2).wantsEvict g = false) ∧
    ((w [] [root 1, (1, lf k)] 2).kv 0).freeRuns < cdiv (f.prompt.length + f.maxNew) 32 - f.walkAt ∧ f.st = .walking ∧
    firstBy (fun (a b : Nat × Cell) => a.2.lastHit < b.2.lastHit) (((w [] [root 1, (1, lf k)] 2).kv 0).removable (fun _ => true)) = some (1, lf k) ∧
    firstBy (fun (a b : Nat × Cell) => b.2.depth < a.2.depth) (((w [] [root 1, (1, lf k)] 2).kv 0).removable (fun c => match c with
      | .leaf g _ _ _ _ _ _ sl => (w [] [] 2).srv.purge.contains (0, sl, g)
      | _ => false)) = some (1, lf k) := by decide +kernel

theorem test_hyps_DrawOfAToken : (2 ^ 64 - 1 : Nat) < 2 ^ 64 ∧ 0 < weightSum [(7, 0x3F800000), (9, 0)] ∧
    draw [(7, 0x3F800000), (9, 0)] (2 ^ 64 - 1) = some 7 := by decide

theorem test_hyps_Batches :
    let s := owned 8
    let e : Entry := { (default : Entry) with st := .waitDecode, par := List.replicate 8 0 ++ leBytes fp32One 4, len := 3, prompt := [1, 1, 1] }
    let mb : BMember := { (default : BMember) with entry := 65535, count := 1, rows := 1 }
    let bt : Batch := { (default : Batch) with members := [mb], vocab := 1, phase := .decode }
    let tk : Nat → Machine.Task := fun st => { (default : Machine.Task) with st := .done, status := st }
    let w : List (Nat × Batch) → List (Nat × Machine.Task) → State := fun bs ts => { s with
      pwr := { s.pwr with doms := [(61, { (default : Domain) with st := .on })] }
      dict := { Dict.reset with vals := [(objKey 0x2E10 1, 0), (objKey 0x2E10 2, 8)] }
      jig := { s.jig with tasks := ts }
      srv := { s.srv with
        entries := [(65535, e)], batches := bs, binds := [(0, { (default : Binding) with template := 65536 })]
        pools := [(0, { (default : KvPool) with cellTiles := 1, base := 131072 })] } }
    let c := w [] []
    let f := (c.batchMembers e).foldl (fun (p : (List BMember × List (Nat × Entry)) × State) x => p.2.enrol p.1 x) (([], []), c.ticks 2)
    let v : Batch := { bt with rowsAt := some (0, 64), phase := .verify, members := [{ mb with count := 2, rows := 2, cands := some [(0, fp32One)] }] }
    let d : Batch := { bt with rowsAt := some (0, 0) }
    tfind c.srv.entries 65535 = some e ∧ c.domOn 61 = true ∧ c.partUp 100 = true ∧ e.waits = true ∧
    (∀ b ∈ c.srv.batches, b.2.hasKey e = false) ∧ e.waitAt + c.obj 0x2E10 1 * 1000 ≤ c.clk.dcount ∧
    (c.waitingLike e).head? = some (65535, e) ∧ (tfind c.srv.binds e.slot).isSome = true ∧ (c.pickNo [] 4).isSome = true ∧
    (c.tick.pickNo [] 1024).isSome = true ∧ f.1.1 ≠ [] ∧ (f.2.writeDev 0 0 (List.replicate 32 0)).1 = stOk ∧
    (f.2.readDev 0 65536 128).1 = stOk ∧ fieldAt (f.2.readDev 0 65536 128).2.1 8 8 = 0 ∧
    (w [(1, bt)] [(0, tk stOk)]).task (taskKey bt.graph 0) = some (tk stOk) ∧ (tk stOk).status = stOk ∧ (tk stGone).status ≠ stOk ∧
    (∀ m ∈ bt.members, m.rows ≠ 0) ∧ (w [(1, d)] []).partUp (88 + (w [(1, d)] []).prunerOf 0) = true ∧
    ((w [(1, d)] []).readRow 0 1 0 (params e.par)).status = stOk ∧
    ((w [(1, d)] []).readRow 0 1 (2 ^ 46) (params e.par)).status ≠ stOk ∧
    (pruneRow (params e.par) [fp32One] [] [] [] 0).choice = some 0 ∧ (pruneRow (params e.par) [0xFF800000] [] [] [] 0).choice = none ∧
    v.phase = .verify ∧ d.phase ≠ .verify ∧ (w [(1, v)] []).partUp 96 = true ∧ ((w [(1, v)] []).readDev 0 64 4).1 = stOk := by decide +kernel

theorem test_hyps_Rings :
    let x : RingSt → Ring := fun st => { (default : Ring) with
      st := st, ctrl := 4 * 2, sqTail := 15, cqTail := 3, reading := [7], toWrite := [] }
    let rd : HRead := { tag := 7, func := 0, ring := 16383, addr := 0, since := 0, sent := true, got := none }
    let m : RingSt → State := fun st => { State.reset with
      clk := { Clk.reset with phase := .service }
      pwr := { Pwr.reset with doms := [(52, { (default : Domain) with st := .on })] }
      host := { HostPort.reset with
        linkUp := true, width := 16, memEn := [(0, true)], rings := [(16383, x st)], reads := [rd]
        fns := [(0, { ringFirst := 16382, ringCount := 2, vectors := 1, flags := 1, aps := [(0, 0, 65536)] })] } }
    (m .running).barServed 0 0 = true ∧ ((m .running).fn 0).ringFirst + 1 = 16383 ∧ (x .running).size = 16 ∧
    (3 + 16 - 0) % 16 ≤ (3 + 16 - 0) % 16 ∧ (3 + 16 - 0) % 16 < (4 + 16 - 0) % 16 ∧
    (m .disabled).ringCheck 0 { x .disabled with ctrl := bits (setBit 8 0) 39 8 * 256 + bits (setBit 8 0) 5 0 } = stOk ∧
    (m .disabled).ringCheck 0 { x .disabled with ctrl := bits (setBit 6 0) 39 8 * 256 + bits (setBit 6 0) 5 0 } ≠ stOk ∧
    bits 8 15 8 = bits (x .running).ctrl 15 8 ∧ bits 8 5 1 = bits (x .running).ctrl 5 1 ∧
    ({ m .stopping with host := { (m .stopping).host with rings := [(16383, { st := .stopping })] } } : State).ringQuiet 16383 = true ∧
    (m .running).ringOwner 16383 = some 0 ∧ (x .running).held = [] ∧ (m .running).domOn 52 = true ∧ (0 + 1) % 16 ≠ 15 ∧ (m .running).ringTurn 0 (16383 - 16382) = true ∧
    (m .running).hostOk 0 64 64 = true ∧ (m .running).hostOk 0 65536 64 = false ∧
    (m .running).host.reads.find? (fun h => h.tag == 7) = some rd ∧ commandOk ([1, 0x28] ++ List.replicate 62 0) = true ∧
    commandOk ([1, 0x29] ++ List.replicate 62 0) = false ∧ requestOk ([2, 0] ++ List.replicate 62 0) = true := by decide

theorem test_hyps_Completions :
    let c : Cpl := { data := List.replicate 32 0, since := 0 }
    let x : Nat → List Cpl → Ring := fun ctrl cs => { (default : Ring) with
      st := .running, ctrl := ctrl, toWrite := cs, reading := [7], unsigAt := some 0 }
    let rd : HRead := { tag := 7, func := 63, ring := 16383, addr := 0, since := 0, sent := true, got := none }
    let wr : HWho → HWrite := fun who => { tag := 8, func := 63, who := who, addr := 0, data := [], since := 0, sent := true }
    let m : Nat → List Cpl → Nat → HWho → State := fun ctrl cs ap who => { State.reset with
      clk := { Clk.reset with dcount := 10 ^ 12 }
      host := { HostPort.reset with
        rings := [(16383, x ctrl cs)], reads := [rd], writes := [wr who], pba := [(63 * 256 + 255, true)], msixEn := [(63, true)]
        msix := [(63 * 256 + 255, { masked := false })]
        fns := [(63, { ringFirst := 16383, ringCount := 1, vectors := 1, flags := 1, aps := [(0, 0, ap)] })] } }
    let a := m 2 [c] 4096 (.cpl 16383)
    (m 2 (List.replicate 2 c) 0 (.cpl 16383)).ringOwner 16383 = some 63 ∧ (x 2 [c]).room ≠ 0 ∧ a.cplBlocked c.data = false ∧
    a.hostOk 63 0 32 = true ∧ (m 2 [c] 0 (.cpl 16383)).hostOk 63 0 32 = false ∧ (x 2 [c, c]).held = [c] ∧
    c.since + a.obj 0x2800 3 * 1000 < a.clk.dcount ∧ 0 + bits (x 2 []).ctrl 39 24 * 1000 ≤ a.clk.dcount ∧
    tget a.host.pba (63 * 256 + 255) = true ∧ tget a.host.msixEn 63 = true ∧ tget a.host.fnMask 63 = false ∧
    (tgetD a.host.msix (63 * 256 + 255) {}).masked = false ∧ a.host.reads.find? (fun h => h.tag == 7 && h.sent && h.got.isNone) = some rd ∧
    a.host.reads.find? (fun h => h.tag == 7 && h.got.isNone && a.readLate h.since) = some rd ∧
    (∀ h ∈ a.host.reads, h.tag ≠ 8) ∧
    takeFirst (fun (w : HWrite) => w.tag == 8 && a.readLate w.since) a.host.writes = some (wr (.cpl 16383), []) ∧
    takeFirst (fun (w : HWrite) => w.tag == 8 && w.sent) (m 2 [] 0 (.token 3)).host.writes = some (wr (.token 3), []) ∧
    bits 2 23 16 ≤ 0 + 1 ∧ 0 + 1 < bits (2 ^ 24 + 2 * 2 ^ 16) 23 16 ∧ bits (2 ^ 24 + 2 * 2 ^ 16) 39 24 ≠ 0 := by decide

theorem test_hyps_FunctionControl :
    let wn : HdmWin := { reg := { dpa := 0, dev := 2 ^ 46, func := 1, flags := 2 }, next := some {} }
    let s : State := { State.reset with
      clk := { Clk.reset with phase := .service }
      host := { HostPort.reset with
        linkUp := true, width := 16, memEn := [(0, true), (63, true)], vfEn := true, numVf := 63, wins := [(255, wn)]
        fns := [(63, { ringFirst := 16383, ringCount := 1, vectors := 1 })] } }
    s.barServed 0 0 = true ∧ tget s.trust.locked 63 = false ∧ s.ringRangeOk 63 16383 1 = true ∧ s.ringRangeOk 63 16384 1 = false ∧
    s.vectorsOk 63 256 = true ∧ s.vectorsOk 63 257 = false ∧ tget s.host.wins 255 = wn ∧ tget s.trust.locked wn.reg.func = false ∧
    wn.now.len = 0 ∧ s.winOk 255 { wn.reg with len := 65536 } = true ∧ s.winOk 255 { wn.reg with len := 1 } = false ∧
    wn.next = some {} ∧ (∀ l ∈ s.host.bi, wn.now.len = 0 ∨ l < wn.now.dev / 64 ∨ (wn.now.dev + wn.now.len) / 64 ≤ l) ∧
    s.barServed 63 0 = true ∧ s.barServed 63 2 = false ∧ s.barServed 63 4 = true ∧ barSize 63 0 < 2 ^ 24 + 8 ∧
    (s.ring ((s.fn 63).ringFirst + 0)).st = .disabled ∧ (s.ring ((s.fn 63).ringFirst + 0)).sqBase ≠ 4096 / 4096 * 4096 ∧
    s.clk.phase ≠ .starting ∧ s.fnExists 63 = true := by decide

theorem test_hyps_HostAccessesAndResets :
    let win : HdmMap := { dpa := 65536, len := 65536, dev := 0, func := 0, flags := 1 }
    let s : State := { owned 1 with
      clk := { Clk.reset with phase := .service }
      host := { HostPort.reset with
        linkUp := true, width := 8, wins := [(0, { now := win }), (1, { now := { win with dpa := 131072, flags := 0 } })], bi := [1023] } }
    let p : State := { s with tier := { s.tier with poison := [(1, true)] } }
    let v : State := { s with host := { s.host with vfEn := true, numVf := 63 } }
    s.portUp = true ∧ s.host.linkUp = true ∧ s.windowOf 65536 = some win ∧ s.windowOf 131071 = some win ∧ bitOf win.flags 1 = false ∧
    s.transStatus win.func 0 64 = stOk ∧ s.transStatus win.func 65472 64 = stOk ∧ (s.leaf (tileOf 0)).moving = false ∧
    s.host.bi.contains (0 / 64) = false ∧ s.host.bi.contains (65472 / 64) = true ∧ s.tierBusy 0 64 = false ∧
    (State.readWords ((s.touch 0 64).sickIn 0 64) (s.touch 0 64)).1 = [] ∧
    (State.readWords ((p.touch 0 64).sickIn 0 64) (p.touch 0 64)).1 = [1] ∧ bitOf win.flags 0 = true ∧ Memory.wf s.mem = true ∧ s.windowOf 0 = none ∧
    (s.windowOf 131072).isSome = true ∧ s.host.waits = [] ∧ s.clk.phase ≠ .off ∧ s.host.reads = [] ∧ s.host.writes = [] ∧
    v.fnExists 63 = true ∧ s.serving = true ∧ s.host.vfEn = false := by decide

theorem test_hyps_Escutcheon :
    let q : Req := { func := 63, ring := 0, tag := 1 }
    let b := leBytes 0x4B424851 4 ++ [1, 0, 63, 0] ++ leBytes 1 4 ++ List.replicate 740 0
    let c := leBytes 0x4B424851 4 ++ [1, 0, 63, 1] ++ leBytes 1 4 ++ List.replicate 740 0
    let p := List.replicate 114 0 ++ [1]
    let s : State := { State.reset with
      clk := { Clk.reset with phase := .service }
      tier := { (owned 1).tier with frames := [(1, 4096)] }
      trust := { Trust.reset with provKeys := true, nonces := [9], sessions := [(5, 63)], rollCmd := [(63, some q)] }
      host := { HostPort.reset with
        linkUp := true, vfEn := true, numVf := 63
        fns := [(63, { flags := 1, aps := [(0, 0, 4096)] }), (0, { flags := 1, aps := [(0, 0, 4096)] })] } }
    let k : State := { s with trust := { s.trust with keys := [(63, some default)] } }
    let z : State := { s with trust := { s.trust with zeroAt := [(63, some 0)] } }
    s.zeroedNow 63 = false ∧ z.zeroedNow 63 = true ∧ z.keyLoadStatus q 0 752 stOk b true p = stOk ∧ s.keyLoadStatus q 0 752 stOk b true p = stOk ∧ k.keyLoadStatus q 0 752 stOk c true p = stOk ∧
    s.keyLoadStatus q 0 752 stOk b false p = stDigest ∧ tget s.trust.keys 63 = none ∧ tget k.trust.keys 63 = some default ∧
    tget s.trust.rollCmd 63 = some q ∧ s.recalibrating = false ∧ InService 104 s ∧ s.tier.poison = [] ∧ s.code.bad = [] ∧ s.code.flips = [] ∧
    tget (s.rollWords 63 [5]).trust.rollCmd 63 = some q ∧ q.func ≠ 0 ∧ s.hostOk 0 4064 32 = true ∧
    s.hostOk 0 4096 32 = false ∧ s.transStatus 0 0 1 = stOk ∧ 9 ∈ s.trust.nonces ∧ 8 ∉ s.trust.nonces ∧ s.mailbox 63 = true ∧
    s.trust.noId = false ∧ (s.tier.objs.map (fun e => e.1)).Nodup ∧ s.hasSession 63 5 = true ∧ k.keyed 63 = true ∧ s.trust.serial = 0 := by decide

theorem test_hyps_LinkFrames :
    let m : LinkSt → Link → State := fun st x => { State.reset with link := { Links.reset with links := [(31, { x with st := st })] } }
    let f : Frame := { fseq := 4095, phase := false, segs := [], since := 0 }
    let r : Nat → RxFrame := fun n => { (default : RxFrame) with
      fseq := n, hdrOk := true, rsvOk := true, segsOk := true, ptagOk := true, corr := [], ack := 4095, credit := [] }
    let msg : Msg := { type := 6, dest := 1, src := 0 }
    let s := m .up { held := [f], replay := [f] }
    let w := m .up { wait := some f }
    (∀ a ∈ s.tier.accs, a.st ≠ .done) ∧ (s.lnk 31).replay = [f] ∧ (s.lnk 31).st = .up ∧ (w.lnk 31).held.length < 128 ∧
    (w.lnk 31).fcount - (w.lnk 31).keyCount < 2 ^ 36 ∧ ((w.lnk 31).fill 15).newKey = false ∧
    128 ≤ ((m .up { held := List.replicate 128 f }).lnk 31).held.length ∧ ((m .sleep { outq := [msg] }).lnk 31).outq ≠ [] ∧
    (((m .up {}).takeHeader 31 (r 0)).lnk 31).st = .up ∧ (((m .up {}).takeHeader 31 (r 0)).lnk 31).wait = none ∧
    (((m .up {}).takeHeader 31 (r 0)).lnk 31).expect = 0 ∧ (((m .up {}).takeHeader 31 (r 5)).lnk 31).dropping = false ∧
    (((m .up { dropping := true }).takeHeader 31 (r 5)).lnk 31).dropping = true ∧ (r 5).fseq ≠ 0 ∧ (r 5).replay = false ∧ ((w.takeHeader 31 (r 0)).lnk 31).wait = some f ∧ (r 0).fseq = (f.fseq + 1) % 4096 ∧
    (((w.takeHeader 31 (r 0)).acceptFrame 31 f).lnk 31).st = .up ∧ (s.lnk 31).held ≠ [] ∧ (s.lnk 31).ackAt + 2000 ≤ 2000 ∧
    (s.lnk 31).retries < s.obj 0x2600 4 ∧ s.obj 0x2600 4 ≤ ((m .up { retries := 1000 }).lnk 31).retries ∧
    ((m .up { rxSwap := some 0 }).lnk 31).rxSwap = some 0 ∧ (s.lnk 31).rxSwap = none ∧ (s.lnk 31).txSwap = none := by decide +kernel

theorem test_hyps_SecondSpare :
    let s : State := { State.reset with link := { Links.reset with links := [(31, { st := .up, rxSwap := some 0, txSwap := some 1 })] } }
    (s.lnk 31).st = .up ∧ (s.lnk 31).rxSwap = some 0 ∧ (s.lnk 31).txSwap = some 1 ∧ (4 : Nat) ≠ 0 := by decide

theorem test_hyps_LinkMessages :
    let b : State := { owned 1 with
      dict := { Dict.reset with vals := [(objKey 0x2610 2, 2 ^ 32)] }
      trust := { Trust.reset with provKeys := true, keys := [(0, some default)] }
      sites := [(siteKey ((Config.tokenTarget 0 0).1 % 32) ((Config.tokenTarget 0 0).2.1 % 120), default)]
      tallies := [(255, { (default : Tally) with used := true, t := 2 })] }
    let m : Msg → State := fun x => { b with link := { Links.reset with
      links := [(31, { (default : Link) with inbox := [x] }), (0, { (default : Link) with st := .up, cred := [(1, 9)] })]
      reqs := [{ (default : LReq) with xid := 9 }], late := [7] } }
    let x : Nat → Nat → Msg := fun t a => { type := t, dest := b.faddr, src := 0, arg := a, len := cdiv (a % 8192) 32, ttl := 2 }
    let got := fun t a => (m (x t a)).takeMsg 31 t
    let st := fun t a => ((got t a).map (fun p => p.2)).getD b
    let fw := m { x 4 0 with dest := 1 }
    (got 1 4096).isSome = true ∧ (st 1 4096).tenantOk (x 1 4096) = true ∧ (st 1 4096).tenantOk { x 1 4096 with tenant := 3 } = false ∧
    (got 2 4096).isSome = true ∧ (x 2 4096).len = cdiv 4096 32 ∧ bits 4096 44 13 = 0 ∧ (got 3 0).isSome = true ∧
    ((st 3 0).readDev 0 0 4).1 = stOk ∧ ((m (x 3 0)).leaf 0).moving = false ∧ (m (x 3 0)).tierBusy 0 4 = false ∧
    (m (x 3 0)).linkBefore 31 0 = false ∧ (got 4 255).isSome = true ∧ (m (x 4 255)).tallyTurn 3 39 = true ∧ (m (x 4 254)).tallyTurn 3 39 = true ∧
    (tget (st 4 255).tallies 255).key = bits 255 23 8 ∧ (tget (st 4 255).tallies 255).used = true ∧ (tget (st 4 254).tallies 254).used = false ∧
    (tget (st 4 255).tallies 255).next < 2 ∧ (got 5 1).isSome = true ∧ (x 5 1).len = 1 ∧ (st 5 1).tokensSaved ((Config.tokenTarget 0 0).1 % 32) 0 = false ∧ 1 ≤ ((default : Site).dchan 4).cred ∧ (got 6 0).isSome = true ∧ (st 6 0).tenantOk (x 6 0) = true ∧
    (got 0x10 0).isSome = true ∧ (st 0x10 0).link.reqs.find? (fun r => r.xid == 9) = some { (default : LReq) with xid := 9 } ∧
    0 = (st 0x10 0).incarn 0 ∧ 7 ∈ (st 0x10 0).link.late ∧ (∀ r ∈ (st 0x10 0).link.reqs, r.xid ≠ 7) ∧
    (takeFirst (fun (m : Msg) => m.dest != fw.faddr) (fw.lnk 31).inbox).isSome = true ∧ isRequest 4 = true ∧ isRequest 5 = false ∧
    fw.routeLinks 1 = [0] ∧ (fw.lnk 0).outq = [] ∧ (x 4 0).size ≤ tget (fw.lnk 0).cred (poolOf 4) ∧
    (m (x 1 0)).link.reqs.find? (fun r => r.xid == 9) = some { (default : LReq) with xid := 9 } ∧ 0 + (m (x 1 0)).obj 0x2600 5 * 1000 ≤ 2 ^ 60 := by
  decide +kernel

theorem test_hyps_LinkStates :
    let m : Link → State := fun x => { State.reset with link := { Links.reset with links := [(31, x)], maint := some (5, 9) } }
    let s := m { st := .up }
    let bs := leBytes (2 ^ 46) 8 ++ leBytes 65536 8 ++ leBytes (2 ^ 46) 8 ++ leBytes 7 4 ++ [1, 7, 0, 0]
    (s.lnk 31).st = .up ∧ (s.lnk 31).attempts < 2 ∧ 1 % 2 ^ 18 ≠ s.faddr ∧ 0 % 2 ^ 18 = s.faddr ∧ s.trust.noId = false ∧
    (s.lnk 31).admits 5 = true ∧ ({ allow := some [6] } : Link).admits 5 = false ∧
    (s.lnk 31).rekey = false ∧ (s.lnk 31).keyedAt + s.obj 0x2600 6 * 1000000000 ≤ 2 ^ 63 ∧ (∀ a ∈ s.tier.accs, a.st ≠ .done) ∧
    (s.lnk 31).outq = [] ∧ (s.lnk 31).txSegs = [] ∧ (s.lnk 31).offered = false ∧ (s.lnk 31).idleAt + s.obj 0x2600 3 * 1000 ≤ 2 ^ 63 ∧
    s.link.maint = some (5, 9) ∧ s.clk.dcount < 9 ∧ s.fabWinOk 127 (fabWinOf bs) = true ∧
    s.fabWinOk 127 (fabWinOf (List.replicate 32 1)) = false := by decide +kernel

theorem test_hyps_FieldBusStates :
    let m : EsmSt → State := fun e => { State.reset with
      clk := { Clk.reset with vaon33 := true, phase := .service, dcount := 10 ^ 9 }
      mgmt := { Mgmt.reset with esm := e, armed := true, safeWrite := true } }
    (m .init).clk.vaon33 = true ∧ (m .init).clk.phase ≠ .bootWait ∧ (⟨0, 0, 0⟩ : Sm) ≠ ⟨0x1000, 512, 0x26⟩ ∧ (m .preop).syncOk = true ∧
    (m .preop).clk.phase = .service ∧ (⟨0, 0, 0⟩ : Sm) ≠ ⟨0x1400, 4, 0x64⟩ ∧ (m .safeop).mgmt.safeWrite = true ∧
    Mgmt.reset.safeWrite = false ∧ (m .op).mgmt.esm = .op ∧ (m .op).mgmt.armed = true ∧ (m .op).mgmt.lost = false ∧
    (m .op).mgmt.goodAt + max (3 * (m .op).obj 0x2000 3) 2000 * 1000 ≤ (m .op).clk.dcount := by decide +kernel

theorem test_hyps_Dictionary :
    let m : Phase → EsmSt → State := fun p e => { State.reset with
      clk := { Clk.reset with vaon33 := true, phase := p }, mgmt := { Mgmt.reset with esm := e } }
    let s := m .service .preop
    let h := m .hold .preop
    s.part 103 = 0 ∧ objAt 0x2001 1 = some (.u8, .RW) ∧ objAt 0x2002 3 = some (.u8, .WO) ∧ objAt 0x7FFF 0 = none ∧
    objRow 0x2001 2 = some { ix := 0x2001, lo := 2, hi := 2, ty := .u8, acc := .RO, dflt := 0, store := .any } ∧
    ((objRow 0x2000 3).map (fun r => (r.acc, r.store.apply 30, r.store.apply 31))) = some (.RWP, none, some 31) ∧
    ((objRow 0x2001 1).map (fun r => (r.acc, r.bytes 1, r.ty.len))) = some (.RW, 1, some 1) ∧
    s.actOn true 0x2001 1 [1] default = none ∧ s.actOn false 0x2001 1 [1] default = none ∧ objIndex 0x2001 = true ∧
    (objRow 0x6000 1).isSome = true ∧ s.actOn true 0x6000 1 [0, 0, 0, 0] default = none ∧ objKey 0x2400 6 ∈ keptObjects ∧ ((objRow 0x2400 6).map (fun r => (r.acc, r.bytes 6, (r.store.apply 65536).isSome))) = some (.RWP, 4, true) ∧
    s.actOn true 0x2400 6 [0, 0, 1, 0] default = none ∧
    ¬(0x1000 ≤ 0x2400 ∧ 0x2400 ≤ 0x20FF) ∧ h.dictServed 0x2001 = true ∧ h.barServed 0 2 = s.barServed 0 2 ∧
    (s.setPart 103 3).part 103 = 3 ∧ State.reset.barServed 0 2 = false ∧
    ({ s with host := { s.host with linkUp := true, width := 8, memEn := [(0, true)] } } : State).barServed 0 2 = true ∧
    (s.dictRead 0x2001 1).1 = 0 := by decide +kernel

theorem test_hyps_Images :
    let m : Option ImgPath → State := fun p => { State.reset with
      clk := { Clk.reset with vaon33 := true, phase := .service, dcount := 10 ^ 12 }
      mgmt := { Mgmt.reset with esm := .preop, path := p, cfgBank := 4, flash := [(4, { ok := true })] }, pwr := { Pwr.reset with trip := true } }
    let c : ImgPath := { foe := false, bank := 5, bytes := List.replicate 256 0, at_ := 0 }
    let f : ImgPath := { c with foe := true, bank := 1 }
    (m none).part 103 = 0 ∧ (m none).pathHeld true = false ∧ (m (some c)).pathHeld true = true ∧ (m none).pathHeld false = false ∧
    (m (some f)).pathHeld false = true ∧ (m none).pwr.trip = true ∧ f.at_ + 60000000000 ≤ (m (some f)).clk.dcount ∧
    ((m (some c)).commitImage c default).1 = 4 ∧ ((m none).bank 4).ok = true ∧ (m none).targetBank 3 = 5 ∧ f.bank / 2 < 2 ∧ 256 ≤ f.bytes.length := by decide +kernel

theorem test_hyps_PowerDomains :
    let m : List (Nat × Domain) → State := fun l => { State.reset with
      clk := { Clk.reset with vaon33 := true, phase := .service, dcount := 10 ^ 15 }
      tier := { Tier.reset with st := [(1, 1)] }, pwr := { Pwr.reset with doms := l } }
    let on : Domain := { st := .on, step := 4 }
    let five := [40, 41, 42, 43, 44]
    let bay := m [(0, on), (32, on)]
    let near := m (five.map (fun d => (d, on)))
    let w := m ((40, { st := .waking, step := 3 }) :: (five.drop 1).map (fun d => (d, on)))
    (bay.dom 0).st = .on ∧ domTier 0 = 0 ∧ bay.domIdle 0 = true ∧ (bay.dom 0).usedAt + bay.idleTime 0 ≤ bay.clk.dcount ∧
    near.tierDoms (domTier 40) = five ∧ (∀ e ∈ five, near.domOn e = true) ∧ near.domIdle 40 = true ∧
    (near.dom (tierDom (domTier 40))).usedAt + near.idleTime 40 ≤ near.clk.dcount ∧ near.tierSt 1 = 1 ∧
    (m [(0, { st := .retention })]).mayGoOff 0 = true ∧ ((m [(53, { st := .sleeping, step := 1, deep := true })]).dom 53).step = 1 ∧
    (let u := m [(45, { st := .retention })]
     let v : State := { u with tier := { u.tier with channels := 1, leaf := [(0, { (default : Leaf) with home := 2 })] } }
     v.tierHolds 45 = true ∧ (v.dom 45).st = .retention) ∧
    bay.domOn (32 + 0 / 4) = true ∧ (m [(31, { st := .waking, step := 3 })]).domOn (32 + 31 / 4) = false ∧
    (w.dom 40).st = .waking ∧ (∀ e ∈ five, e ≠ 40 → w.domOn e = true) ∧
    ({ w with tier := { w.tier with st := [(1, 2)] } } : State).tierSt (domTier 40) = 2 := by decide

theorem test_hyps_PowerCaps :
    let r := State.reset
    let m : Pwr → State := fun p => { r with clk := { Clk.reset with vaon33 := true, vin12 := true, dcount := 10 ^ 12 }, pwr := p }
    let lo := m { Pwr.reset with capW := 100, unreach := true, stepTo := some 1 }
    (m r.pwr).pwr.trip = false ∧ (m r.pwr).clk.vin12 = true ∧ (m r.pwr).lowestLimit ≠ (m { r.pwr with capW := 5 }).pwr.capW ∧
    r.obj 0x2100 2 = 0 ∧ lo.pwr.stepTo = some 1 ∧ lo.pwr.capW < 200 ∧ lo.pwr.unreach = true ∧ r.pwr.unreach = false ∧ 90 ≤ lo.pwr.capW ∧
    r.pwr.alertN = false ∧ r.pwr.holdFrom = none ∧ (m { Pwr.reset with alertN := true }).pwr.alertN = true ∧
    (m { Pwr.reset with holdFrom := some 7 }).pwr.holdFrom = some 7 ∧
    7 + 1000 * (m { Pwr.reset with holdFrom := some 7 }).obj 0x2100 5 ≤ (m r.pwr).clk.dcount := by decide

theorem test_hyps_Thermal :
    let m : Pwr → State := fun p => { State.reset with clk := { Clk.reset with vaon33 := true, dcount := 10 ^ 12 }, pwr := p }
    let t : Option Nat → State := fun a => m { Pwr.reset with throttle := true, thermMw := 600000, coolAt := a }
    Pwr.reset.throttle = false ∧ (t none).pwr.throttle = true ∧ State.reset.obj 0x2200 1 = 1000 ∧ (∃ r ∈ List.replicate 160 1000, 1000 ≤ r) ∧
    (∀ r ∈ List.replicate 160 990, ¬ 1000 ≤ r) ∧ (∃ r ∈ List.replicate 160 990, ¬ r + 50 < 1000) ∧
    (∀ r ∈ List.replicate 160 949, r + 50 < 1000) ∧ (t none).pwr.thermN = false ∧ (t none).pwr.coolAt = none ∧
    (t (some 9)).pwr.coolAt = some 9 ∧ 9 + 10000000 ≤ (t (some 9)).clk.dcount ∧ (m Pwr.reset).clk.vaon33 = true ∧ Pwr.reset.trip = false := by decide +kernel

theorem test_hyps_Supplies :
    let m : List (Nat × Bank) → State := fun f => { State.reset with
      clk := { Clk.reset with vaon33 := true, vin12 := true }, mgmt := { Mgmt.reset with facts := { flash := f } } }
    let b : Bank := { ok := true, svn := 1 }
    let all := m [(0, b), (2, b), (4, b)]
    all.clk.vin12 = true ∧ all.clk.vaon33 = true ∧ State.reset.clk.vin12 = false ∧ State.reset.clk.vaon33 = false ∧
    ({ all with clk := { all.clk with vin12 := false } } : State).pwr.trip = false ∧
    bitOf all.pwr.refLost 0 = false ∧ bitOf ({ all with pwr := { all.pwr with refLost := 1 } } : State).pwr.refLost 0 = true ∧
    (m []).pickBank 0 = none ∧ all.pickBank 0 = some 0 ∧ all.pickBank 1 = some 2 ∧ (m [(0, b), (2, b)]).pickConfig = none ∧
    all.pickConfig = some 4 ∧ testOp all.clk.jtag = false ∧ testOp .extest = true ∧
    (∀ k ∈ all.mgmt.facts.badSites, k / 120 ≠ 31) := by decide

theorem test_hyps_ClocksAndScan :
    let m : Phase → Option StartAt → Nat → State := fun p w lost => { State.reset with
      clk := { Clk.reset with vaon33 := true, vin12 := true, phase := p }
      mgmt := { Mgmt.reset with waitAt := w }, pwr := { Pwr.reset with refLost := lost } }
    (m .off none 0).clk.vaon33 = true ∧ bitOf (m .off none 32).pwr.refLost 5 = true ∧ bitOf (m .off none 0).pwr.refLost 5 = false ∧
    (m .service none 0).clk.phase ≠ .off ∧ (m .off (some .clock) 1).mgmt.waitAt = some .clock ∧ bitOf (m .off (some .clock) 1).pwr.refLost 0 = true ∧
    (m .off (some .clock) 1).pickBank 0 = none ∧ (m .starting none 0).scanOpen = true ∧ (m .service none 0).scanOpen = false ∧
    testOp .highz = true ∧ (m .starting (some .scan) 0).mgmt.waitAt = some .scan ∧ (m .hold none 0).escutcheonUp = true ∧
    (5 : Nat) ≠ 0 ∧ (m .hold none 0).mgmt.waitAt ≠ some .clock := by decide

theorem test_hyps_RenewalCommands :
    let s : State := { State.reset with clk := { Clk.reset with vaon33 := true, phase := .service }, ren := { State.reset.ren with active := 101, inStep := true }
                                        tier := { Tier.reset with st := [(1, 1)] } }
    let o := s.setPart 31 2
    let h : State := { s with jig := { Jig.reset with held := [(31, some 5)] } }
    State.reset.clk.phase ≠ .service ∧ tget s.ren.action 31 = 0 ∧ s.renewApplies 31 1 0 = true ∧ s.renewApplies 83 1 0 = true ∧ s.isOut 83 = false ∧
    o.isOut 31 = true ∧ s.renewApplies 31 2 0 = true ∧ tget s.jig.held 31 = none ∧ tget h.jig.held 31 = some 5 ∧ h.renewApplies 31 2 0 = true ∧
    s.renewApplies 99 2 0 = true ∧ o.renewApplies 31 3 0 = true ∧ s.renewApplies 44 4 0 = true ∧ s.renewApplies 100 4 0 = true ∧
    s.renewApplies 101 5 0 = true ∧ s.ren.active = 101 ∧ o.renewApplies 31 6 0x1100 = true ∧ o.obj 0x2C02 32 < 2 ^ 64 ∧ s.renewApplies 39 1 0 = true ∧ s.part 39 = 0 ∧
    (∀ b ∈ [28, 29, 30, 31], s.part b = 0 ∧ tget s.ren.action b = 0 ∧ tget s.jig.held b = none) ∧ 0x8000 ≤ substEntry 0x8000 0 := by decide

theorem test_hyps_RenewalReturns :
    let s : State := { State.reset with clk := { Clk.reset with vaon33 := true, phase := .service, dcount := 10 ^ 12 }
                                        tier := { Tier.reset with st := [(1, 1)] }, ren := { State.reset.ren with active := 101, passed := [40, 41, 42, 43] } }
    let a : Acc := { (default : Acc) with tier := 1, st := .flight }
    let m : List Report → State := fun r => { s with ren := { s.ren with reports := r } }
    let u : Link → State := fun l => { s.setPart 83 3 with link := { s.link with links := [(31, l)] } }
    (s.setPart 44 4).part 44 = 4 ∧ s.part 31 ≠ 4 ∧ ({ s with tier := { s.tier with accs := [a] } } : State).tier.accs[0]? = some a ∧
    a.tier = domTier 44 ∧ (s.setPart 31 3).part 31 = 3 ∧ tget s.ren.leftAt 31 + (s.setPart 31 3).drainBound 31 ≤ s.clk.dcount ∧
    s.ren.noSpare = [] ∧ spareFor 1 1 = some 0 ∧ 0x8000 ≤ substEntry ((s.putObj 0x2C02 32 0x8000).obj 0x2C02 32) 0 ∧
    ((u { st := .up }).lnk 31).st = .up ∧ (u { st := .up }).part 83 = 3 ∧ ((u { st := .mappedOut }).lnk 31).st = .mappedOut ∧
    ((u {}).lnk 31).st = .off ∧ (s.setPart 44 3).part 44 = 3 ∧ (∀ e ∈ s.tierDoms (domTier 44), e ≠ 44 → e ∈ s.ren.passed) ∧
    s.mgmt.held = [] ∧ s.part (203 - s.ren.active) = 0 ∧ (m []).ren.reports = [] ∧ (m [.bay 31]).ren.reports = .bay 31 :: [] ∧
    tget (m [.bay 31]).ren.action 31 = 0 ∧ tget s.jig.held 31 = none ∧ ((m [.back 31]).setPart 31 2).part 31 = 2 ∧
    (u { st := .up, rxSwap := some 1 }).lnk 31 = { st := .up, rxSwap := some 1 } := by decide

theorem test_hyps_EachCommandDoesItsOperation : (siteOk 31 9 11 && decide (4 < 5)) = true ∧ siteOk 32 0 0 = false := by decide

end Sys2Proof.Tests
end

/-!
Section advance (O20): the accounting procedure of one fclk, the wave that a source starts, the end of a section in a bay,
and the chained advance. One lemma says what each command does in each of its cases.
-/
namespace Sys2Proof.Machine

/-! ### Commands whose numbers are in range -/

/-- A command on a unit whose numbers are in range is carried out (R16). -/
theorem onUnit_inRange {ok : Bool} (h : ok = true) (act : State → State) (s : State) : onUnit ok act s = .next (act s) := by
  simp [onUnit, h]

section
variable {b d : Nat} (hb : b < 32) (hd : d < 4) (s : State)
include hb hd

theorem exec_accountingTick : exec (.accountingTick b d) s = .next (opAccountingTick b d s) :=
  onUnit_inRange (by simp [hb, hd]) _ _

theorem exec_bayQuiescent : exec (.bayQuiescent b d) s = .next (opBayQuiescent b d s) :=
  onUnit_inRange (by simp [hb, hd]) _ _

end

theorem exec_sourceSwitch {b row col d : Nat} (hu : siteOk b row col = true) (hd : d < 4) (s : State) :
    exec (.sourceSwitch b row col d) s = .next (opSourceSwitch b row col d s) :=
  onUnit_inRange (by simp [hu, hd]) _ _

theorem exec_chainedAdvance {b : Nat} (hb : b < 32) (s : State) :
    exec (.chainedAdvance b) s = .next (opChainedAdvance b s) :=
  onUnit_inRange (by simp [hb]) _ _

/-! ### One fclk of the accounting procedure (R106 to R110)

`top.or x.latch` is the cause latched in the fclk: the highest that is asserted, else the one latched before. -/

section
variable {x : Inst} {top : Option Nat}

/-- The due event has not come, and a cause is latched: the fclk counts to it. -/
theorem Inst.tick_stalled (hpre : x.pre = .run) (hdue : x.p + 1 = x.due) (hnow : x.now = false) {c : Nat}
    (hl : top.or x.latch = some c) :
    x.tick top = { x with
      latch := some c, stall := (List.range 8).map (fun i => x.stall.getD i 0 + (if i = c then 1 else 0))
      measured := x.measured + 1 } := by
  have hdue' : x.p + 1 = Inst.due { x with latch := some c } := hdue
  cases top <;> simp_all [Inst.tick, Inst.stalled]

/-- The due event has not come, and no cause is latched: the fclk counts to the residual. -/
theorem Inst.tick_residual (hpre : x.pre = .run) (hdue : x.p + 1 = x.due) (hnow : x.now = false)
    (hl : top.or x.latch = none) :
    x.tick top = { x with residual := x.residual + 1, measured := x.measured + 1 } := by
  obtain ⟨htop, hlatch⟩ := Option.or_eq_none_iff.1 hl
  have hdue' : x.p + 1 = Inst.due { x with latch := none } := hdue
  simp_all [Inst.tick]

/-- No event is due, or it has come: P advances. -/
theorem Inst.tick_advances (hpre : x.pre = .run) (hdue : ¬(x.p + 1 = x.due ∧ x.now = false)) :
    x.tick top = { x with
      latch := top.or x.latch, p := x.p + 1, measured := x.measured + 1, events := x.events + (if x.now then 1 else 0)
      now := false } := by
  have hwait : (x.p + 1 == x.due && !x.now) = false := by simpa using hdue
  cases x
  cases hpre
  cases top <;> exact if_neg (ne_true_of_eq_false hwait)

/-- While a pre-emption is carried out the fclk counts to code 4 (R110). -/
theorem Inst.tick_preempted (hpre : x.pre = .saving ∨ x.pre = .restoring) (hnow : x.now = false) :
    x.tick top = { x with
      latch := top.or x.latch, stall := (List.range 8).map (fun i => x.stall.getD i 0 + (if i = 4 then 1 else 0))
      measured := x.measured + 1 } := by
  cases top <;> rcases hpre with hpre | hpre <;> simp [Inst.tick, Inst.stalled, hpre, hnow]

end

/-- ACCOUNTING_TICK of a section that runs is one fclk of its procedure, on the causes that the state asserts. -/
theorem opAccountingTick_inst {s : State} {b d : Nat} {x : Inst} (hx : tfind s.insts (b * 4 + d) = some x) :
    opAccountingTick b d s = s.putInst (b * 4 + d) (x.tick (topCause (s.asserted (b * 4 + d) x))) := by
  simp [opAccountingTick, hx]

/-! ### The wave (R88) -/

/-- A source that knows of exhaustion and has emitted LAST for every tile of its bay is done. -/
theorem State.sourceDone_exhausted {s : State} {b site d : Nat} {i : Inst} (ht : i.t ≠ 0)
    (he : (s.srcOf b site d).exhausted = true)
    (hsent : (s.srcOf b site d).claims.length ≤ (s.drawer b d).tilesSent site (s.srcOf b site d)) :
    s.sourceDone b site d i = true := by
  simp [State.sourceDone, ht, he, hsent]

/-- A source that is done, with nothing of its context on the way, starts the wave on every output route. -/
theorem opSourceSwitch_done {s : State} {b row col d site : Nat} {i : Inst} (hsite : siteNo row col = site)
    (hi : s.inst b d = some i) (ht : i.t ≠ 0) (hsrc : (s.drawer b d).isSource site = true)
    (hstart : s.mayStart b d = true) (hsw : d ∉ (s.site b site).swOut) (hxf : ∀ e ∈ s.xfers, e.unit ≠ unitKey b site d)
    (hpipe : ∀ e ∈ (s.site b site).pipe, e.2.ctx ≠ d) (hdone : s.sourceDone b site d i = true) :
    opSourceSwitch b row col d s = s.putSite b site { s.site b site with
      swOut := (s.site b site).swOut ++ [d]
      owed := (s.site b site).owed ++ ((s.drawer b d).waveOuts site).map (fun k =>
        (k, mkC opcSwitch d ((s.site b site).waveSeq k d) (s.nextDrawer b d))) } := by
  subst hsite
  have hxf' : s.xfers.all (fun e => e.unit != unitKey b (siteNo row col) d) = true := by simpa using hxf
  have hpipe' : (s.site b (siteNo row col)).pipe.all (fun e => e.2.ctx != d) = true := by simpa using hpipe
  simp [opSourceSwitch, hi, ht, hsrc, hstart, hsw, hxf', hpipe', hdone]

/-! ### The end of a section in a bay (R76, R90, R94, R97) -/

/-- A bay ends nothing of a drawer that it runs no more. -/
theorem State.bayEnds_inactive {s : State} {b d : Nat} (ha : (s.bay b).active ≠ d) : s.bayEnds b d = s := by
  simp [State.bayEnds, ha]

/-- The bay's active drawer waits for the advance where its section chains, else it is IDLE. -/
theorem State.bayEnds_active {s : State} {b d : Nat} (ha : (s.bay b).active = d) (hst : (s.drawer b d).st = .active) :
    s.bayEnds b d = if (s.drawer b d).chain then s.putBay b { s.bay b with advWait := some s.fclkNow }
      else s.putDrawer b d { s.drawer b d with st := .idle } := by
  simp [State.bayEnds, ha, hst]

section
variable {s : State} {b d : Nat} {i : Inst} (hi : s.inst b d = some i) (hquiet : b ∉ i.quiet) (hpre : i.pre = .run)
  (hq : s.quiescent b d = true)
include hi hquiet hpre hq

/-- A bay that is not the last of its section is recorded. -/
theorem opBayQuiescent_notLast (hst : (s.drawer b d).st = .active ∨ (s.drawer b d).st = .idle)
    (hlen : i.quiet.length + 1 < i.bays) :
    opBayQuiescent b d s = (s.bayEnds b d).putInst (s.instKey b d) { i with quiet := i.quiet ++ [b] } := by
  have hopen : i.quiet.length + 1 < max 1 i.bays := by omega
  rcases hst with hst | hst <;> simp [opBayQuiescent, hi, hquiet, hpre, hq, hst, hopen]

/-- With the last bay of a section that does not chain, its accounting is closed and the task ends its sections. -/
theorem opBayQuiescent_last (hst : (s.drawer b d).st = .active) (hlen : max 1 i.bays ≤ i.quiet.length + 1)
    (hchain : (s.drawer b d).chain = false) :
    opBayQuiescent b d s =
      (((s.bayEnds b d).putInst (s.instKey b d) ({ i with quiet := i.quiet ++ [b] } : Inst).finish).closeInst
        (s.instKey b d) stOk false).modTask i.task (fun t => { t with ended := true }) := by
  have hlast : ¬ i.quiet.length + 1 < max 1 i.bays := by omega
  simp [opBayQuiescent, hi, hquiet, hpre, hq, hst, hlast, hchain]

end

/-! ### The chained advance (R94) -/

/-- The ARMED drawer of lowest number. -/
theorem State.find_armed {s : State} {b a : Nat} (ha : a < 4) (harmed : (s.drawer b a).st = .armed)
    (hfirst : ∀ k < a, (s.drawer b k).st ≠ .armed) :
    (List.range 4).find? (fun k => (s.drawer b k).st == .armed) = some a :=
  List.find?_range_eq_some.2 ⟨by simpa using harmed, by simpa using ha, by simpa using hfirst⟩

/-- A bay that waits to advance, and is not frozen, makes its ARMED drawer the active one. -/
theorem opChainedAdvance_armed {s s1 : State} {b a since : Nat} (hwait : (s.bay b).advWait = some since)
    (hfind : (List.range 4).find? (fun k => (s.drawer b k).st == .armed) = some a) (hfrozen : (s.bay b).frozen = none)
    (hact : s.activateBay b a (s.drawer b a).b0 (s.drawer b a).task = some s1) : opChainedAdvance b s = s1 := by
  simp [opChainedAdvance, hwait, hfind, hfrozen, hact]

/-- Settles O20: each command reduces to its operation, and each clause is one case of what that operation does. -/
theorem sectionAdvance : Obligations.SectionAdvance := by
  intro s b d hb hd
  refine ⟨fun x top l hx htop hl => ?_, fun row col site x i hu hsite hdr hi ht hsrc hstart hsw hxf hpipe he hsent => ?_,
    fun x i hdr hi hquiet hpre hq => ?_, fun since a s1 hwait ha harmed hfirst hfrozen hact => ?_⟩
  · have hor : top.or x.latch = l := by rw [hl]; cases top <;> rfl
    rw [exec_accountingTick hb hd, opAccountingTick_inst hx, ← htop]
    refine ⟨fun hpre hdue hnow c hc => ?_, fun hpre hdue hnow hn => ?_, fun hpre hdue => ?_, fun hpre hnow => ?_⟩
    · rw [Inst.tick_stalled hpre hdue hnow (hor.trans hc)]
    · rw [Inst.tick_residual hpre hdue hnow (hor.trans hn)]
    · rw [Inst.tick_advances hpre hdue, hor]
    · rw [Inst.tick_preempted hpre hnow, hor]
  · subst hdr
    rw [exec_sourceSwitch hu hd,
      opSourceSwitch_done hsite hi ht hsrc hstart hsw hxf hpipe (State.sourceDone_exhausted ht he hsent)]
  · subst hdr
    rw [exec_bayQuiescent hb hd]
    refine ⟨fun hst hact hlen => ?_, fun hst hact hlen => ?_, fun hst hact hlen hchain => ?_⟩
    · rw [opBayQuiescent_notLast hi hquiet hpre hq (.inl hst) hlen, State.bayEnds_active hact hst]; rfl
    · rw [opBayQuiescent_notLast hi hquiet hpre hq (.inr hst) hlen, State.bayEnds_inactive hact]; rfl
    · rw [opBayQuiescent_last hi hquiet hpre hq hst hlen hchain, State.bayEnds_active hact hst, if_neg (by simp [hchain])]; rfl
  · rw [exec_chainedAdvance hb, opChainedAdvance_armed hwait (State.find_armed ha harmed hfirst) hfrozen hact]

end Sys2Proof.Machine

/-!
Pacer and tally (O22): a claim is asked for, a tile number is taken from the tally and joins the pacer's lead, and the claim
is released at the due value. One lemma says what each command does in each of its cases.
-/
namespace Sys2Proof.Machine

section
variable {b d : Nat} (hb : b < 32) (hd : d < 4) (s : State)
include hb hd

theorem exec_claimAsk : exec (.claimAsk b d) s = .next (opClaimAsk b d s) :=
  onUnit_inRange (by simp [hb, hd]) _ _

theorem exec_tallyRequest (remote : Option (Nat × Nat × Nat)) :
    exec (.tallyRequest b d remote) s = .next (opTallyRequest b d remote s) :=
  onUnit_inRange (by simp [hb, hd]) _ _

theorem exec_tallyAnswer : exec (.tallyAnswer b d) s = .next (opTallyAnswer b d s) :=
  onUnit_inRange (by simp [hb, hd]) _ _

theorem exec_pacerRelease : exec (.pacerRelease b d) s = .next (opPacerRelease b d s) :=
  onUnit_inRange (by simp [hb, hd]) _ _

end

/-! ### A claim is asked for (R75, R184, R187, R188) -/

/-- What makes a CLAIMER ready to ask. -/
theorem State.claimReady_iff {s : State} {b d : Nat} {i : Inst} (hi : s.inst b d = some i) :
    s.claimReady b d = true ↔ s.mayStart b d = true ∧ i.pre = .run ∧
      3 * (s.drawer b d).entries ≤ (s.srcOf b (siteOfByte ((s.drawer b d).imgByte 261)) d).frags.length ∧
      (s.srcOf b (siteOfByte ((s.drawer b d).imgByte 261)) d).exhausted = false ∧
      (b - (s.drawer b d).b0) ∉ i.waiting ∧ s.unfinished b d ≤ (s.drawer b d).prefetch := by
  simp [State.claimReady, hi, and_assoc]

/-- With the gate open a CLAIMER that is ready is put on the pacer's list, or told of exhaustion after the closing claim. -/
theorem opClaimAsk_ready {s : State} {b d : Nat} {i : Inst} (hi : s.inst b d = some i) (hready : s.claimReady b d = true)
    (hgate : s.gateOpen = true) :
    opClaimAsk b d s = if i.closed then s.tellSources b d 0x800
      else s.putInst (s.instKey b d) { i with waiting := i.waiting ++ [b - (s.drawer b d).b0] } := by
  simp [opClaimAsk, hi, hready, hgate]

/-! ### The tally is asked (R186, R187, R190, R191) -/

/-- A pacer with room in its lead asks its tally. -/
theorem Inst.wants_iff (i : Inst) :
    i.wants = true ↔ i.asked = false ∧ i.exhausted = false ∧ i.closed = false ∧ i.lead.length < 2 ∧ i.pre = .run := by
  simp [Inst.wants, and_assoc]

/-- A tally with a tile left gives out its next number. -/
theorem State.fetchAdd_left {s : State} {k : Nat} (h : (tget s.tallies k).next < (tget s.tallies k).t) :
    s.fetchAdd k = (some (tget s.tallies k).next,
      { s with tallies := tset s.tallies k { tget s.tallies k with next := (tget s.tallies k).next + 1 } }) := by
  simp [State.fetchAdd, h]

/-- A tally with no tile left answers exhausted and stays as it is. -/
theorem State.fetchAdd_exhausted {s : State} {k : Nat} (h : (tget s.tallies k).t ≤ (tget s.tallies k).next) :
    s.fetchAdd k = (none, s) := by
  simp [State.fetchAdd, h]

/-- The arbiter that serves a port counts the requests that wait and changes no tally. -/
@[simp] theorem State.tallyServed_tallies (s : State) (die port : Nat) : (s.tallyServed die port).tallies = s.tallies := by
  simp [State.tallyServed]

/-- The state in which a pacer's own tally is read: a scratch cell's is read at once, an I/O die's as its arbiter serves the
pacer's port. -/
def State.tallyPort (s : State) (b : Nat) (i : Inst) : State :=
  if i.tally < 256 then s.tallyServed (i.tally / 64) b else s

@[simp] theorem State.tallyPort_tallies (s : State) (b : Nat) (i : Inst) : (s.tallyPort b i).tallies = s.tallies := by
  unfold State.tallyPort
  split <;> simp

section
variable {s : State} {b d : Nat} {i : Inst} (hi : tfind s.insts (b * 4 + d) = some i)
include hi

/-- A tally of this device answers a pacer by fetch-and-add. -/
theorem opTallyRequest_local (hwants : i.wants = true) (haway : i.away = false)
    (hserved : 256 ≤ i.tally ∨ (s.tallyTurn (i.tally / 64) b = true ∧ s.carcassUp (b / 4) (8 + i.tally / 64) = true)) :
    opTallyRequest b d none s = ((s.tallyPort b i).fetchAdd i.tally).2.putInst (b * 4 + d)
      { i with asked := true, askedAt := s.fclkNow, answer := some ((s.tallyPort b i).fetchAdd i.tally).1 } := by
  rcases hserved with hcell | ⟨hturn, hup⟩
  · simp [opTallyRequest, State.tallyPort, hi, hwants, haway, Nat.not_lt.2 hcell]
  · simp [opTallyRequest, State.tallyPort, hi, hwants, haway, hturn, hup]

/-- For a tally on another device a CLAIM goes out, the pacer's own tally being given up with the first. -/
theorem opTallyRequest_remote {dest num key : Nat} {s1 : State} (hwants : i.wants = true)
    (hspan : (s.drawer b d).spanDev = true) (haway : i.away = true ∨ (tget s.tallies i.tally).next = 0)
    (hsend : ({ s with tallies := tmod s.tallies i.tally (fun t => { t with used := t.used && i.away }) } : State).sendReq
      { type := 4, dest := dest, src := 0, arg := num % 256 + key % 65536 * 256 } (b * 4 + d) (.claim (b * 4 + d)) b 1 = some s1)
    (hsent : s1.link.reqs.length ≠ s.link.reqs.length) :
    opTallyRequest b d (some (dest, num, key)) s = s1.putInst (b * 4 + d)
      { i with asked := true, askedAt := s.fclkNow, away := true } := by
  have hown : (!i.away && decide (0 < (tget s.tallies i.tally).next)) = false := by
    rcases haway with h | h <;> simp [h]
  simp [opTallyRequest, hi, hwants, hspan, hown, hsend, hsent]

/-! ### The tally's answer (R187, R192, R193) -/

/-- A tile number joins the pacer's lead. -/
theorem opTallyAnswer_tile (hasked : i.asked = true) (href : i.refused = none) {c : Nat}
    (hans : i.answer = some (some c)) :
    opTallyAnswer b d s = s.putInst (b * 4 + d)
      { i with asked := false, answer := none, refused := none, lead := i.lead ++ [c] } := by
  simp [opTallyAnswer, hi, hasked, href, hans]

/-- The pacer is told that the tally is exhausted. -/
theorem opTallyAnswer_exhausted (hasked : i.asked = true) (href : i.refused = none) (hans : i.answer = some none) :
    opTallyAnswer b d s = s.putInst (b * 4 + d)
      { i with asked := false, answer := none, refused := none, exhausted := true } := by
  simp [opTallyAnswer, hi, hasked, href, hans]

/-- Another status goes to the task. -/
theorem opTallyAnswer_refused (hasked : i.asked = true) {st : Nat} (href : i.refused = some st) :
    opTallyAnswer b d s = { s with
      insts := tset s.insts (b * 4 + d) { i with asked := false, answer := none, refused := none }
      jig := { s.jig with tasks := tmap s.jig.tasks (fun k t =>
        if k == i.task then { t with status := worst t.status st } else t) } } := by
  simp [opTallyAnswer, hi, hasked, href, State.putInst]

/-! ### The claim is released at the due value (R105, R107, R187 to R189) -/

section
variable (hnow : i.now = false) (hclosed : i.closed = false) (hpre : i.pre = .run) (hdue : i.p + 1 = i.due) {off : Nat}
  (hoff : nextOffset i.waiting i.served = some off)
include hnow hclosed hpre hdue hoff

/-- The claim at the front of the lead goes to the next asking bay, whose sources are told. -/
theorem opPacerRelease_tile {c : Nat} {r : List Nat} {ix : Nat} (hlead : i.lead = c :: r)
    (hfree : freeEntry (s.claimsOf (b + off) d) = some ix) :
    let s1 := s.putInst (b * 4 + d)
      { i with now := true, waiting := i.waiting.filter (· != off), served := off, lead := r }
    opPacerRelease b d s = (({ s1 with
      claims := tset s1.claims ((b + off) * 4 + d) (s.claimsOf (b + off) d ++ [({
        ix := ix, tile := c
        idx := tileIndices (s.drawer (b + off) d).shapes (s.drawer (b + off) d).extents c
        lastBy := [], freed := false } : Claim)]) } : State).tellSources (b + off) d ix).bump 0x3120 (b + 1) 1 := by
  simp [opPacerRelease, hi, hnow, hclosed, hpre, hdue, hoff, hlead, hfree]

/-- With the lead empty and the tiles exhausted the closing claim answers every bay that waits. -/
theorem opPacerRelease_closing (hlead : i.lead = []) (hexh : i.exhausted = true) :
    opPacerRelease b d s = (off :: i.waiting.filter (· != off)).foldl (fun st o => st.tellSources (b + o) d 0x800)
      (s.putInst (b * 4 + d) { i with now := true, waiting := [], served := off, closed := true }) := by
  simp [opPacerRelease, hi, hnow, hclosed, hpre, hdue, hoff, hlead, hexh]

end

end

/-- Settles O22: each command reduces to its operation, and each clause is one case of what that operation does. -/
theorem pacerAndTally : Obligations.PacerAndTally := by
  intro s b d i hb hd
  refine ⟨fun dr hdr hi hstart hpre hfrags hexh hwait hroom hgate => ?_, fun hi => ⟨fun hasked hexh hclosed hlead hpre => ?_,
    fun c hasked href hans => ?_, fun hasked href hans => ?_, fun st hasked href => ?_,
    fun hnow hclosed hpre hdue off hoff => ⟨fun c r ix hlead hfree => ?_, fun hlead hexh => ?_⟩⟩⟩
  · subst hdr
    have hready := (State.claimReady_iff hi).2 ⟨hstart, hpre, hfrags, hexh, hwait, hroom⟩
    rw [exec_claimAsk hb hd, opClaimAsk_ready hi hready hgate]
    rfl
  · have hwants := i.wants_iff.2 ⟨hasked, hexh, hclosed, hlead, hpre⟩
    refine ⟨fun haway hserved => ?_, fun dest num key s1 hspan haway hsend hsent => ?_⟩
    · intro t s1
      have ht : tget (s.tallyPort b i).tallies i.tally = t := by simp [t]
      rw [exec_tallyRequest hb hd, opTallyRequest_local hi hwants haway hserved]
      refine ⟨fun hleft => ?_, fun hnone => ?_⟩
      · rw [State.fetchAdd_left (by rwa [ht]), ht]
        rfl
      · rw [State.fetchAdd_exhausted (by rwa [ht])]
        rfl
    · rw [exec_tallyRequest hb hd, opTallyRequest_remote hi hwants hspan haway hsend hsent]
  · rw [exec_tallyAnswer hb hd, opTallyAnswer_tile hi hasked href hans]
  · rw [exec_tallyAnswer hb hd, opTallyAnswer_exhausted hi hasked href hans]
  · exact ⟨_, exec_tallyAnswer hb hd s, by rw [opTallyAnswer_refused hi hasked href]; exact ⟨rfl, rfl, rfl⟩⟩
  · intro s1
    rw [exec_pacerRelease hb hd, opPacerRelease_tile hi hnow hclosed hpre hdue hoff hlead hfree]
  · rw [exec_pacerRelease hb hd, opPacerRelease_closing hi hnow hclosed hpre hdue hoff hlead hexh]

end Sys2Proof.Machine

/-!
Matrix pairs (O13): a compute, SCALE or IMPORT pair of a matrix cell fires. One lemma says what each pair does in each of
its cases; `Mxc.addLane` is what a compute pair adds to one narrow lane.
-/
namespace Sys2Proof.Machine

/-! ### The pair that a command fires (R118, R142) -/

section
variable {s : State} {b row col site : Nat} {sl : Slot} {arg : Nat} (hu : siteOk b row col = true)
  (hsite : siteNo row col = site) (hkind : siteKind row col = .mxc) (hgo : s.goPair b site = some (sl, arg))
include hu hsite hkind hgo

/-- A GO pair with neither IMPORT nor SCALE set is a compute pair. -/
theorem exec_mxcMac_goPair (himp : bitOf arg 11 = false) (hscale : bitOf arg 10 = false) :
    exec (.mxcMac b row col) s = .next (macPair s b site sl false arg) := by
  subst hsite
  refine (onUnit_inRange hu _ _).trans ?_
  simp [opMxcMac, mxcPair, hkind, hgo, himp, hscale]

/-- A GO pair with SCALE alone set is a SCALE pair. -/
theorem exec_mxcScale_goPair (himp : bitOf arg 11 = false) (hscale : bitOf arg 10 = true) :
    exec (.mxcScale b row col) s = .next (scalePair s b site sl false arg) := by
  subst hsite
  refine (onUnit_inRange hu _ _).trans ?_
  simp [opMxcScale, mxcPair, hkind, hgo, himp, hscale]

/-- A GO pair with IMPORT alone set is an IMPORT pair. -/
theorem exec_mxcImport_goPair (himp : bitOf arg 11 = true) (hscale : bitOf arg 10 = false) :
    exec (.mxcImport b row col) s = .next (importPair s b site sl false arg) := by
  subst hsite
  refine (onUnit_inRange hu _ _).trans ?_
  simp [opMxcImport, mxcPair, hkind, hgo, himp, hscale]

/-- A GO pair with IMPORT and SCALE set faults its context. -/
theorem exec_mxcImport_both (himp : bitOf arg 11 = true) (hscale : bitOf arg 10 = true) :
    exec (.mxcImport b row col) s = .next (s.faultCtx b site sl.ctx stProtocol) := by
  subst hsite
  refine (onUnit_inRange hu _ _).trans ?_
  simp [opMxcImport, mxcPair, hkind, hgo, himp, hscale]

end

/-! ### What each pair does (R116 to R131, R142, R204) -/

/-- A matrix cell that has taken streamed tokens; a LAST among them ends a tile (R40, R203). -/
def Mxc.taken (m : Mxc) (last : Bool) : Mxc :=
  { m with tile := if last then m.tile + 1 else m.tile, lastIn := m.lastIn || last }

/-- The matrix cell after an element pair, which counts toward the scale word in force (R127). -/
def Mxc.paired (m : Mxc) (last : Bool) : Mxc := { m.taken last with since := m.since + 1 }

/-- The streamed tokens of a compute pair: two of the 6-bit formats, else one (R116). -/
def Drawer.streamToks (d : Drawer) (site : Nat) (sl : Slot) : List DTok :=
  if fmtWidth (d.cfg site 1024) = 6 then [sl.on (d.sIn1 site), sl.on (d.sIn2 site)] else [sl.on (d.sIn1 site)]

/-- A pair of a matrix cell fires and leaves the cell's drawer as `m`. -/
def State.firedMx (s : State) (b site : Nat) (sl : Slot) (m : Mxc) : State :=
  (s.putSite b site ((s.site b site).fired sl)).putMx b site sl.ctx m

section
variable {s : State} {b site : Nat} {sl : Slot} {annul : Bool} {arg : Nat} {d : Drawer} {m : Mxc}
  (hd : s.drawer b sl.ctx = d) (hm : s.mx b site sl.ctx = m)
include hd hm

/-- An annulled compute pair leaves the sums as they are. -/
theorem macPair_annulled (h : annul = true ∨ sl.live = false) :
    macPair s b site sl annul arg = s.firedMx b site sl (m.paired ((d.streamToks site sl).any (fun t => t.last))) := by
  subst hd hm
  rcases h with h | h <;> simp [macPair, State.firedMx, Mxc.paired, Mxc.taken, Drawer.streamToks, h]

section
variable {e : Member} (hlive : sl.live = true) (he : d.member site = some e)
include hlive he

omit hm in
/-- A live compute pair on a block out of range faults its context. -/
theorem macPair_blockAbsent (hblock : min e.blocks (mxcClass (d.cfg site 1025)).blocks ≤ bits arg 9 5) :
    macPair s b site sl false arg = s.faultCtx b site sl.ctx stProtocol := by
  subst hd
  simp only [macPair, he]
  rw [if_neg (by rw [hlive]; decide), if_pos (by rw [decide_eq_true hblock]; rfl)]

variable (hblock : bits arg 9 5 < min e.blocks (mxcClass (d.cfg site 1025)).blocks)
  (hslot : bits arg 4 0 < d.cfg site 1028) (hscale : isMx (d.cfg site 1024) = true → m.scale.isSome = true)
  (himp : tfind m.imp (bits arg 4 0) = none)
include hblock hslot hscale himp

/-- A live compute pair with block, slot and scale in order is held to the readiness of its block. -/
theorem macPair_inOrder :
    macPair s b site sl false arg =
      if blockReady (some e) m (bits arg 9 5) then
        s.firedMx b site sl ((m.mac (d.cfg site 1025) (d.cfg site 1024) (e.half m.tile + bits arg 9 5) (bits arg 4 0)
          (streamed m (d.cfg site 1024) ((d.streamToks site sl).map (fun t => t.pay.toNat)))).paired
            ((d.streamToks site sl).any (fun t => t.last)))
      else s.bump 0x3123 (b + 1) 1 := by
  subst hd hm
  have hword : (isMx ((s.drawer b sl.ctx).cfg site 1024) && (s.mx b site sl.ctx).scale.isNone) = false := by
    cases hmx : isMx ((s.drawer b sl.ctx).cfg site 1024) with
    | false => rfl
    | true => rw [Bool.true_and, Option.isNone_eq_false_iff]; exact hscale hmx
  simp only [macPair, he, beq_iff_eq]
  rw [if_neg (by rw [hlive]; decide), if_neg (by
    rw [decide_eq_false (Nat.not_le.2 hblock), decide_eq_false (Nat.not_le.2 hslot), hword, himp]; decide)]
  cases blockReady (some e) (s.mx b site sl.ctx) (bits arg 9 5) <;> rfl

end

/-- A live SCALE pair makes its token the scale word in force. -/
theorem scalePair_live (hlive : (sl.on (d.sIn1 site)).pv = true) (hslot : bits arg 4 0 < d.cfg site 1028)
    (himp : tfind m.imp (bits arg 4 0) = none) :
    scalePair s b site sl false arg = s.firedMx b site sl
      { m.taken (sl.on (d.sIn1 site)).last with scale := some (sl.on (d.sIn1 site)).pay, since := 0 } := by
  subst hd hm
  simp [scalePair, State.firedMx, Mxc.taken, hlive, Nat.not_le.2 hslot, himp]

/-- A live SCALE pair on a slot that does not exist, or that is being imported, faults its context. -/
theorem scalePair_badSlot (hlive : (sl.on (d.sIn1 site)).pv = true)
    (hslot : d.cfg site 1028 ≤ bits arg 4 0 ∨ (tfind m.imp (bits arg 4 0)).isSome = true) :
    scalePair s b site sl false arg = s.faultCtx b site sl.ctx stProtocol := by
  subst hd hm
  simp [scalePair, hlive, hslot]

/-- An annulled SCALE pair changes no scale. -/
theorem scalePair_annulled (h : annul = true ∨ (sl.on (d.sIn1 site)).pv = false) :
    scalePair s b site sl annul arg = s.firedMx b site sl (m.taken (sl.on (d.sIn1 site)).last) := by
  subst hd hm
  rcases h with h | h <;> simp [scalePair, State.firedMx, Mxc.taken, h]

/-- A live IMPORT pair adds the next segment of its slot's import, and ends the import with segment 81. -/
theorem importPair_live (hnarrow : (mxcClass (d.cfg site 1025)).narrow = true) (hslot : bits arg 4 0 < d.cfg site 1028)
    (hlive : (sl.on (d.sIn1 site)).pv = true) {seg : Nat} (hseg : tget m.imp (bits arg 4 0) = seg) {m2 : Mxc}
    (hm2 : (m.taken (sl.on (d.sIn1 site)).last).importSeg (bits arg 4 0) seg (sl.on (d.sIn1 site)).pay.toNat = m2) :
    importPair s b site sl false arg = s.firedMx b site sl
      { m2 with imp := if seg = 81 then tdel m2.imp (bits arg 4 0) else tset m2.imp (bits arg 4 0) (seg + 1) } := by
  subst hd hm hseg hm2
  simp [importPair, State.firedMx, Mxc.taken, hnarrow, Nat.not_le.2 hslot, hlive]

end

/-! ### The sums of the narrow lanes (R128, R130) -/

/-- The products of one column of a pair: each streamed element with the block's element in column `n`. -/
def Mxc.products (m : Mxc) (wFmt sFmt block : Nat) (xs : List (Nat × Option Int)) (n : Nat) : List (Nat × Int) :=
  ((List.range xs.length).zip xs).map (fun e => narrowProduct (decodeElem sFmt e.2.1)
    (decodeElem wFmt ((blockBits m block (mxcClass wFmt).elemToks >>> (fmtWidth wFmt * (32 * e.1 + n))) % 2 ^ fmtWidth wFmt))
    e.2.2 (if isMx wFmt then e8m0 (blockScale m (mxcClass wFmt) block (e.1 / 32) n) else some 0))

/-- The products `ps` are added to a lane, and their flags to its flags. -/
def Mxc.addLane (m : Mxc) (key : Nat) (ps : List (Nat × Int)) : Mxc :=
  { m with
    acc := tset m.acc key (tget m.acc key + (ps.map (fun p => p.2)).sum)
    flags := tset m.flags key (ps.foldl (fun f p => f ||| p.1) (tget m.flags key)) }

section
variable (m : Mxc) (ps : List (Nat × Int))

theorem Mxc.addLane_acc_self (key : Nat) :
    tget (m.addLane key ps).acc key = tget m.acc key + (ps.map (fun p => p.2)).sum :=
  tget_tset_self _ _ _

theorem Mxc.addLane_acc_ne {key other : Nat} (h : other ≠ key) : tget (m.addLane key ps).acc other = tget m.acc other :=
  tget_tset_ne _ _ h

theorem Mxc.addLane_flags_self (key : Nat) :
    tget (m.addLane key ps).flags key = ps.foldl (fun f p => f ||| p.1) (tget m.flags key) :=
  tget_tset_self _ _ _

theorem Mxc.addLane_flags_ne {key other : Nat} (h : other ≠ key) :
    tget (m.addLane key ps).flags other = tget m.flags other :=
  tget_tset_ne _ _ h

end

/-- A pair of a narrow class adds to each lane of its slot the products of the lane's column. -/
theorem Mxc.mac_narrow (m : Mxc) {wFmt : Nat} (sFmt block slot : Nat) (xs : List (Nat × Option Int))
    (h : (mxcClass wFmt).narrow = true) :
    m.mac wFmt sFmt block slot xs =
      (List.range 32).foldl (fun m' n => m'.addLane (slot * 32 + n) (m.products wFmt sFmt block xs n)) m :=
  if_pos h

/-- Of steps numbered from 0, only number `n` changes what `get` reads: a run of `k` of them changes it once, or not. -/
theorem foldl_range_get {σ α : Type} (get : σ → α) (step : σ → Nat → σ) (change : α → α) (n : Nat)
    (hself : ∀ x, get (step x n) = change (get x)) (hother : ∀ x j, j ≠ n → get (step x j) = get x) (x : σ) (k : Nat) :
    get ((List.range k).foldl step x) = if n < k then change (get x) else get x := by
  induction k with
  | zero => rfl
  | succ k ih =>
    rw [List.range_succ, List.foldl_append, List.foldl_cons, List.foldl_nil]
    by_cases hk : k = n
    · subst hk
      rw [hself, ih, if_neg (Nat.lt_irrefl k), if_pos (Nat.lt_succ_self k)]
    · rw [hother _ _ hk, ih]
      have hiff : n < k ↔ n < k + 1 := by omega
      simp only [hiff]

section
variable (m : Mxc) {wFmt : Nat} (sFmt block slot : Nat) (xs : List (Nat × Option Int)) {n : Nat}
  (h : (mxcClass wFmt).narrow = true) (hn : n < 32)
include h hn

/-- Each narrow lane grows by the exact sum of its products. -/
theorem Mxc.mac_acc : tget (m.mac wFmt sFmt block slot xs).acc (slot * 32 + n) =
    tget m.acc (slot * 32 + n) + ((m.products wFmt sFmt block xs n).map (fun p => p.2)).sum := by
  rw [Mxc.mac_narrow m sFmt block slot xs h]
  exact (foldl_range_get (fun m' : Mxc => tget m'.acc (slot * 32 + n))
    (fun m' n => m'.addLane (slot * 32 + n) (m.products wFmt sFmt block xs n))
    (fun a => a + ((m.products wFmt sFmt block xs n).map (fun p => p.2)).sum) n
    (fun m' => m'.addLane_acc_self _ _) (fun m' j hj => m'.addLane_acc_ne _ (by omega)) m 32).trans (if_pos hn)

/-- The flags of each narrow lane grow by those of its products. -/
theorem Mxc.mac_flags : tget (m.mac wFmt sFmt block slot xs).flags (slot * 32 + n) =
    (m.products wFmt sFmt block xs n).foldl (fun f p => f ||| p.1) (tget m.flags (slot * 32 + n)) := by
  rw [Mxc.mac_narrow m sFmt block slot xs h]
  exact (foldl_range_get (fun m' : Mxc => tget m'.flags (slot * 32 + n))
    (fun m' n => m'.addLane (slot * 32 + n) (m.products wFmt sFmt block xs n))
    (fun f => (m.products wFmt sFmt block xs n).foldl (fun f p => f ||| p.1) f) n
    (fun m' => m'.addLane_flags_self _ _) (fun m' j hj => m'.addLane_flags_ne _ (by omega)) m 32).trans (if_pos hn)

end

/-- Settles O13: each command fires its own kind of pair, and each clause is one case of what that pair does. -/
theorem matrixPairs : Obligations.MatrixPairs := by
  refine ⟨fun s b row col site sl arg d m hu hsite hkind hgo hd hm => ?_,
    fun m wFmt sFmt block slot n xs hnarrow hn =>
      ⟨m.mac_acc sFmt block slot xs hnarrow hn, m.mac_flags sFmt block slot xs hnarrow hn⟩⟩
  refine ⟨fun himp hscale => ?_, fun himp hscale => ?_, fun himp hscale => ?_, exec_mxcImport_both hu hsite hkind hgo⟩
  · rw [exec_mxcMac_goPair hu hsite hkind hgo himp hscale]
    refine ⟨fun hlive => ?_, fun e hlive he => ⟨fun hblock => ?_, fun hblock hslot hword hidle =>
      ⟨fun hready => ?_, fun hready => ?_⟩⟩⟩
    · rw [macPair_annulled hd hm (.inr hlive)]
      rfl
    · rw [macPair_blockAbsent hd hlive he hblock]
    · rw [macPair_inOrder hd hm hlive he hblock hslot hword hidle, if_neg (by simp [hready])]
    · rw [macPair_inOrder hd hm hlive he hblock hslot hword hidle, if_pos hready]
      rfl
  · rw [exec_mxcScale_goPair hu hsite hkind hgo himp hscale]
    refine ⟨fun hlive hslot hidle => ?_, fun hlive hslot => ?_, fun hlive => ?_⟩
    · rw [scalePair_live hd hm hlive hslot hidle]
      rfl
    · rw [scalePair_badSlot hd hm hlive hslot]
    · rw [scalePair_annulled hd hm (.inr hlive)]
      rfl
  · intro hnarrow hslot hlive
    generalize hseg : tget m.imp (bits arg 4 0) = seg
    rw [exec_mxcImport_goPair hu hsite hkind hgo himp hscale, importPair_live hd hm hnarrow hslot hlive hseg rfl]
    by_cases hlast : seg = 81
    · subst hlast
      rfl
    · rw [if_neg hlast, if_neg hlast]
      rfl

end Sys2Proof.Machine

/-!
Matrix drains (O14): a DRAIN token that is due leaves its queue, and the drain of its mode empties the lanes or keeps them.
-/
namespace Sys2Proof.Machine

/-- A DRAIN token at the head of a control queue of a matrix cell is due. -/
theorem drainHead_due {s : State} {b row col site i mode : Nat} {t : CTok} (hsite : siteNo row col = site)
    (hkind : siteKind row col = .mxc) (hhead : s.headC b site i = some t) (hopc : cOpc t = opcDrain)
    (hseq : s.seqDue b site i t = true) (hmode : bits (cArg t) 3 0 = mode) :
    drainHead b row col i mode s = drainCell s b site i t := by
  subst hsite
  simp [drainHead, hhead, hopc, hkind, hmode, hseq]

/-- The tokens of a drain join the cell's output (R120). -/
def State.emitDrain (s : State) (b site ctx : Nat) (m : Mxc) (ps : List Payload) : State :=
  s.putSite b site ((s.site b site).emitMany 4 ctx ps m.lastIn true)

/-- The tokens of a rounding drain under drawer `d`, its conversions, and its blocks that are not finite (R121, R135). -/
def Mxc.rounded (m : Mxc) (d : Drawer) (site : Nat) : List Payload × List Conv × Nat :=
  m.drainToks (mxcClass (d.cfg site 1025)).narrow (d.cfg site 1028) (d.cfg site 1026) (d.cfg site 1027 % 4 == 1)
    (bitOf (d.cfg site 1027) 2)

/-- A rounding drain where no edging chain runs: its tokens go out and its conversions are counted (R121, R134). -/
def State.roundDrain (s : State) (b site ctx : Nat) (d : Drawer) (m : Mxc) : State :=
  ((s.emitDrain b site ctx m (m.rounded d site).1).countConv b (d.cfg site 1026) (m.rounded d site).2.1).bump
    0x3112 (b + 1) (m.rounded d site).2.2

/-- A rounding drain while the edging chain runs: every row slot goes through it (R174). -/
def State.roundEdge (s : State) (b site : Nat) (d : Drawer) (m : Mxc) : State :=
  s.edgeDrain b m (mxcClass (d.cfg site 1025)).narrow (if d.cfg site 1028 = 0 then 32 else d.cfg site 1028)

section
variable {s : State} {b site i : Nat} {t : CTok} {d : Drawer} {m : Mxc} (hd : s.drawer b (cCtx t) = d)
  (hm : s.mx b site (cCtx t) = m)
include hd hm

/-- ROUND_CLEAR leaves every lane at zero. -/
theorem drainCell_roundClear (hmode : bits (cArg t) 3 0 = 0) :
    drainCell s b site i t = (if s.edging b then (s.popC b site i).roundEdge b site d m
      else (s.popC b site i).roundDrain b site (cCtx t) d m).putMx b site (cCtx t) m.zeroed := by
  subst hd hm
  cases hedge : s.edging b <;>
    simp [drainCell, hmode, hedge, State.roundEdge, State.roundDrain, State.emitDrain, Mxc.rounded]

/-- ROUND_KEEP keeps the sums. -/
theorem drainCell_roundKeep (hmode : bits (cArg t) 3 0 = 1) :
    drainCell s b site i t = if s.edging b then (s.popC b site i).roundEdge b site d m
      else ((s.popC b site i).roundDrain b site (cCtx t) d m).putMx b site (cCtx t) { m with lastIn := false } := by
  subst hd hm
  cases hedge : s.edging b <;>
    simp [drainCell, hmode, hedge, State.roundEdge, State.roundDrain, State.emitDrain, Mxc.rounded]

/-- EXPORT_CLEAR of a narrow cell whose output format is EXACT emits the segments of every row slot. -/
theorem drainCell_exportClear (hmode : bits (cArg t) 3 0 = 2) (hfmt : d.cfg site 1026 = 0x1F)
    (hnarrow : (mxcClass (d.cfg site 1025)).narrow = true) :
    drainCell s b site i t = (if s.edging b then (s.popC b site i).edgeDrain b m true (d.cfg site 1028)
      else (s.popC b site i).emitDrain b site (cCtx t) m
        ((List.range (d.cfg site 1028)).flatMap (fun k => m.exportSlot k))).putMx b site (cCtx t) m.zeroed := by
  subst hd hm
  cases hedge : s.edging b <;> simp [drainCell, hmode, hfmt, hnarrow, hedge, State.emitDrain]

omit hm in
/-- EXPORT_CLEAR of another cell or format faults the context. -/
theorem drainCell_exportClear_fault (hmode : bits (cArg t) 3 0 = 2)
    (hbad : ¬(d.cfg site 1026 = 0x1F ∧ (mxcClass (d.cfg site 1025)).narrow = true)) :
    drainCell s b site i t = s.faultCtx b site (cCtx t) stProtocol := by
  subst hd
  have hbad' : (s.drawer b (cCtx t)).cfg site 1026 ≠ 0x1F ∨
      (mxcClass ((s.drawer b (cCtx t)).cfg site 1025)).narrow = false :=
    (Decidable.not_and_iff_or_not.1 hbad).imp_right Bool.eq_false_iff.2
  simp [drainCell, hmode, hbad']

omit hd in
/-- CLEAR emits nothing. -/
theorem drainCell_clear (hmode : bits (cArg t) 3 0 = 3) :
    drainCell s b site i t = (s.popC b site i).putMx b site (cCtx t) m.zeroed := by
  subst hm
  simp only [drainCell, hmode]

end

/-- A narrow lane with no flag set drains as its exact sum (R130). -/
theorem Mxc.lane_narrow {m : Mxc} {key : Nat} (h : tget m.flags key = 0) :
    m.lane true key = Num.ofInt (tget m.acc key) (2 ^ 288) := by
  simp only [Mxc.lane, h, if_true]
  rfl

/-- Settles O14: each command is the drain of its mode, and each clause is one case of what that drain does. -/
theorem matrixDrains : Obligations.MatrixDrains := by
  refine ⟨fun s b row col site i t d m hu hsite hkind hi hhead hopc hseq hd hm => ?_,
    fun m key => ⟨rfl, rfl, rfl, Mxc.lane_narrow⟩⟩
  have hdue {mode : Nat} (hmode : bits (cArg t) 3 0 = mode) :
      onUnit (siteOk b row col && i < 5) (drainHead b row col i mode) s = .next (drainCell s b site i t) := by
    rw [onUnit_inRange (by simp [hu, hi]), drainHead_due hsite hkind hhead hopc hseq hmode]
  refine ⟨fun hmode => (hdue hmode).trans ?_, fun hmode => (hdue hmode).trans ?_,
    fun hmode hfmt hnarrow => (hdue hmode).trans ?_, fun hmode hbad => (hdue hmode).trans ?_,
    fun hmode => (hdue hmode).trans ?_⟩
  · rw [drainCell_roundClear hd hm hmode]
    rfl
  · rw [drainCell_roundKeep hd hm hmode]
    rfl
  · rw [drainCell_exportClear hd hm hmode hfmt hnarrow, hnarrow]
    rfl
  · rw [drainCell_exportClear_fault hd hmode hbad]
  · rw [drainCell_clear hm hmode]

end Sys2Proof.Machine

/-!
The EDGE_MODE register (O21): what a write makes of each bay's bit, and when a bit that was cleared goes out (R174, R175).
-/
namespace Sys2Proof.Machine

section
variable {s : State} {n v : Nat}

/-- The bays whose bit a write may set: every drawer is EMPTY and no task holds the bay. -/
theorem edgeBit_set (hv : bitOf v n = true) (hold : bitOf (s.obj 0x2C10 1) n = false)
    (hempty : ∀ d < 4, (s.drawer n d).st = .empty) (hfree : tget s.jig.held n = none) :
    edgeBit s v n = s.putObj 0x2C10 1 (setBit (s.obj 0x2C10 1) n) := by
  have hall : (List.range 4).all (fun d => (s.drawer n d).st == .empty) = true := by simpa using hempty
  simp [edgeBit, hv, hold, hall, hfree]

/-- A bay that is in use keeps its bit, and the write is logged. -/
theorem edgeBit_inUse (hv : bitOf v n = true) (hold : bitOf (s.obj 0x2C10 1) n = false)
    (huse : (∃ d < 4, (s.drawer n d).st ≠ .empty) ∨ (tget s.jig.held n).isSome = true) :
    edgeBit s v n = s.logErr 0x2C1001 stProtocol 0 n n := by
  have hguard : ((List.range 4).all (fun d => (s.drawer n d).st == .empty) && (tget s.jig.held n).isNone) = false := by
    rcases huse with ⟨d, hd, hst⟩ | hheld
    · have hall : (List.range 4).all (fun d => (s.drawer n d).st == .empty) = false :=
        List.all_eq_false.2 ⟨d, List.mem_range.2 hd, by simpa using hst⟩
      rw [hall, Bool.false_and]
    · rw [Option.isNone_eq_false_iff.2 hheld, Bool.and_false]
  simp only [edgeBit, hv, hold, hguard, Bool.false_eq_true, if_true, if_false]

/-- A bit that is 0 and is written 0 stays. -/
theorem edgeBit_stays (hv : bitOf v n = false) (hold : bitOf (s.obj 0x2C10 1) n = false) : edgeBit s v n = s := by
  simp [edgeBit, hv, hold]

/-- A bit that is 1 and is written 0 waits for the chain to empty. -/
theorem edgeBit_clear (hv : bitOf v n = false) (hold : bitOf (s.obj 0x2C10 1) n = true) :
    edgeBit s v n = s.putBay n { s.bay n with edgeClear := true } := by
  simp [edgeBit, hv, hold]

end

/-- A bit that waits is cleared by its effect. -/
theorem opEdgeModeClearEffect_waiting {s : State} {n : Nat} (h : (s.bay n).edgeClear = true) :
    opEdgeModeClearEffect n s = (s.putBay n { s.bay n with edgeClear := false }).putObj 0x2C10 1
      (clrBit (s.obj 0x2C10 1) n) := by
  simp [opEdgeModeClearEffect, h]

/-- A written value of 32 bits is taken bay by bay. -/
theorem exec_edgeModeWrite {v : Nat} (hv : v < 2 ^ 32) (s : State) :
    exec (.edgeModeWrite v) s = .next ((List.range 32).foldl (fun st k => edgeBit st v k) s) := by
  change execEdgeModeWrite v s = _
  rw [execEdgeModeWrite, Nat.mod_eq_of_lt hv, State.writeEdgeMode]

theorem exec_edgeModeClearEffect {n : Nat} (hn : n < 32) (s : State) :
    exec (.edgeModeClearEffect n) s = .next (opEdgeModeClearEffect n s) :=
  onUnit_inRange (by simp [hn]) _ _

/-- Settles O21: the write goes through the bays, and each clause is one case of a bay's bit. -/
theorem edgeMode : Obligations.EdgeMode := by
  intro s n hn
  refine ⟨fun v hv => exec_edgeModeWrite hv s, fun v hv hold => ⟨edgeBit_set hv hold, edgeBit_inUse hv hold⟩,
    fun v => edgeBit_stays, fun v => edgeBit_clear, fun h => ?_⟩
  rw [exec_edgeModeClearEffect hn, opEdgeModeClearEffect_waiting h]

end Sys2Proof.Machine

/-!
Results of function cells (O16): what an element-wise pair inside its row emits, and what the pair that ends a row of
SMAX_MAX or ROWSTAT emits. `elemPair_inRow` and `rowPair_pipe` say it once for all operations of either kind.
-/
namespace Sys2Proof.Machine

/-! ### The pair that a command fires (R148) -/

/-- A GO compute pair of a function cell whose drawer is set to the command's operation is carried out. -/
theorem fncOp_compute {s : State} {b row col site op : Nat} {sl : Slot} {t : CTok} (hsite : siteNo row col = site)
    (hkind : siteKind row col = .fnc) (hchoose : s.choose b site = some sl) (hctl : sl.ctl = some t)
    (hopc : cOpc t = opcGo) (hgo : bits (cArg t) 11 10 = 0) (harg : bits (cArg t) 9 0 = 0)
    (hop : (s.drawer b sl.ctx).cfg site 1024 = op) (hsome : op ≠ 0) :
    fncOp op b row col s = fncCompute s b site sl false := by
  subst hsite
  have hpred : (opcGo == opcPred) = false := by decide
  simp [fncOp, hchoose, hctl, hkind, hop, hsome, hopc, hpred, hgo, harg]

/-! ### What a pair leaves at its site -/

section
variable (s : State) (b site : Nat)

@[simp] theorem State.bump_site (ix sub n : Nat) : (s.bump ix sub n).site b site = s.site b site := by
  simp [State.site]

@[simp] theorem State.bump_fx (ix sub n d : Nat) : (s.bump ix sub n).fx b site d = s.fx b site d := by
  simp [State.fx]

@[simp] theorem State.countConv_site (bay fmt : Nat) (cs : List Conv) :
    (s.countConv bay fmt cs).site b site = s.site b site := by
  simp [State.countConv]

@[simp] theorem State.countConv_fx (bay fmt d : Nat) (cs : List Conv) :
    (s.countConv bay fmt cs).fx b site d = s.fx b site d := by
  simp [State.countConv]

@[simp] theorem State.fncCount_site (bay : Nat) (c : FncCfg) (outs : List ElemOut) (short : Bool) :
    (s.fncCount bay c outs short).site b site = s.site b site := by
  simp [State.fncCount]

@[simp] theorem State.fncCount_fx (bay d : Nat) (c : FncCfg) (outs : List ElemOut) (short : Bool) :
    (s.fncCount bay c outs short).fx b site d = s.fx b site d := by
  simp [State.fncCount]

@[simp] theorem State.fncFired_site (sl : Slot) (f : Fnc) :
    (s.fncFired b site sl f).site b site = (s.site b site).fired sl := by
  simp [State.fncFired]

@[simp] theorem State.fncFired_fx (sl : Slot) (f : Fnc) : (s.fncFired b site sl f).fx b site sl.ctx = f := by
  simp [State.fncFired]

end

/-- The token that a function cell makes next on its local output, with its lane (R37, R145). -/
def Site.nextTok (x : Site) (ctx : Nat) (p : Payload) (last pv : Bool) : Nat × DTok :=
  (4, mkD (if pv then p else 0) ctx last pv (tget x.outSeq (16 + ctx)))

/-- A pair that fires and makes one token adds the site's next token to those on the way. -/
theorem Site.fired_emitD_pipe (x : Site) (sl : Slot) (p : Payload) (last pv : Bool) :
    ((x.fired sl).emitD 4 sl.ctx p last pv).pipe = x.pipe ++ [x.nextTok sl.ctx p last pv] := rfl

/-! ### Packing and rows (R145, R149) -/

/-- Codes that fill exactly one token leave nothing in the packing buffer. -/
theorem packOut_oneToken {e w : Nat} {l : List Nat} (live : Bool) (he : 0 < e) (hl : l.length = e) :
    packOut e w live (e + 1) l false = ([(BitVec.ofNat 256 (packLanes w l), live)], [], false) := by
  obtain ⟨k, rfl⟩ := Nat.exists_eq_succ_of_ne_zero (Nat.ne_of_gt he)
  have htake : l.take (k + 1) = l := List.take_of_length_le (Nat.le_of_eq hl)
  have hdrop : l.drop (k + 1) = [] := List.drop_of_length_le (Nat.le_of_eq hl)
  simp [packOut, hl, htake, hdrop]

/-- A fold that keeps nothing of its list leaves what it began with. -/
theorem foldl_keep {α β : Type} (l : List α) (x : β) : l.foldl (fun y _ => y) x = x := by
  induction l with
  | nil => rfl
  | cons _ _ ih => exact ih

/-- Inside a row a token gives all its elements, and neither its position nor LAST ends the row. -/
theorem rowStep_inRow {f : Fnc} {len e : Nat} (h : f.pos + e < len) :
    (rowStep f len e false).count = e ∧ (rowStep f len e false).ends = false := by
  have hcount : min e (len - f.pos) = e := by omega
  have hends : ¬ len ≤ f.pos + e := by omega
  simp [rowStep, hcount, hends]

/-- The counter of open choices is no part of a site. -/
theorem State.withFree_site (s : State) (b site n : Nat) : ({ s with free := n } : State).site b site = s.site b site := rfl

/-- Nor is it part of a function cell. -/
theorem State.withFree_fx (s : State) (b site d n : Nat) : ({ s with free := n } : State).fx b site d = s.fx b site d := rfl

/-- FUSE takes its constants from the pair's drawer. -/
theorem fusePair_eq (s : State) (b site : Nat) (sl : Slot) (annul : Bool) (c : FncCfg) :
    fusePair s b site sl annul c = elemPair s b site sl annul c (fun f e x y n =>
      fuseElem (s.drawer b sl.ctx) site c f.sc0 f.sc1 e n (decodeElem c.inFmt x) y) (fun f _ => f) (fun _ => []) := rfl

section
variable {s : State} {b site : Nat} {sl : Slot} {c : FncCfg} {f : Fnc} {r : RowStep} (hf : s.fx b site sl.ctx = f)
  (hlive : sl.live = true)
  (hr : rowStep f (s.rowLength b site sl.ctx c) (fmtElems c.inFmt) (sl.on c.in1).last = r)
include hf hlive hr

/-- A live element-wise pair inside its row, whose results `h` fill one token, emits that token; the row goes on behind
its elements. -/
theorem elemPair_inRow {elem : Fnc → Nat → Nat → Num → Nat → ElemOut} {tail : Fnc → List (Nat × Bool)} {u : State}
    {h : Nat → ElemOut} (hu : elemPair s b site sl false c elem (fun f _ => f) tail = u)
    (he : 0 < fmtElems c.inFmt) (hout : fmtElems c.outFmt = fmtElems c.inFmt) (hpack : f.pack = [])
    (hpackLive : f.packLive = false) (hlast : (sl.on c.in1).last = false) (hcount : r.count = fmtElems c.inFmt)
    (hends : r.ends = false)
    (hh : ∀ i, elem (f.advance r (fmtElems c.inFmt) true (sl.on c.in2).pay) (f.pos + i)
      ((lanesOf c.inFmt (sl.on c.in1).pay.toNat).getD i 0)
      (decodeElem c.inFmt ((lanesOf c.inFmt (sl.on c.in2).pay.toNat).getD i 0)) (s.free + i) = h i) :
    (u.site b site).pipe = (s.site b site).pipe ++ [(s.site b site).nextTok sl.ctx (BitVec.ofNat 256
      (packLanes (fmtWidth c.outFmt) ((List.range (fmtElems c.inFmt)).map (fun i => (h i).1.code)))) false true] ∧
    (u.fx b site sl.ctx).pos = f.pos + fmtElems c.inFmt := by
  subst hf hr
  unfold elemPair at hu
  extract_lets f t1 t2 live e r f1 xs ys outs codes f2 p more toks f3 s1 s2 s3 at hu
  have hlive' : live = true := by rw [← hlive]; exact Bool.true_and _
  have hcodes : codes = (List.range (fmtElems c.inFmt)).map (fun i => (h i).1.code) := by
    have hrange : List.range r.count = List.range (fmtElems c.inFmt) := congrArg _ hcount
    simp only [codes, outs, f1, hlive', if_true, List.map_map, hrange]
    exact List.map_congr_left fun i _ => congrArg (fun o : ElemOut => o.1.code) (hh i)
  have hp : p = ([(BitVec.ofNat 256 (packLanes (fmtWidth c.outFmt)
      ((List.range (fmtElems c.inFmt)).map (fun i => (h i).1.code))), true)], [], false) := by
    have hlen : codes.length = fmtElems c.inFmt := by rw [hcodes, List.length_map, List.length_range]
    rw [← hcodes]
    simp only [p, f, hpack, hpackLive, hlive', hout, hlen, List.nil_append]
    exact packOut_oneToken true he hlen
  have hf2 : f2 = f1 := foldl_keep outs f1
  have hsite : u.site b site = s2.site b site := by
    rw [← hu, State.withFree_site, State.countConv_site, State.fncCount_site]
  have hfx : u.fx b site sl.ctx = f3 := by
    rw [← hu, State.withFree_fx, State.countConv_fx, State.fncCount_fx, State.putSite_fx, State.fncFired_fx]
  have hopen : ¬ r.ends = true := Bool.eq_false_iff.1 hends
  constructor
  · have hlast' : t1.last = false := hlast
    have htoks : toks = p.1 := if_neg hopen
    rw [hsite, State.putSite_site_self, State.fncFired_site, htoks, hp, hlast']
    exact Site.fired_emitD_pipe _ _ _ _ _
  · have hf3 : f3.pos = f2.pos := by simp only [f3, if_neg hopen]
    rw [hfx, hf3, hf2]
    rfl

/-- A live pair of a row operation emits what the row has gathered, if it ends the row, and nothing else. -/
theorem rowPair_pipe (fin : Fnc → List Conv × Payload) {h : Fnc}
    (hh : ((lanesOf c.inFmt (sl.on c.in1).pay.toNat).take r.count).foldl (fun k v => k.take (decodeElem c.inFmt v))
      (f.advance r (fmtElems c.inFmt) true 0) = h) :
    ((rowPair s b site sl false c fin).site b site).pipe = (s.site b site).pipe ++
      if r.ends then [(s.site b site).nextTok sl.ctx (fin h).2 (sl.on c.in1).last h.anyLive] else [] := by
  subst hf
  unfold rowPair
  extract_lets f t1 live e r' f1 f2
  have hlive' : live = true := by simp [live, hlive]
  have hr' : r' = r := hr
  have hf2 : f2 = h := by
    simp only [f2, hlive', if_true, ← hh, ← hr', f1]
    rfl
  rw [hr', hf2]
  cases r.ends with
  | false =>
    rw [if_neg Bool.false_ne_true, if_neg Bool.false_ne_true, State.fncFired_site, List.append_nil]
    rfl
  | true =>
    rw [if_pos rfl, if_pos rfl, State.withFree_site, State.fncCount_site, State.putSite_site_self, State.fncFired_site]
    exact Site.fired_emitD_pipe _ _ _ _ _

omit hlive in
/-- SMAX_DIV counts rows without a finite sum at their end only; inside its row it is an element-wise pair. -/
theorem smaxDivPair_inRow (hends : r.ends = false) :
    smaxDivPair s b site sl false c = elemPair s b site sl false c
      (fun f _ x _ _ => smaxDiv c (ofFp32 f.sc0) (decodeElem c.inFmt x)) (fun f _ => f) (fun _ => []) := by
  subst hf hr
  simp [smaxDivPair, hends]

end

/-- Settles O16: each command carries out its own pair, which is element-wise or of a row operation. -/
theorem functionResults : Obligations.FunctionResults := by
  intro s b row col site sl t c f hu hsite hkind hchoose hctl hopc hgo harg hc hf hlive e len x y g sent
  subst hf
  have hfire {op : Nat} {u : State} (hop : c.op = op) (hsome : op ≠ 0) (hpair : fncCompute s b site sl false = u) :
      onUnit (siteOk b row col) (fncOp op b row col) s = .next u := by
    subst hc
    rw [onUnit_inRange hu, fncOp_compute hsite hkind hchoose hctl hopc hgo harg hop hsome, hpair]
  refine ⟨fun he hout hpack hpackLive hlast hrow => ?_, ?_⟩
  · intro pay emits
    obtain ⟨hcount, hends⟩ : (rowStep (s.fx b site sl.ctx) len e (sl.on c.in1).last).count = e ∧
        (rowStep (s.fx b site sl.ctx) len e (sl.on c.in1).last).ends = false := by rw [hlast]; exact rowStep_inRow hrow
    have hemits {i : Instr} {u : State} {elem : Fnc → Nat → Nat → Num → Nat → ElemOut} {h : Nat → ElemOut}
        (hi : exec i s = .next u) (hpair : elemPair s b site sl false c elem (fun f _ => f) (fun _ => []) = u)
        (hh : ∀ k, elem g ((s.fx b site sl.ctx).pos + k) (x.getD k 0) (decodeElem c.inFmt (y.getD k 0)) (s.free + k) = h k) :
        emits i h :=
      ⟨u, hi, elemPair_inRow rfl hlive rfl hpair he hout hpack hpackLive hlast hcount hends hh⟩
    refine ⟨fun hop => hemits (u := convertPair s b site sl false c) (hfire hop (by decide) ?_) rfl fun _ => rfl,
      fun hop => hemits (u := funcPair s b site sl false c) (hfire hop (by decide) ?_) rfl fun _ => rfl,
      fun hop => hemits (hfire hop (by decide) ?_) (fusePair_eq s b site sl false c).symm fun _ => rfl,
      fun hop => hemits (u := smaxDivPair s b site sl false c) (hfire hop (by decide) ?_)
        (smaxDivPair_inRow rfl rfl hends).symm fun _ => rfl⟩
    all_goals simp only [fncCompute, hc, hop]
  · intro r h
    refine ⟨fun hop => ⟨smaxMaxPair s b site sl false c, hfire hop (by decide) ?_, rowPair_pipe rfl hlive rfl _ rfl⟩,
      fun hop => ⟨rowstatPair s b site sl false c, hfire hop (by decide) ?_, rowPair_pipe rfl hlive rfl _ rfl⟩⟩
    all_goals simp only [fncCompute, hc, hop]

end Sys2Proof.Machine

/-!
Issue and placement of tasks (O30): TASK_ISSUE, ISSUE_READS_DONE, one step of a PLACEMENT_PASS and QUANTUM_EXPIRY
(R182, R183, R266 to R279). First what the shared operations of the jig leave: a change of tasks, the joining of the ready
order, the reservation of a run. Then one equation for each way a task of the pass can go.
-/
namespace Sys2Proof.Machine

/-! ### Tables and lists -/

theorem tfind_tmap {α : Type} (t : Tbl α) (f : Nat → α → α) (k : Nat) :
    tfind (tmap t f) k = (tfind t k).map (f k) := by
  induction t with
  | nil => rfl
  | cons e r ih =>
    obtain ⟨a, x⟩ := e
    by_cases h : a = k
    · simp [tmap, tfind, h]
    · simpa [tmap, tfind, h] using ih

/-- A value written at several numbers reads back at each of them and nowhere else. -/
theorem tget_foldl_tset {α : Type} [Inhabited α] (l : List Nat) (v : α) (t : Tbl α) (c : Nat) :
    tget (l.foldl (fun m j => tset m j v) t) c = if c ∈ l then v else tget t c := by
  induction l generalizing t with
  | nil => simp
  | cons a r ih =>
    rw [List.foldl_cons, ih]
    by_cases h : c = a
    · subst h; simp
    · simp [tget_tset_ne t v h, h]

theorem mem_dedup' {a : Nat} {l : List Nat} : a ∈ dedup' l ↔ a ∈ l := by
  induction l with
  | nil => simp [dedup']
  | cons b r ih =>
    by_cases h : a = b
    · simp [dedup', h]
    · simp [dedup', h, ih]

/-- The bays of a run. -/
theorem mem_bayRun {b nb c : Nat} : c ∈ (List.range nb).map (fun j => b + j) ↔ b ≤ c ∧ c < b + nb := by
  rw [← List.range'_eq_map_range, List.mem_range'_1]

/-- The run found lies within the 32 bays and satisfies `p`, and no run below it does (R274). -/
theorem lowestRun_spec {p : Nat → Bool} {nb b : Nat} (h : lowestRun p nb = some b) :
    b + nb ≤ 32 ∧ (∀ j < nb, p (b + j) = true) ∧ ∀ c < b, ∃ j < nb, p (c + j) = false := by
  obtain ⟨hall, hmem, hbelow⟩ := List.find?_range_eq_some.1 h
  have hb := List.mem_range.1 hmem
  exact ⟨by omega, by simpa using hall, fun c hc => by simpa using hbelow c hc⟩

/-! ### A change of a task -/

/-- A task that is known is replaced by its change. -/
theorem State.modTask_of_task {s : State} {k : Nat} {x : Task} (h : s.task k = some x) (f : Task → Task) :
    s.modTask k f = { s with jig := { s.jig with tasks := tset s.jig.tasks k (f x) } } := by
  unfold State.modTask
  rw [show tfind s.jig.tasks k = some x from h]

section
variable (s : State) (k : Nat) (f : Task → Task)

theorem State.modTask_task (v : Nat) :
    (s.modTask k f).task v = if v = k then (s.task k).map f else s.task v := by
  cases h : s.task k with
  | none =>
    have hsame : s.modTask k f = s := by
      unfold State.modTask
      rw [show tfind s.jig.tasks k = none from h]
    by_cases hv : v = k
    · simp [hsame, hv, h]
    · simp [hsame, hv]
  | some x =>
    rw [State.modTask_of_task h]
    by_cases hv : v = k
    · subst hv; simp [State.task, tfind_tset_self]
    · simp [State.task, tfind_tset_ne _ _ hv, hv]

/-- Nothing but the tasks changes. -/
theorem State.modTask_frame :
    s.modTask k f = { s with jig := { s.jig with tasks := (s.modTask k f).jig.tasks } } := by
  unfold State.modTask
  split <;> rfl

end

/-- Changing several tasks changes nothing but the tasks. -/
theorem State.foldl_modTask_frame (l : List Nat) (f : Task → Task) (s : State) :
    l.foldl (fun st v => st.modTask v f) s =
      { s with jig := { s.jig with tasks := (l.foldl (fun st v => st.modTask v f) s).jig.tasks } } := by
  induction l generalizing s with
  | nil => rfl
  | cons a r ih =>
    rw [List.foldl_cons, ih, State.modTask_frame s a f]

/-- Giving several tasks a reason to be saved leaves every task otherwise as it was. -/
theorem State.foldl_why_task (l : List Nat) (reason : Task → SaveWhy) {s : State} {v : Nat} {y : Task}
    (h : s.task v = some y) : ∃ r,
      (l.foldl (fun st a => st.modTask a (fun x => { x with why := reason x })) s).task v = some { y with why := r } := by
  induction l generalizing s y with
  | nil => exact ⟨y.why, h⟩
  | cons a r ih =>
    rw [List.foldl_cons]
    by_cases hv : v = a
    · subst hv
      exact ih (y := { y with why := reason y }) (by rw [State.modTask_task, if_pos rfl, h, Option.map_some])
    · exact ih (by rw [State.modTask_task, if_neg hv, h])

/-! ### The ready order (R272) -/

section
variable (s : State) (k : Nat) (head : Bool)

/-- The place that a task takes is judged on the tasks as they are once it has joined. -/
theorem State.enqueueTask_order :
    (s.enqueueTask k head).jig.order = orderInsert ((s.enqueueTask k head).goesBefore k head) k s.jig.order := by
  have horder : (s.modTask k (fun t => { t with entered := iclkOf s.clk.dcount })).jig.order = s.jig.order := by
    rw [State.modTask_frame]
  rw [← horder]
  rfl

theorem State.enqueueTask_task (v : Nat) : (s.enqueueTask k head).task v =
    if v = k then (s.task k).map (fun t => { t with entered := iclkOf s.clk.dcount }) else s.task v :=
  State.modTask_task s k _ v

/-- Nothing but the ready order and the tasks changes. -/
theorem State.enqueueTask_frame : s.enqueueTask k head = { s with jig := { s.jig with
    order := (s.enqueueTask k head).jig.order, tasks := (s.enqueueTask k head).jig.tasks } } := by
  unfold State.enqueueTask
  rw [State.modTask_frame]
  rfl

end

/-! ### Issue (R182, R183, R267) -/

theorem exec_taskIssue (g i : Nat) (s : State) : exec (.taskIssue g i) s = .next (opTaskIssue g i s) := rfl

theorem exec_issueReadsDone (g i : Nat) (s : State) :
    exec (.issueReadsDone g i) s = .next (opIssueReadsDone g i s) := rfl

/-- A task whose checks have passed is recorded, ISSUED, and joins the ready order. -/
def State.issueTask (s : State) (k : Nat) (y : Task) : State :=
  ((s.putJig { s.jig with tasks := tset s.jig.tasks k y }).modTask k (fun z => { z with st := .issued })).enqueueTask k false

section
variable {s s1 : State} {g i : Nat} {gr : Graph} {x : Task} (hgr : tfind s.jig.graphs g = some gr)
  (hx : s.task (taskKey g i) = some x)
include hgr hx

/-- A counted task with no predecessor outstanding begins its reads. -/
theorem opTaskIssue_ready (hcounted : gr.counted = true) (hst : x.st = .counting) (hcount : x.count = 0) :
    opTaskIssue g i s = s.modTask (taskKey g i) (fun y => { y with st := .reading }) := by
  simp [opTaskIssue, hgr, hx, hcounted, hst, hcount]

variable {st : Nat} {d : List Nat} (hst : x.st = .reading) (hport : gr.port = none)
  (hread : s.readDev x.func (gr.taskBase + 128 * i) 128 = (st, d, s1))
include hst hport hread

/-- A descriptor that cannot be read completes its task with the status of the read and USER 0. -/
theorem opIssueReadsDone_unread (hbad : st ≠ stOk) : opIssueReadsDone g i s =
    (s1.modTask (taskKey g i) (fun y => { y with notify := true, user := 0 })).finishTask (taskKey g i) st := by
  simp [opIssueReadsDone, hgr, hx, hst, hport, hread, hbad]

/-- A descriptor that was read is judged by the checks of issue. -/
theorem opIssueReadsDone_read {bad : Nat} {y : Task} {s2 : State} (hok : st = stOk)
    (hcheck : checkIssue s1 x.func i x d none = (bad, y, s2)) : opIssueReadsDone g i s =
    if bad = stOk then s2.issueTask (taskKey g i) y
    else (s2.putJig { s2.jig with tasks := tset s2.jig.tasks (taskKey g i) y }).finishTask (taskKey g i) bad := by
  simp [opIssueReadsDone, hgr, hx, hst, hport, hread, hok, hcheck, State.issueTask]

end

section
variable (s : State) (k : Nat) (y : Task)

/-- The state before a checked task joins the ready order holds it as ISSUED. -/
theorem State.putJig_modTask_issued :
    (s.putJig { s.jig with tasks := tset s.jig.tasks k y }).modTask k (fun z => { z with st := .issued }) =
      { s with jig := { s.jig with tasks := tset (tset s.jig.tasks k y) k { y with st := .issued } } } :=
  State.modTask_of_task (by exact tfind_tset_self _ _ _) _

theorem State.issueTask_task_self :
    (s.issueTask k y).task k = some { y with st := .issued, entered := iclkOf s.clk.dcount } := by
  rw [State.issueTask, State.putJig_modTask_issued, State.enqueueTask_task, if_pos rfl, State.task, tfind_tset_self,
    Option.map_some]

theorem State.issueTask_task_ne {v : Nat} (h : v ≠ k) : (s.issueTask k y).task v = s.task v := by
  rw [State.issueTask, State.putJig_modTask_issued, State.enqueueTask_task, if_neg h, State.task, tfind_tset_ne _ _ h,
    tfind_tset_ne _ _ h, State.task]

theorem State.issueTask_order :
    (s.issueTask k y).jig.order = orderInsert ((s.issueTask k y).goesBefore k false) k s.jig.order := by
  rw [State.issueTask, State.enqueueTask_order, State.putJig_modTask_issued]

/-- Issue changes nothing but the ready order and the tasks. -/
theorem State.issueTask_frame : s.issueTask k y = { s with jig := { s.jig with
    order := (s.issueTask k y).jig.order, tasks := (s.issueTask k y).jig.tasks } } := by
  rw [State.issueTask, State.putJig_modTask_issued]
  exact State.enqueueTask_frame _ k false

end

/-! ### Quantum (R277) -/

theorem exec_quantumExpiry (g i : Nat) (s : State) : exec (.quantumExpiry g i) s = .next (opQuantumExpiry g i s) := rfl

/-- A placed task whose quantum has run out is marked. -/
theorem opQuantumExpiry_due {s : State} {g i : Nat} {x : Task} (hx : s.task (taskKey g i) = some x) (hst : x.st = .placed)
    (hact : s.activated (taskKey g i) x = true) (hdue : x.quantum ≤ s.clk.dcount - x.ranAt) :
    opQuantumExpiry g i s =
      { s with jig := { s.jig with tasks := tset s.jig.tasks (taskKey g i) { x with expired := true } } } := by
  simp [opQuantumExpiry, State.modTask_of_task hx, hst, hact, hdue]

/-! ### Reservation of a run (R278, R279) -/

/-- A bay can be had: it is free, or a task that yields holds it and no other has it reserved. -/
theorem State.canHave_iff (s : State) (w c : Nat) : s.canHave w c = true ↔ s.bayFree w c = true ∨
    ∃ v, tget s.jig.held c = some v ∧ s.yields v w = true ∧
      (tget s.jig.reserved c = none ∨ tget s.jig.reserved c = some w) := by
  cases hheld : tget s.jig.held c <;> cases hres : tget s.jig.reserved c <;> simp [State.canHave, hheld, hres]

section
variable (s : State) (w : Nat) (x : Task) (b : Nat)

/-- Nothing but reservations, pre-emptions and tasks changes. -/
theorem State.reserveRun_frame : s.reserveRun w x b = { s with jig := { s.jig with
    reserved := (s.reserveRun w x b).jig.reserved, preempt := (s.reserveRun w x b).jig.preempt
    tasks := (s.reserveRun w x b).jig.tasks } } := by
  simp only [State.reserveRun]
  rw [State.foldl_modTask_frame]
  rfl

/-- A task of the run is told why it is to be saved; no other task changes. -/
theorem State.reserveRun_task {v : Nat} {y : Task} (h : s.task v = some y) :
    ∃ r, (s.reserveRun w x b).task v = some { y with why := r } :=
  State.foldl_why_task _ _ h

/-- The bays of the run are reserved for the task, and no others. -/
theorem State.reserveRun_reserved (c : Nat) : tget (s.reserveRun w x b).jig.reserved c =
    if b ≤ c ∧ c < b + x.nb then some w else if tget s.jig.reserved c = some w then none else tget s.jig.reserved c := by
  have hclear : tget (tmap s.jig.reserved (fun _ r => if r == some w then none else r)) c =
      if tget s.jig.reserved c = some w then none else tget s.jig.reserved c := by
    rw [tget, tget, tfind_tmap]
    cases tfind s.jig.reserved c <;> simp
  simp only [← mem_bayRun, ← hclear]
  exact tget_foldl_tset _ _ _ c

/-- The tasks on the run are to be pre-empted. -/
theorem State.mem_reserveRun_preempt (v : Nat) : v ∈ (s.reserveRun w x b).jig.preempt ↔
    v ∈ s.jig.preempt ∨ ∃ c, b ≤ c ∧ c < b + x.nb ∧ tget s.jig.held c = some v := by
  simp only [State.reserveRun, State.putJig, mem_dedup', List.mem_append, List.mem_filterMap, mem_bayRun, and_assoc]

end

/-! ### One task of the pass (R278, R279) -/

section
variable {s : State} {w b : Nat} {x : Task}

theorem State.takeRun_issued (hst : x.st = .issued) :
    s.takeRun w x b = s.placeTask w x b := by
  simp [State.takeRun, hst]

theorem State.takeRun_saved (hst : x.st = .saved) :
    s.takeRun w x b = (s.hold w b x.nb).modTask w (fun y => { y with st := .restoring, doneBays := [] }) := by
  simp [State.takeRun, hst]

variable (hx : s.task w = some x)
include hx

section
variable (hwait : s.waitRun w x = some b)
include hwait

/-- A task whose reserved run is free takes it, if it is saved or the run suits it. -/
theorem passTask_reserved_free (hfree : ∀ j < x.nb, s.bayFree w (b + j) = true)
    (hfit : x.st = .saved ∨ s.suits x b = true) : passTask s w = s.takeRun w x b := by
  have hall : (List.range x.nb).all (fun j => s.bayFree w (b + j)) = true := by simpa using hfree
  have hfit' : (x.st == .saved || s.suits x b) = true := by simpa using hfit
  simp [passTask, hx, hwait, hall, hfit']

/-- A task whose reserved run is not free waits on. -/
theorem passTask_reserved_waits (hheld : ∃ j < x.nb, s.bayFree w (b + j) = false) : passTask s w = s := by
  have hall : (List.range x.nb).all (fun j => s.bayFree w (b + j)) = false := by simpa using hheld
  simp [passTask, hx, hwait, hall]

end

variable (hwait : s.waitRun w x = none)
include hwait

/-- A saved task whose own bays are free takes them. -/
theorem passTask_saved_free (hst : x.st = .saved) (hfree : ∀ j < x.nb, s.bayFree w (x.base + j) = true) :
    passTask s w = s.takeRun w x x.base := by
  have hall : (List.range x.nb).all (fun j => s.bayFree w (x.base + j)) = true := by simpa using hfree
  simp [passTask, hx, hwait, hst, hall]

variable (hst : x.st = .issued)
include hst

/-- An issued task takes the lowest run that is free for it, where that suits it. -/
theorem passTask_issued_free (hrun : lowestRun (s.bayFree w) x.nb = some b) (hsuits : s.suits x b = true) :
    passTask s w = s.takeRun w x b := by
  simp [passTask, hx, hwait, hst, hrun, hsuits]

/-- An issued task with no free run has the lowest run that it can have reserved for it, and waits if there is none. -/
theorem passTask_issued_noFree (hrun : lowestRun (s.bayFree w) x.nb = none) :
    passTask s w = ((lowestRun (s.canHave w) x.nb).map (s.reserveRun w x)).getD s := by
  simp [passTask, hx, hwait, hst, hrun]

end

/-- Settles O30: each command does its own operation, and each clause is one case of what that operation does. -/
theorem taskIssue : Obligations.TaskIssue := by
  refine ⟨fun s g i k gr x hk hgr hx => ?_, fun s => rfl, fun s w b x hx => ?_, fun p nb b => lowestRun_spec⟩
  · subst hk
    refine ⟨fun hcounted hst hcount => ?_, fun st d s1 hst hport hread => ⟨fun hbad => ?_, fun hok bad y s2 hcheck => ?_⟩,
      fun hst hact hdue => ?_⟩
    · rw [exec_taskIssue, opTaskIssue_ready hgr hx hcounted hst hcount, State.modTask_of_task hx]
    · rw [exec_issueReadsDone, opIssueReadsDone_unread hgr hx hst hport hread hbad]
    · have hchecked := opIssueReadsDone_read hgr hx hst hport hread hok hcheck
      refine ⟨fun hgood => ⟨s2.issueTask (taskKey g i) y, ?_, s2.issueTask_task_self _ y, s2.issueTask_order _ y,
        s2.issueTask_frame _ y, fun j => s2.issueTask_task_ne _ y⟩, fun hbad => ?_⟩
      · rw [exec_issueReadsDone, hchecked, if_pos hgood]
      · rw [exec_issueReadsDone, hchecked, if_neg hbad]
        rfl
    · rw [exec_quantumExpiry, opQuantumExpiry_due hx hst hact hdue]
  · refine ⟨fun hwait hst hrun hsuits => ?_, fun hwait hst hfree => ?_, fun hwait hfree => ⟨fun hst hsuits => ?_, fun hst => ?_⟩,
      passTask_reserved_waits hx, s.canHave_iff w, fun hwait hst hrun hcan => ⟨s.reserveRun w x b, ?_,
        s.reserveRun_frame w x b, fun v y hy => .inr (s.reserveRun_task w x b hy), s.reserveRun_reserved w x b,
        s.mem_reserveRun_preempt w x b⟩, fun hwait hst hrun hcan => ?_⟩
    · rw [passTask_issued_free hx hwait hst hrun hsuits, State.takeRun_issued hst]
    · rw [passTask_saved_free hx hwait hst hfree, State.takeRun_saved hst]
    · rw [passTask_reserved_free hx hwait hfree (.inr hsuits), State.takeRun_issued hst]
    · rw [passTask_reserved_free hx hwait hfree (.inl hst), State.takeRun_saved hst]
    · rw [passTask_issued_noFree hx hwait hst hrun, hcan, Option.map_some, Option.getD_some]
    · rw [passTask_issued_noFree hx hwait hst hrun, hcan, Option.map_none, Option.getD_none]

end Sys2Proof.Machine
